-- ==== Sys2Proof/Word.lean ====
section
/-! DEFINITION. The words the site loop and the audio ports carry, and the numbers that name the part's
records (00 section 0.5.1: screens 1..4, outputs 1..5, lanes and kitchen stations 1..8; each is held here
counted from 0). -/

namespace Sys2Proof

/-- One byte of a cell. -/
abbrev Byte := BitVec 8

/-- A two-byte field of a cell. -/
abbrev Half := BitVec 16

/-- One channel of a programme or output frame, 24-bit two's complement (05). -/
abbrev Sample24 := BitVec 24

/-- One sample of clip memory, 16-bit signed (R93). -/
abbrev Sample16 := BitVec 16

/-- What arrives at one data position of port A: a byte, or `none` for a code that is no symbol (R18, R24). -/
abbrev Sym := Option Byte

/-- Screen `s` of the manual is `s - 1` here. Input `s` and delay line `s` carry the same number. -/
abbrev ScreenId := Fin 4

/-- Output `o` of the manual is `o - 1` here; output 5, the PA, is `4`. -/
abbrev OutputId := Fin 5

/-- Lane index 1..8, counted from 0. -/
abbrev LaneId := Fin 8

/-- Kitchen station index 1..8, counted from 0. -/
abbrev KitchenId := Fin 8

/-- Pool index of a ticket, 0..255 (R134). -/
abbrev TicketId := Fin 256

/-- Clip id, 0..63 (R93). -/
abbrev ClipId := Fin 64

/-- Phrase id, 0..63 (R99). -/
abbrev PhraseId := Fin 64

/-- The two loop ports (02). -/
inductive PortId
  | a
  | b
  deriving DecidableEq, Repr

/-- The source station and the tag of a delivered cell (Table 2-3). -/
structure Sender where
  source : Byte
  tag : Half
  deriving DecidableEq, Repr

/-- One stereo frame (05 section 5.1). -/
structure Frame where
  left : Sample24
  right : Sample24
  deriving DecidableEq, Repr

end Sys2Proof
end

