-- ==== Sys2Proof/Syntax.lean ====
section
/-! DEFINITION. The commands: one constructor per row of spec/opcode_table.json, in the table's order. The table
gives no operands; each constructor carries what its rule says the command carries. A raw field of a cell keeps
the width of 09 section 9.7, so that every code a cell can carry is there to be judged. -/

namespace Sys2Proof

/-- The commands of the part. -/
inductive Instr
  /-- R162: a cold reset that ends with `strap` on STN0..STN6. -/
  | coldReset (strap : BitVec 7)
  /-- R16. -/
  | hailReceived (port : PortId)
  /-- R16. -/
  | hailAckReceived (port : PortId)
  /-- R16. -/
  | idleReceived (port : PortId)
  /-- R18: a code that is no symbol; on port B also START or data. -/
  | symbolErrorReceived (port : PortId)
  /-- R17. -/
  | lossOfSignal (port : PortId)
  /-- R19. -/
  | quietPeriodEnd (port : PortId)
  /-- R19. -/
  | lineErrorWindowEnd
  /-- R28: START and the cell's first data positions, the eight of the header and any that follow at once. -/
  | cellHeaderArrives (head : List Sym)
  /-- R24: the remaining data positions of the cell. -/
  | cellTailArrives (rest : List Sym)
  /-- R37. -/
  | portBTurn
  /-- R46: the timer of the tracker entry with this tag. -/
  | returnTimeout (tag : Half)
  /-- R154: table code, index and entry bytes as the cell carries them. -/
  | mgmtWrite (sender : Sender) (table : Byte) (index : Half) (entry : List Byte)
  /-- R153. -/
  | siteWrite (sender : Sender) (index : Half) (entry : List Byte)
  /-- R4. -/
  | screenWrite (sender : Sender) (index : Half) (entry : List Byte)
  /-- R51. -/
  | segmentWrite (sender : Sender) (index : Half) (entry : List Byte)
  /-- R52. -/
  | cueWrite (sender : Sender) (index : Half) (entry : List Byte)
  /-- R74. -/
  | outputWrite (sender : Sender) (index : Half) (entry : List Byte)
  /-- R94. -/
  | clipWrite (sender : Sender) (index : Half) (entry : List Byte)
  /-- R99. -/
  | phraseWrite (sender : Sender) (index : Half) (entry : List Byte)
  /-- R110. -/
  | eventWrite (sender : Sender) (index : Half) (entry : List Byte)
  /-- R114. -/
  | laneWrite (sender : Sender) (index : Half) (entry : List Byte)
  /-- R130. -/
  | menuWrite (sender : Sender) (index : Half) (entry : List Byte)
  /-- R132. -/
  | stationWrite (sender : Sender) (index : Half) (entry : List Byte)
  /-- R34. -/
  | tapWrite (sender : Sender) (index : Half) (entry : List Byte)
  /-- R92, R81. -/
  | outputStatusRead (sender : Sender) (index : Half)
  /-- R54. -/
  | start (sender : Sender) (screen : Byte)
  /-- R63. -/
  | go (sender : Sender) (screen : Byte)
  /-- R64. -/
  | hold (sender : Sender) (screen : Byte)
  /-- R65. -/
  | abort (sender : Sender) (screen : Byte)
  /-- R64. -/
  | rehearse (sender : Sender) (screen setting : Byte)
  /-- R66. -/
  | panelKey (source screen key : Byte)
  /-- R97. -/
  | clipSeal (sender : Sender) (clip : Byte)
  /-- R97. -/
  | clipDelete (sender : Sender) (clip : Byte)
  /-- R102. -/
  | announce (sender : Sender) (phrase mask priority mode : Byte) (number : Half)
  /-- R128. -/
  | setCount (sender : Sender) (screen : Byte) (count tall : Half)
  /-- R127. -/
  | setAdmission (sender : Sender) (screen state : Byte)
  /-- R150. -/
  | setOrdering (sender : Sender) (screen state : Byte)
  /-- R148. -/
  | cancelOrder (sender : Sender) (number : Half)
  /-- R87. -/
  | clearFault (sender : Sender) (output : Byte)
  /-- R160. -/
  | clearCounters (sender : Sender)
  /-- R161. -/
  | restartWarm (sender : Sender)
  /-- R96. -/
  | clipData (sender : Sender) (clip : Byte) (offset : BitVec 24) (run : List Sample16)
  /-- R67. -/
  | showClockTick
  /-- R67. -/
  | programmeClockTick (screen : ScreenId)
  /-- R55. -/
  | restEnd (screen : ScreenId)
  /-- R56. -/
  | skyReport (source : Byte) (lux : Half)
  /-- R56. -/
  | skyAgeExpiry
  /-- R69. -/
  | projState (source state : Byte)
  /-- R72: the bit clocks of the two halves, the time since the previous frame's start in nanoseconds, the frame. -/
  | programmeFrame (input : ScreenId) (leftClocks rightClocks gapNs : Nat) (frame : Frame)
  /-- R72. -/
  | frameMissed (input : ScreenId)
  /-- R73. -/
  | soundLostDelayExpiry (input : ScreenId)
  /-- R81. -/
  | samplePeriod
  /-- R77. -/
  | slewStep (line : ScreenId)
  /-- R84. -/
  | levelBlockEnd (output : OutputId)
  /-- R85. -/
  | txStatus (source carrier flags : Byte)
  /-- R88. -/
  | txSilenceExpiry (output : ScreenId)
  /-- R95. -/
  | fillCompletion
  /-- R104. -/
  | entryStart (output : OutputId)
  /-- R104. -/
  | entryEnd (output : OutputId)
  /-- R117. -/
  | admitAsk (sender : Sender) (screen vehicle : Byte)
  /-- R115. -/
  | laneBeat (source : Byte)
  /-- R121. -/
  | entered (source vehicle : Byte)
  /-- R122. -/
  | backedOut (source vehicle : Byte)
  /-- R123. -/
  | exited (source vehicle : Byte)
  /-- R120. -/
  | passTimeout (lane : LaneId)
  /-- R116. -/
  | laneSilenceExpiry (lane : LaneId)
  /-- R135: the screen and the lines, each an item code and a quantity. -/
  | orderPlace (sender : Sender) (screen : Byte) (lines : List (Byte × Byte))
  /-- R133. -/
  | stationBeat (source : Byte)
  /-- R141. -/
  | bump (source : Byte) (number : Half) (kitchen : Byte)
  /-- R144. -/
  | recallExpiry (number : Half)
  /-- R145: the ticket of this order at this kitchen station. -/
  | lateTimerExpiry (number : Half) (kitchen : KitchenId)
  /-- R147. -/
  | pickup (source : Byte) (number : Half)
  /-- R16. -/
  | dataSymbolOutsideCell
  deriving DecidableEq, Repr

end Sys2Proof
end

