-- ==== Sys2Proof/WellFormed.lean ====
section
/-! DEFINITION. Which commands can come: the lengths a cell of 64 bytes leaves room for (Table 2-3, 09 section 9.7)
and the range of an order number (R134). The meanings are total and do not rest on these checks. -/

namespace Sys2Proof

/-- A cell's head is its eight header positions at least and never the whole cell (R28). -/
abbrev headFits (head : List Sym) : Prop := 8 ≤ head.length ∧ head.length ≤ 63

/-- A cell's rest is at least its last position and at most all after the header (R24). -/
abbrev restFits (rest : List Sym) : Prop := 1 ≤ rest.length ∧ rest.length ≤ 56

/-- A MGMT_WRITE has 3 payload bytes before its entry, of 50 at most (09 section 9.7). -/
abbrev entryFits (entry : List Byte) : Prop := entry.length ≤ 47

/-- A CLIP_DATA cell holds at most 23 samples (R96). -/
abbrev runFits (run : List Sample16) : Prop := run.length ≤ 23

/-- An ORDER_PLACE has 2 payload bytes before its lines of 2 bytes each, of 50 at most (09 section 9.7). -/
abbrev linesFit (lines : List (Byte × Byte)) : Prop := lines.length ≤ 24

/-- An order number lies in 1..999 (R134). -/
abbrev orderNumberFits (number : Half) : Prop := 1 ≤ number.toNat ∧ number.toNat ≤ 999

/-- A delivered cell has a source in 1..120 (R29). -/
abbrev sourceFits (source : Byte) : Prop := 1 ≤ source.toNat ∧ source.toNat ≤ 120

/-- The command can come from the hardware around the part. -/
def Instr.wellFormed : Instr → Bool
  | .cellHeaderArrives head => decide (headFits head)
  | .cellTailArrives rest => decide (restFits rest)
  | .mgmtWrite sender _ _ entry => decide (sourceFits sender.source) && decide (entryFits entry)
  | .siteWrite sender _ entry => decide (sourceFits sender.source) && decide (entryFits entry)
  | .screenWrite sender _ entry => decide (sourceFits sender.source) && decide (entryFits entry)
  | .segmentWrite sender _ entry => decide (sourceFits sender.source) && decide (entryFits entry)
  | .cueWrite sender _ entry => decide (sourceFits sender.source) && decide (entryFits entry)
  | .outputWrite sender _ entry => decide (sourceFits sender.source) && decide (entryFits entry)
  | .clipWrite sender _ entry => decide (sourceFits sender.source) && decide (entryFits entry)
  | .phraseWrite sender _ entry => decide (sourceFits sender.source) && decide (entryFits entry)
  | .eventWrite sender _ entry => decide (sourceFits sender.source) && decide (entryFits entry)
  | .laneWrite sender _ entry => decide (sourceFits sender.source) && decide (entryFits entry)
  | .menuWrite sender _ entry => decide (sourceFits sender.source) && decide (entryFits entry)
  | .stationWrite sender _ entry => decide (sourceFits sender.source) && decide (entryFits entry)
  | .tapWrite sender _ entry => decide (sourceFits sender.source) && decide (entryFits entry)
  | .clipData sender _ _ run => decide (sourceFits sender.source) && decide (runFits run)
  | .orderPlace sender _ lines => decide (sourceFits sender.source) && decide (linesFit lines)
  | .outputStatusRead sender _ => decide (sourceFits sender.source)
  | .start sender _ => decide (sourceFits sender.source)
  | .go sender _ => decide (sourceFits sender.source)
  | .hold sender _ => decide (sourceFits sender.source)
  | .abort sender _ => decide (sourceFits sender.source)
  | .rehearse sender _ _ => decide (sourceFits sender.source)
  | .clipSeal sender _ => decide (sourceFits sender.source)
  | .clipDelete sender _ => decide (sourceFits sender.source)
  | .announce sender _ _ _ _ _ => decide (sourceFits sender.source)
  | .setCount sender _ _ _ => decide (sourceFits sender.source)
  | .setAdmission sender _ _ => decide (sourceFits sender.source)
  | .setOrdering sender _ _ => decide (sourceFits sender.source)
  | .cancelOrder sender _ => decide (sourceFits sender.source)
  | .clearFault sender _ => decide (sourceFits sender.source)
  | .clearCounters sender => decide (sourceFits sender.source)
  | .restartWarm sender => decide (sourceFits sender.source)
  | .admitAsk sender _ _ => decide (sourceFits sender.source)
  | .panelKey source _ _ => decide (sourceFits source)
  | .skyReport source _ => decide (sourceFits source)
  | .projState source _ => decide (sourceFits source)
  | .txStatus source _ _ => decide (sourceFits source)
  | .laneBeat source => decide (sourceFits source)
  | .entered source _ => decide (sourceFits source)
  | .backedOut source _ => decide (sourceFits source)
  | .exited source _ => decide (sourceFits source)
  | .stationBeat source => decide (sourceFits source)
  | .bump source _ _ => decide (sourceFits source)
  | .pickup source _ => decide (sourceFits source)
  | .recallExpiry number => decide (orderNumberFits number)
  | .lateTimerExpiry number _ => decide (orderNumberFits number)
  | .coldReset _ | .hailReceived _ | .hailAckReceived _ | .idleReceived _ | .symbolErrorReceived _
  | .lossOfSignal _ | .quietPeriodEnd _ | .lineErrorWindowEnd | .portBTurn | .returnTimeout _ | .showClockTick
  | .programmeClockTick _ | .restEnd _ | .skyAgeExpiry | .programmeFrame _ _ _ _ _ | .frameMissed _
  | .soundLostDelayExpiry _ | .samplePeriod | .slewStep _ | .levelBlockEnd _ | .txSilenceExpiry _ | .fillCompletion
  | .entryStart _ | .entryEnd _ | .passTimeout _ | .laneSilenceExpiry _ | .dataSymbolOutsideCell => true

end Sys2Proof
end

