-- ==== Sys2Proof/Config.lean ====
section
/-! DEFINITION. What the spec leaves to the implementation or does not state: the strap of the part that
`State.reset` stands for, and the free values, which have no body. -/

namespace Sys2Proof.Config

/-- DESIGN CHOICE (log 1), unsafe. The station strap sampled before `State.reset`; the part of the worked
sequence 2.8.3 is at station 9. COLD_RESET takes any strap. -/
def strap : BitVec 7 := 9

/-- DESIGN CHOICE (log 21), safe. How a yes/no byte with a code other than 0 and 1 is stored where its rule
names no refusal for it (TAP valid, kind ANY and destination ANY, R34; EVENT notice flag, R110; MENU available,
R130): a free value, fresh for each `draw` (`State.freeCount`). -/
opaque unlistedFlag (draw : Nat) (code : Byte) : Bool

/-- The bytes of replies and notices for which 09 section 9.7 names a place and no rule states a value. -/
inductive Unstated
  | commandIndexLow | commandIndexHigh
  | noticeClock0 | noticeClock1 | noticeClock2
  | lanePendingScreen | laneVehicle | lanePassSeconds | laneSilenceSeconds
  | paDelayLow | paDelayHigh | paSticky | paCarrier | paLock | paLost
  deriving DecidableEq, Repr

/-- DESIGN CHOICE (log 22), safe. The value of such a byte: free, fresh for each `draw` (`State.freeCount`). -/
opaque unstated (draw : Nat) (place : Unstated) : Byte

end Sys2Proof.Config
end

