-- ==== Sys2Proof/Machine/State.lean ====
section
/-! DEFINITION. The state of the part: every record, table, queue, counter and flag the spec names (INVENTORY.md,
State), as plain data, and its value after a cold reset. -/

namespace Sys2Proof.Machine

/-! ## Reasons to stop -/

/-- No rule of the spec stops the part (INVENTORY.md, Faults): there is no fault. -/
inductive Fault
  deriving DecidableEq, Repr

/-- The interface's refusal. No arm of `exec` answers with it: every row has its meaning. -/
inductive Refusal
  /-- Raised by an arm of `exec` without a meaning, of which there is none. Safe: the run stops. -/
  | notModelled (mnemonic : String)
  deriving DecidableEq, Repr

/-! ## Enumerations of the tables -/

/-- Show states (R9). -/
inductive ShowState
  | dark | preshow | feature | intermission | credits
  deriving DecidableEq, Repr

/-- Sequencer states (Table 1-1). -/
inductive SeqState
  | idle | running | held
  deriving DecidableEq, Repr

/-- Hold reasons (Table 1-1). -/
inductive HoldReason
  | operator | step | soundLost | txCut | projFault | restart
  deriving DecidableEq, Repr

/-- Clock sources (Table 1-1). -/
inductive ClockSource
  | timebase | programme
  deriving DecidableEq, Repr

/-- Projector states (Table 1-1). -/
inductive ProjState
  | unknown | playing | paused | stopped | fault
  deriving DecidableEq, Repr

/-- Call policies (Table 1-1). -/
inductive CallPolicy
  | callAnytime | holdInFeature
  deriving DecidableEq, Repr

/-- Admission states (Table 1-1). -/
inductive Admission
  | closed | opened
  deriving DecidableEq, Repr

/-- Ordering states (Table 1-1). -/
inductive OrderingState
  | closed | opened | lastCall
  deriving DecidableEq, Repr

/-- Link states (Table 2-1). -/
inductive LinkState
  | down | hailing | answering | up
  deriving DecidableEq, Repr

/-- Tap actions (Table 3-1). -/
inductive TapAction
  | pass | copy | drop
  deriving DecidableEq, Repr

/-- Cue triggers (Table 4-2). -/
inductive TriggerKind
  | go | clock | after | follow | dusk
  deriving DecidableEq, Repr

/-- Cue actions (Table 4-2). -/
inductive ActionKind
  | segment | proj | announce | level | admission | orders | loop | endShow
  deriving DecidableEq, Repr

/-- Dark remaps (Table 5-1). -/
inductive DarkRemap
  | mute | pa | programme
  deriving DecidableEq, Repr

/-- Carrier states (05 section 5.9). -/
inductive Carrier
  | unknown | on | off
  deriving DecidableEq, Repr

/-- Clip states (Table 6-1). -/
inductive ClipState
  | empty | clearing | loading | ready
  deriving DecidableEq, Repr

/-- Announcement modes (R102). -/
inductive AnnMode
  | over | replace
  deriving DecidableEq, Repr

/-- Request origins (R102). -/
inductive Origin
  | cue | event | console | orderCall
  deriving DecidableEq, Repr

/-- Lane roles (Table 7-1). -/
inductive LaneRole
  | entry | exit
  deriving DecidableEq, Repr

/-- Lane states (Table 7-1). -/
inductive LaneState
  | unseen | active | silent
  deriving DecidableEq, Repr

/-- Vehicles (R117). -/
inductive Vehicle
  | car | tall
  deriving DecidableEq, Repr

/-- Kitchen station states (Table 8-2). -/
inductive KitchenState
  | unseen | present | absent
  deriving DecidableEq, Repr

/-- Order states (Table 8-3). -/
inductive OrderState
  | opened | ready
  deriving DecidableEq, Repr

/-- Ticket states (Table 8-4). -/
inductive TicketState
  | backlog | sent | bumped
  deriving DecidableEq, Repr

/-- The kinds the part originates, in the order of COUNTERS page 2 (Tables 2-4, 9-6). -/
inductive OwnKind
  | admitReply | projCmd | txCmd | mgmtReply | notice | orderReply | ticket | ticketVoid | orderState
  deriving DecidableEq, Repr

/-- The blocks that own tracked cells (Table 3-2). -/
inductive Owner
  | orderRouter | showSequencer | soundPath
  deriving DecidableEq, Repr

/-- What an outcome is about (Table 3-2): a ticket's pool index with its send serial (R139), the ticket voided
(R149), a screen (R68) or an output (R89). -/
inductive OwnerRef
  | none
  | ticket (index : TicketId) (serial : Byte)
  | voided (index : TicketId)
  | screen (s : ScreenId)
  | output (s : ScreenId)
  deriving DecidableEq, Repr

/-! ## Site Timebase and loop ports -/

/-- The tick counters of R12. -/
structure Timebase where
  ms : Nat := 0
  tens : Nat := 0
  secs : Nat := 0
  deriving DecidableEq, Repr

/-- Loop port record (Table 2-1) with the port's counters of R33. -/
structure Port where
  state : LinkState := .hailing
  window : Nat := 0
  lossTimer : Bool := false
  quiet : Option Nat := none
  held : Bool := false
  lineErrors : Nat := 0
  linkDowns : Nat := 0
  deriving DecidableEq, Repr

/-- What R28 decided for a cell on its header. -/
inductive Verdict
  | stripped | orphan | dropped | passed | copied
  deriving DecidableEq, Repr

/-- Where the outgoing copy of the arriving cell stands (R37): it waits for a turn on a free link, waits in the
elastic buffer, is leaving cut-through, or nothing of it leaves port B any more. -/
inductive Place
  | arriving | buffered | leaving | gone
  deriving DecidableEq, Repr

/-- The cell arriving at port A. `bytes` are the data positions so far, a symbol error taken as 0 (R24); `discard`
marks a cell whose START reached port A in a state other than UP (R16). -/
structure Arriving where
  bytes : List Byte := []
  symbolError : Bool := false
  discard : Bool := false
  verdict : Option Verdict := none
  place : Place := .gone
  deriving DecidableEq, Repr

/-- The loop ports with the counters of Table 2-5 that belong to no one port. -/
structure LoopPorts where
  portA : Port := {}
  portB : Port := {}
  arriving : Option Arriving := none
  gapError : Bool := false
  errorRunB : Bool := false
  damagedUpstream : Nat := 0
  discardedDown : Nat := 0
  orphans : Nat := 0
  stripped : Nat := 0
  malformed : Nat := 0
  unconsumed : Nat := 0
  deriving DecidableEq, Repr

/-! ## Cell Processor -/

/-- Tap entry (Table 3-1). ANY is a flag beside the byte, as 09 section 9.7 lays it out. -/
structure TapEntry where
  valid : Bool := false
  kind : Nat := 0
  kindAny : Bool := true
  sourceLow : Nat := 1
  sourceHigh : Nat := 120
  dest : Nat := 0
  destAny : Bool := true
  action : TapAction := .pass
  drops : Nat := 0
  deriving DecidableEq, Repr

/-- A cell as a block hands it over (R40). `echo` is the tag of the cell answered; without it the tag comes from the
tag counter. `endsRestart` marks the DONE reply of RESTART_WARM (R161). -/
structure OwnCell where
  kind : OwnKind
  dest : Nat
  payload : List Byte
  echo : Option Half := none
  ref : OwnerRef := .none
  endsRestart : Bool := false
  deriving DecidableEq, Repr

/-- Return tracker entry (Table 3-2). -/
structure TrackEntry where
  tag : Half
  kind : OwnKind
  dest : Nat
  owner : Owner
  ref : OwnerRef
  timer : Nat
  deriving DecidableEq, Repr

/-- What holds port B's outgoing link since the latest turn (R37, R39): nothing, a cell of the part, the passing cell
that is still arriving, a passing cell whose bytes are all known, or the time of a cell discarded at port B. -/
inductive Sending
  | idle
  | own (bytes : List Byte)
  | passing (fromBuffer : Bool)
  | passed (bytes : List Byte) (fromBuffer : Bool)
  | discardedOwn
  | discardedForward
  deriving DecidableEq, Repr

/-- Cell Processor: taps, elastic buffer, transmit queue, return tracker, tags and the counters of Table 3-3 (the tap
drops stand in the entries). -/
structure CellProcessor where
  taps : Vector TapEntry 32 := Vector.replicate 32 {}
  buffer : List (List Byte) := []
  sending : Sending := .idle
  urgent : List OwnCell := []
  normal : List OwnCell := []
  tracker : List TrackEntry := []
  tagCounter : Half := 0
  forwardDiscarded : Nat := 0
  ownDiscarded : Nat := 0
  queueDrops : Vector Nat 9 := Vector.replicate 9 0
  trackerFull : Nat := 0
  delivered : Nat := 0
  unaccepted : Nat := 0
  lost : Nat := 0
  lateReturns : Nat := 0
  acceptorMismatch : Nat := 0
  deriving DecidableEq, Repr

/-! ## Screen records (Table 1-1), by owner -/

/-- The fields the SCREEN table writes (R4). -/
structure ScreenConfig where
  enabled : Bool := false
  clockSource : ClockSource := .timebase
  projector : Nat := 0
  holdOnFailure : Bool := false
  panel : Nat := 0
  capacity : Nat := 0
  reserved : Nat := 0
  tallQuota : Nat := 0
  high : Nat := 0
  low : Nat := 0
  callPolicy : CallPolicy := .callAnytime
  deriving DecidableEq, Repr

/-- The Show Sequencer's part, with the per-screen fields of Table 4-1. -/
structure ShowRecord where
  shown : ShowState := .dark
  state : SeqState := .idle
  holdReason : Option HoldReason := none
  cueIndex : Nat := 0
  goPending : Bool := false
  rehearsal : Bool := false
  clock : Nat := 0
  projState : ProjState := .unknown
  segBase : Nat := 0
  segLimit : Nat := 0
  afterRef : Nat := 0
  frameCount : Nat := 0
  resting : Bool := false
  pausedByHold : Bool := false
  deriving DecidableEq, Repr

/-- The Sound Path's part. -/
structure ScreenSound where
  locked : Bool := false
  lost : Bool := false
  cut : Bool := false
  deriving DecidableEq, Repr

/-- The Gate Counter's part. -/
structure FieldCounts where
  occupancy : Nat := 0
  tall : Nat := 0
  pending : Nat := 0
  tallPending : Nat := 0
  admission : Admission := .closed
  nearFull : Bool := false
  full : Bool := false
  uncertain : Bool := false
  tailgates : Nat := 0
  underflows : Nat := 0
  expiries : Nat := 0
  deriving DecidableEq, Repr

/-- One screen record. -/
structure Screen where
  config : ScreenConfig := {}
  seq : ShowRecord := {}
  sound : ScreenSound := {}
  field : FieldCounts := {}
  ordering : OrderingState := .closed
  heldCalls : List Nat := []
  deriving DecidableEq, Repr

/-! ## Show Sequencer -/

/-- Cue entry (Table 4-2). The six argument bytes are kept as written, for a kind's unused arguments are stored too
(R52). -/
structure CueEntry where
  trigger : TriggerKind := .follow
  time : Nat := 0
  action : ActionKind := .endShow
  args : Vector Byte 6 := Vector.replicate 6 0
  label : Half := 0
  deriving DecidableEq, Repr

/-- The cue pool, the loop counters (`none` is UNLOADED), the sky record and the counters of Table 4-3. -/
structure Sequencer where
  cues : Vector CueEntry 256 := Vector.replicate 256 {}
  loopCounters : Vector (Option Nat) 256 := Vector.replicate 256 none
  lux : Option Nat := none
  skyTimer : Option Nat := none
  lateCues : Nat := 0
  withheld : Nat := 0
  loopTargetBelow : Nat := 0
  skippedProj : Nat := 0
  refusedKeys : Nat := 0
  ignoredKeys : Nat := 0
  unmatchedProj : Nat := 0
  deriving DecidableEq, Repr

/-! ## Sound Path -/

/-- OUTPUT entry (Table 5-1). -/
structure OutputConfig where
  gainTarget : Nat := 0
  annGain : Nat := 0
  duckLevel : Nat := 0
  duckRate : Nat := 64
  ceiling : Nat := 0
  delayTarget : Nat := 0
  darkRemap : DarkRemap := .mute
  paSource : Option ScreenId := none
  txStation : Nat := 0
  tuneChannel : Nat := 1
  autocut : BitVec 3 := 0
  silenceThreshold : Nat := 0
  deadAirBlocks : Nat := 500
  txSilenceLimit : Nat := 0
  deriving DecidableEq, Repr

/-- The running state of one output: gain, duck, ceiling and level monitor, and the frame delivered last. -/
structure OutputState where
  gain : Nat := 0
  duck : Nat := 4096
  clamps : Nat := 0
  clipped : Bool := false
  blockPos : Nat := 0
  peak : Nat := 0
  blockVoid : Bool := false
  silentRun : Nat := 0
  deadAir : Bool := false
  left : Int := 0
  right : Int := 0
  deriving DecidableEq, Repr

/-- The transmitter watch of one of outputs 1 to 4 (05 section 5.9); the cut is in the screen record. -/
structure Transmitter where
  sticky : BitVec 3 := 0
  carrier : Carrier := .unknown
  silenceTimer : Option Nat := none
  unanswered : Nat := 0
  deriving DecidableEq, Repr

/-- One programme input (R72, R73); its lock is in the screen record. `fresh` says that the next frame is the first of
a run. -/
structure ProgInput where
  run : Nat := 0
  fresh : Bool := true
  lostDelay : Option Nat := none
  lockLosses : Nat := 0
  malformed : Nat := 0
  deriving DecidableEq, Repr

/-- One delay line (R76). `frames` lists the positions whose frame is not zero, by rising position. -/
structure DelayLine where
  frames : List (Nat × Frame) := []
  write : Nat := 0
  read : Nat := 0
  phase : Nat := 0
  deriving DecidableEq, Repr

/-- Sound Path. -/
structure SoundPath where
  config : Vector OutputConfig 5 := Vector.replicate 5 {}
  outputs : Vector OutputState 5 := Vector.replicate 5 {}
  transmitters : Vector Transmitter 4 := Vector.replicate 4 {}
  inputs : Vector ProgInput 4 := Vector.replicate 4 {}
  lines : Vector DelayLine 4 := Vector.replicate 4 {}
  unmatchedTx : Nat := 0
  skippedTx : Nat := 0
  deriving DecidableEq, Repr

/-! ## Announcement Composer -/

/-- Clip record (Table 6-1). -/
structure Clip where
  start : Nat := 0
  length : Nat := 0
  state : ClipState := .empty
  uses : Nat := 0
  deriving DecidableEq, Repr

/-- Phrase part (R99). -/
inductive Part
  | clip (id : ClipId)
  | number (base : Fin 36)
  | gap (ms : Nat)
  deriving DecidableEq, Repr

/-- Rendered item (R101). -/
inductive Item
  | clip (id : ClipId)
  | gap (ms : Nat)
  deriving DecidableEq, Repr

/-- Event table entry (R110). -/
structure EventEntry where
  phrase : Option PhraseId := none
  mask : BitVec 5 := 0
  priority : Nat := 0
  mode : AnnMode := .over
  notice : Bool := false
  deriving DecidableEq, Repr

/-- Queue entry (R103). `next` is the position of its next item and `offset` the samples of that item already fed. -/
structure QueueEntry where
  origin : Origin
  priority : Nat
  mode : AnnMode
  items : List Item
  order : Option Nat
  next : Nat
  offset : Nat
  join : Nat
  deriving DecidableEq, Repr

/-- One output's queue: the playing entry stands first, the waiting ones behind it (R103). -/
structure AnnQueue where
  playing : Option QueueEntry := none
  waiting : List QueueEntry := []
  deriving DecidableEq, Repr

/-- Announcement Composer. `memory` lists the clip samples that are not zero, by rising address (log 2). -/
structure Composer where
  clips : Vector Clip 64 := Vector.replicate 64 {}
  memory : List (Nat × Sample16) := []
  fillOrder : List ClipId := []
  phrases : Vector (List Part) 64 := Vector.replicate 64 []
  events : Vector EventEntry 16 := Vector.replicate 16 {}
  queues : Vector AnnQueue 5 := Vector.replicate 5 {}
  joins : Nat := 0
  skippedItems : Nat := 0
  emptyRenders : Nat := 0
  discards : Vector Nat 5 := Vector.replicate 5 0
  preemptions : Vector Nat 5 := Vector.replicate 5 0
  suppressed : Vector Nat 5 := Vector.replicate 5 0
  deriving DecidableEq, Repr

/-! ## Gate Counter -/

/-- Pending admission (Table 7-1). -/
structure PendingAdmission where
  screen : ScreenId
  vehicle : Vehicle
  passTimer : Nat
  deriving DecidableEq, Repr

/-- Lane record (Table 7-1). -/
structure Lane where
  station : Nat := 0
  role : LaneRole := .entry
  home : ScreenId := 0
  silenceLimit : Nat := 0
  passTimeout : Nat := 30
  state : LaneState := .unseen
  silenceTimer : Option Nat := none
  pending : Option PendingAdmission := none
  deriving DecidableEq, Repr

/-- Gate Counter; the field counts are in the screen records. -/
structure GateCounter where
  lanes : Vector Lane 8 := Vector.replicate 8 {}
  strayBackouts : Nat := 0
  strayPassages : Nat := 0
  unmatchedPassages : Nat := 0
  deriving DecidableEq, Repr

/-! ## Order Router -/

/-- Menu item (Table 8-1). `portions = none` is UNLIMITED. -/
structure MenuItem where
  available : Bool := false
  primary : KitchenId := 0
  alternate : Option KitchenId := none
  portions : Option Nat := none
  deriving DecidableEq, Repr

/-- Kitchen station (Table 8-2). -/
structure Kitchen where
  loopStation : Nat := 0
  limit : Nat := 4
  lateLimit : Nat := 10
  state : KitchenState := .unseen
  sent : Nat := 0
  failRun : Nat := 0
  backlog : List TicketId := []
  deriving DecidableEq, Repr

/-- One line of an order (Table 8-3). -/
structure OrderLine where
  item : Byte
  quantity : Nat
  deriving DecidableEq, Repr

/-- Order record (Table 8-3). `screen = none` is a walk-up. -/
structure Order where
  number : Nat
  screen : Option ScreenId
  origin : Nat
  placeTag : Half
  state : OrderState
  rush : Bool
  late : Bool
  lines : List OrderLine
  tickets : List TicketId
  callCount : Nat
  recallLeft : Option Nat
  callActive : Bool
  deriving DecidableEq, Repr

/-- Ticket (Table 8-4); its send serial is kept beside the pool, across reuse of the index. -/
structure Ticket where
  order : Nat
  kitchen : KitchenId
  lines : List OrderLine
  state : TicketState
  rush : Bool
  returned : Bool
  attempts : Nat
  lateTimer : Option Nat
  deriving DecidableEq, Repr

/-- Order Router, with the counters of Table 8-5. -/
structure Router where
  menu : Vector MenuItem 256 := Vector.replicate 256 {}
  kitchens : Vector Kitchen 8 := Vector.replicate 8 {}
  orders : List Order := []
  tickets : Vector (Option Ticket) 256 := Vector.replicate 256 none
  serials : Vector Byte 256 := Vector.replicate 256 0
  nextNumber : Nat := 1
  placed : Nat := 0
  refused : Nat := 0
  repeated : Nat := 0
  replyDropped : Nat := 0
  ticketFailures : Nat := 0
  staleOutcomes : Nat := 0
  unmatchedBumps : Nat := 0
  strayBumps : Nat := 0
  ignoredPickups : Nat := 0
  strayPickups : Nat := 0
  boardDropped : Nat := 0
  unansweredVoids : Nat := 0
  abandoned : Nat := 0
  deriving DecidableEq, Repr

/-! ## Management Responder -/

/-- SITE entry (Table 9-1). -/
structure Site where
  console : Nat := 1
  board : Nat := 0
  counter : Nat := 0
  walkUp : Bool := false
  paCall : Bool := false
  callPhrase : PhraseId := 0
  maxCalls : Nat := 3
  recallInterval : Nat := 5
  dusk : Nat := 20
  errorLimit : Nat := 16
  deriving DecidableEq, Repr

/-- Management Responder, with the counters of R159. -/
structure Management where
  site : Site := {}
  restart : Bool := false
  taken : Nat := 0
  notConsole : Nat := 0
  refusals : Nat := 0
  notices : Nat := 0
  deriving DecidableEq, Repr

/-! ## The part -/

/-- The state of the part. `pending` is the queue of commands that wait, first in, first out; `freeCount` is the
model's own count of draws of free values. -/
structure State where
  pending : List Instr := []
  freeCount : Nat := 0
  station : BitVec 7 := Config.strap
  time : Timebase := {}
  loop : LoopPorts := {}
  cell : CellProcessor := {}
  screens : Vector Screen 4 := Vector.replicate 4 {}
  seqr : Sequencer := {}
  sound : SoundPath := {}
  ann : Composer := {}
  gate : GateCounter := {}
  router : Router := {}
  mgmt : Management := {}
  deriving DecidableEq, Repr

/-- A port after a cold reset: HAILING, or DOWN and held when the strap lies outside 1..120 (R14). -/
def Port.cold (strap : BitVec 7) : Port :=
  if 1 ≤ strap.toNat ∧ strap.toNat ≤ 120 then {} else { state := .down, held := true }

/-- The part right after a cold reset with this strap (R162): every table and block at its cold value. -/
def State.cold (strap : BitVec 7) : State :=
  { station := strap, loop := { portA := Port.cold strap, portB := Port.cold strap } }

/-- The part right after reset, strapped as `Config.strap` (log 1), with no command waiting. -/
def State.reset : State := State.cold Config.strap

end Sys2Proof.Machine
end

