-- ==== Sys2Proof/Machine/Memory.lean ====
section
/-! DEFINITION. The addressed stores: clip memory (R93, one 16-bit sample an address) and the delay lines (R76, one frame
a position). A store lists what is not `zero`, by strictly rising address, so that equal contents are equal data;
an unlisted address reads as `zero`. -/

namespace Sys2Proof.Machine

/-- What an address holds. -/
def memRead {α : Type} (zero : α) : List (Nat × α) → Nat → α
  | [], _ => zero
  | (k, v) :: m, a => if k = a then v else memRead zero m a

/-- One value written at an address; the canonical form is kept. -/
def memWrite {α : Type} [DecidableEq α] (zero : α) : List (Nat × α) → Nat → α → List (Nat × α)
  | [], a, v => if v = zero then [] else [(a, v)]
  | (k, w) :: m, a, v =>
    if a < k then (if v = zero then (k, w) :: m else (a, v) :: (k, w) :: m)
    else if a = k then (if v = zero then m else (a, v) :: m)
    else (k, w) :: memWrite zero m a v

/-- Zero written at the `n` addresses from `lo` on. -/
def memClear {α : Type} (m : List (Nat × α)) (lo n : Nat) : List (Nat × α) :=
  m.filter fun c => !(decide (lo ≤ c.1) && decide (c.1 < lo + n))

/-- The canonical form: addresses strictly rising, no entry equal to what an unlisted address reads as. -/
abbrev Memory.wf {α : Type} (zero : α) (m : List (Nat × α)) : Prop :=
  m.Pairwise (fun c d => c.1 < d.1) ∧ ∀ c ∈ m, c.2 ≠ zero

/-- Clip memory has 8,388,608 addresses (R93): an address has 23 bits (log 28). -/
def clipAddress (start offset : Nat) : Nat := (start + offset) % 8388608

/-- What clip memory holds at an address; 0 where nothing is written (log 2). -/
def clipRead (m : List (Nat × Sample16)) (a : Nat) : Sample16 := memRead 0 m a

/-- A run of samples written from an address on (R96). -/
def clipWriteRun (m : List (Nat × Sample16)) (a : Nat) : List Sample16 → List (Nat × Sample16)
  | [] => m
  | v :: run => clipWriteRun (memWrite 0 m (clipAddress a 0) v) (a + 1) run

/-- The frame of zeros. -/
def zeroFrame : Frame := ⟨0, 0⟩

/-- A delay line has 9,600 positions (R76). -/
def lineSize : Nat := 9600

/-- The effective delay: write position less read position, modulo 9,600 (R76). -/
def DelayLine.delay (l : DelayLine) : Nat := (l.write + lineSize - l.read % lineSize) % lineSize

/-- R76: a frame is written at the position after the write position; the read position gives way when it is met. -/
def DelayLine.put (l : DelayLine) (f : Frame) : DelayLine :=
  let w := (l.write + 1) % lineSize
  { l with
    frames := memWrite zeroFrame l.frames w f
    write := w
    read := if w = l.read then (l.read + 1) % lineSize else l.read }

/-- R76: the read position moves forward by `n`, and stops at the write position. -/
def DelayLine.advance (l : DelayLine) (n : Nat) : DelayLine :=
  { l with read := (l.read + min n l.delay) % lineSize }

/-- The frame at the read position. -/
def DelayLine.current (l : DelayLine) : Frame := memRead zeroFrame l.frames l.read

end Sys2Proof.Machine
end

