-- ==== Sys2Proof/Machine/Operands.lean ====
section
/-! DEFINITION. Reading and writing the fields of cells and table entries: byte order, codes, clamping and the check
word (R22, R23, 00 section 0.5.3, 09 section 9.7). -/

namespace Sys2Proof.Machine

/-! ## Numbers in bytes (09 section 9.7: unsigned, least significant byte first) -/

/-- The byte at an offset as a number; bytes beyond the length are not read and count as 0 (log 24). -/
def byteAt (p : List Byte) (i : Nat) : Nat := (p.getD i 0).toNat

/-- The two-byte field at an offset. -/
def halfAt (p : List Byte) (i : Nat) : Nat := byteAt p i + 256 * byteAt p (i + 1)

/-- The three-byte field at an offset. -/
def triAt (p : List Byte) (i : Nat) : Nat := halfAt p i + 65536 * byteAt p (i + 2)

/-- One byte. -/
def le8 (n : Nat) : List Byte := [BitVec.ofNat 8 n]

/-- Two bytes. -/
def le16 (n : Nat) : List Byte := [BitVec.ofNat 8 n, BitVec.ofNat 8 (n / 256)]

/-- Three bytes. -/
def le24 (n : Nat) : List Byte := le16 n ++ le8 (n / 65536)

/-- Four bytes. -/
def le32 (n : Nat) : List Byte := le16 n ++ le16 (n / 65536)

/-- Two bytes, signed. -/
def le16s (n : Int) : List Byte := le16 (BitVec.ofInt 16 n).toNat

/-- yes / no, on / off: 1 / 0. -/
def flagByte (b : Bool) : List Byte := if b then [1] else [0]

/-! ## Ranges -/

/-- A quantity clamped into its range (00 section 0.5.3). -/
def clampTo (lo hi n : Nat) : Nat := max lo (min hi n)

/-- A counter raised by 1, saturating at 65,535 (00 section 0.5.3). -/
def bump16 (n : Nat) : Nat := min (n + 1) 65535

/-- A count raised by 1, saturating at 255. -/
def bump8 (n : Nat) : Nat := min (n + 1) 255

/-- The most a show clock reaches (R67). -/
def clockMax : Nat := 16777215

/-- A record numbered 1..k, from its number. -/
def fromOne (k n : Nat) : Option (Fin k) :=
  if h : 1 ≤ n ∧ n ≤ k then some ⟨n - 1, by omega⟩ else none

/-- A record numbered 0..k-1, from its number. -/
def fromZero (k n : Nat) : Option (Fin k) :=
  if h : n < k then some ⟨n, h⟩ else none

/-- The number of a record numbered from 1. -/
def numberOf {k : Nat} (i : Fin k) : Nat := i.val + 1

/-! ## Codes (09 section 9.7) -/

/-- yes / no where the rule refuses another code. -/
def flagOf (n : Nat) : Option Bool :=
  match n with
  | 0 => some false
  | 1 => some true
  | _ => none

/-- yes / no where the rule names no refusal: 0 and 1 as listed, another code a free value (log 21). -/
def looseFlag (draw : Nat) (b : Byte) : Bool :=
  if b = 0 then false else if b = 1 then true else Config.unlistedFlag draw b

/-- Reply codes (R155). -/
inductive Reply
  | done | range | overlap | inUse | state | busy | notConsole | unknown
  deriving DecidableEq, Repr

def Reply.code : Reply → Nat
  | .done => 0 | .range => 1 | .overlap => 2 | .inUse => 3 | .state => 4 | .busy => 5 | .notConsole => 6
  | .unknown => 7

def ShowState.code : ShowState → Nat
  | .dark => 0 | .preshow => 1 | .feature => 2 | .intermission => 3 | .credits => 4

def showStateOf (n : Nat) : Option ShowState :=
  match n with
  | 0 => some .dark
  | 1 => some .preshow
  | 2 => some .feature
  | 3 => some .intermission
  | 4 => some .credits
  | _ => none

def SeqState.code : SeqState → Nat
  | .idle => 0 | .running => 1 | .held => 2

def HoldReason.code : HoldReason → Nat
  | .operator => 1 | .step => 2 | .soundLost => 3 | .txCut => 4 | .projFault => 5 | .restart => 6

def ProjState.code : ProjState → Nat
  | .unknown => 0 | .playing => 1 | .paused => 2 | .stopped => 3 | .fault => 4

/-- What a PROJ_STATE may report (R69): one of four states. -/
def projReportOf (n : Nat) : Option ProjState :=
  match n with
  | 1 => some .playing
  | 2 => some .paused
  | 3 => some .stopped
  | 4 => some .fault
  | _ => none

def ClockSource.code : ClockSource → Nat
  | .timebase => 0 | .programme => 1

def clockSourceOf (n : Nat) : Option ClockSource :=
  match n with
  | 0 => some .timebase
  | 1 => some .programme
  | _ => none

def CallPolicy.code : CallPolicy → Nat
  | .callAnytime => 0 | .holdInFeature => 1

def callPolicyOf (n : Nat) : Option CallPolicy :=
  match n with
  | 0 => some .callAnytime
  | 1 => some .holdInFeature
  | _ => none

def Admission.code : Admission → Nat
  | .closed => 0 | .opened => 1

def admissionOf (n : Nat) : Option Admission :=
  match n with
  | 0 => some .closed
  | 1 => some .opened
  | _ => none

def OrderingState.code : OrderingState → Nat
  | .closed => 0 | .opened => 1 | .lastCall => 2

def orderingOf (n : Nat) : Option OrderingState :=
  match n with
  | 0 => some .closed
  | 1 => some .opened
  | 2 => some .lastCall
  | _ => none

def LinkState.code : LinkState → Nat
  | .down => 0 | .hailing => 1 | .answering => 2 | .up => 3

def TapAction.code : TapAction → Nat
  | .pass => 0 | .copy => 1 | .drop => 2

def tapActionOf (n : Nat) : Option TapAction :=
  match n with
  | 0 => some .pass
  | 1 => some .copy
  | 2 => some .drop
  | _ => none

def TriggerKind.code : TriggerKind → Nat
  | .go => 0 | .clock => 1 | .after => 2 | .follow => 3 | .dusk => 4

def triggerOf (n : Nat) : Option TriggerKind :=
  match n with
  | 0 => some .go
  | 1 => some .clock
  | 2 => some .after
  | 3 => some .follow
  | 4 => some .dusk
  | _ => none

def ActionKind.code : ActionKind → Nat
  | .segment => 0 | .proj => 1 | .announce => 2 | .level => 3 | .admission => 4 | .orders => 5 | .loop => 6
  | .endShow => 7

def actionOf (n : Nat) : Option ActionKind :=
  match n with
  | 0 => some .segment
  | 1 => some .proj
  | 2 => some .announce
  | 3 => some .level
  | 4 => some .admission
  | 5 => some .orders
  | 6 => some .loop
  | 7 => some .endShow
  | _ => none

def DarkRemap.code : DarkRemap → Nat
  | .mute => 0 | .pa => 1 | .programme => 2

def darkRemapOf (n : Nat) : Option DarkRemap :=
  match n with
  | 0 => some .mute
  | 1 => some .pa
  | 2 => some .programme
  | _ => none

def Carrier.code : Carrier → Nat
  | .unknown => 0 | .on => 1 | .off => 2

/-- What a TX_STATUS may report (R85): ON or OFF. -/
def carrierReportOf (n : Nat) : Option Carrier :=
  match n with
  | 1 => some .on
  | 2 => some .off
  | _ => none

def ClipState.code : ClipState → Nat
  | .empty => 0 | .clearing => 1 | .loading => 2 | .ready => 3

def AnnMode.code : AnnMode → Nat
  | .over => 0 | .replace => 1

def annModeOf (n : Nat) : Option AnnMode :=
  match n with
  | 0 => some .over
  | 1 => some .replace
  | _ => none

def LaneRole.code : LaneRole → Nat
  | .entry => 0 | .exit => 1

def laneRoleOf (n : Nat) : Option LaneRole :=
  match n with
  | 0 => some .entry
  | 1 => some .exit
  | _ => none

def LaneState.code : LaneState → Nat
  | .unseen => 0 | .active => 1 | .silent => 2

def Vehicle.code : Vehicle → Nat
  | .car => 0 | .tall => 1

def vehicleOf (n : Nat) : Option Vehicle :=
  match n with
  | 0 => some .car
  | 1 => some .tall
  | _ => none

def KitchenState.code : KitchenState → Nat
  | .unseen => 0 | .present => 1 | .absent => 2

def OrderState.code : OrderState → Nat
  | .opened => 0 | .ready => 1

def TicketState.code : TicketState → Nat
  | .backlog => 0 | .sent => 1 | .bumped => 2

/-- A projector command is one of codes 1..8 (09 section 9.7). -/
def projPlay : Nat := 1
def projPause : Nat := 2
def projStop : Nat := 3

/-- Transmitter commands (09 section 9.7). -/
def carrierOff : Nat := 1
def carrierOn : Nat := 2

/-! ## Cell kinds (Table 2-4, 09 section 9.7) -/

def OwnKind.code : OwnKind → Nat
  | .mgmtReply => 0x13 | .notice => 0x14 | .admitReply => 0x21 | .orderReply => 0x31 | .ticket => 0x32
  | .ticketVoid => 0x33 | .orderState => 0x37 | .projCmd => 0x41 | .txCmd => 0x50

/-- The place of a kind among the nine queue-drop counters (COUNTERS page 2). -/
def OwnKind.slot : OwnKind → Fin 9
  | .admitReply => 0 | .projCmd => 1 | .txCmd => 2 | .mgmtReply => 3 | .notice => 4 | .orderReply => 5
  | .ticket => 6 | .ticketVoid => 7 | .orderState => 8

/-- The URGENT class (R40). -/
def OwnKind.isUrgent : OwnKind → Bool
  | .admitReply | .projCmd | .txCmd | .mgmtReply => true
  | .notice | .orderReply | .ticket | .ticketVoid | .orderState => false

/-- The tracked kinds and the block each belongs to (R42, R47). -/
def OwnKind.tracked : OwnKind → Option Owner
  | .ticket | .ticketVoid => some .orderRouter
  | .projCmd => some .showSequencer
  | .txCmd => some .soundPath
  | .admitReply | .mgmtReply | .notice | .orderReply | .orderState => none

/-- The kinds the part takes (Table 2-4). -/
inductive TakenKind
  | mgmtWrite | mgmtRead | mgmtCommand | clipData | admitAsk | passage | laneBeat | orderPlace | bump
  | stationBeat | pickup | panelKey | projState | skyReport | txStatus
  deriving DecidableEq, Repr

def takenKindOf (n : Nat) : Option TakenKind :=
  match n with
  | 0x10 => some .mgmtWrite
  | 0x11 => some .mgmtRead
  | 0x12 => some .mgmtCommand
  | 0x15 => some .clipData
  | 0x20 => some .admitAsk
  | 0x22 => some .passage
  | 0x23 => some .laneBeat
  | 0x30 => some .orderPlace
  | 0x34 => some .bump
  | 0x35 => some .stationBeat
  | 0x36 => some .pickup
  | 0x40 => some .panelKey
  | 0x42 => some .projState
  | 0x43 => some .skyReport
  | 0x51 => some .txStatus
  | _ => none

/-- The payload length of a taken kind (09 section 9.7), as R29 judges it; the management kinds have theirs judged by
R154. -/
def TakenKind.lengthFits (k : TakenKind) (payload : List Byte) (len : Nat) : Bool :=
  match k with
  | .mgmtWrite | .mgmtRead | .mgmtCommand | .clipData => true
  | .admitAsk | .passage | .pickup | .panelKey | .skyReport | .txStatus => len == 2
  | .laneBeat | .stationBeat => len == 0
  | .bump => len == 3
  | .projState => len == 1
  | .orderPlace => len == 2 + 2 * byteAt (payload.take len) 1

/-! ## The cell (Table 2-3, Table 9-5) -/

/-- The fields of a cell that has arrived whole. `payload` is cut to the length. -/
structure Cell where
  dest : Nat
  source : Byte
  kind : Nat
  hops : Nat
  tag : Half
  length : Nat
  payload : List Byte
  accepted : Bool
  acceptor : Nat
  deriving DecidableEq, Repr

/-- Table 9-5, read. -/
def cellOf (bytes : List Byte) : Cell :=
  { dest := byteAt bytes 0
    source := bytes.getD 1 0
    kind := byteAt bytes 2
    hops := byteAt bytes 3
    tag := BitVec.ofNat 16 (halfAt bytes 4)
    length := byteAt bytes 6
    payload := ((bytes.drop 8).take 50).take (byteAt bytes 6)
    accepted := (bytes.getD 58 0).getLsbD 0
    acceptor := byteAt bytes 59 }

/-- One bit into the check register (R23). -/
def checkBit (reg : Nat) (bit : Bool) : Nat :=
  if (reg % 2 == 1) != bit then (reg / 2) ^^^ 0xEDB88320 else reg / 2

/-- One byte into the check register, least significant bit first (R23). -/
def checkByte (reg : Nat) (b : Byte) : Nat :=
  [0, 1, 2, 3, 4, 5, 6, 7].foldl (fun r i => checkBit r (b.getLsbD i)) reg

/-- The check word over a run of bytes (R23). -/
def checkWord (bytes : List Byte) : Nat := bytes.foldl checkByte 0xFFFFFFFF ^^^ 0xFFFFFFFF

/-- The stomped form: the check word with its 32 bits inverted (R23). -/
def stompedWord (bytes : List Byte) : Nat := checkWord bytes ^^^ 0xFFFFFFFF

/-- The check field received, bytes 60 to 63 (R23). -/
def checkField (bytes : List Byte) : Nat := halfAt bytes 60 + 65536 * halfAt bytes 62

/-- Classes of R24. -/
inductive CheckClass
  | good | damagedUpstream | damagedHere
  deriving DecidableEq, Repr

/-- R24: the class of a cell that arrived whole. -/
def classify (bytes : List Byte) (symbolError : Bool) : CheckClass :=
  if symbolError then .damagedHere
  else if checkField bytes = checkWord (bytes.take 60) then .good
  else if checkField bytes = stompedWord (bytes.take 60) then .damagedUpstream
  else .damagedHere

/-- A run of bytes cut or filled with zero bytes to `n`. -/
def padTo (n : Nat) (bytes : List Byte) : List Byte := (bytes ++ List.replicate n 0).take n

/-- Bytes 0 to 59 with their check word, or with its stomped form. -/
def sealBytes (body : List Byte) (stomped : Bool) : List Byte :=
  body ++ le32 (if stomped then stompedWord body else checkWord body)

/-- R25: bytes 0 to 59 of a forwarded cell; hops plus 1, and mark and acceptor when the part takes the cell. Positions
not received count as zero bytes (R21). -/
def forwardBody (bytes : List Byte) (mark : Option Nat) : List Byte :=
  let body := (padTo 60 bytes).set 3 (BitVec.ofNat 8 (byteAt bytes 3 + 1))
  match mark with
  | none => body
  | some station => (body.set 58 (bytes.getD 58 0 ||| 1)).set 59 (BitVec.ofNat 8 station)

/-- The 64 bytes of an own cell (R22, R25, R40). -/
def ownBytes (station : Nat) (tag : Half) (c : OwnCell) : List Byte :=
  sealBytes
    (le8 c.dest ++ le8 station ++ le8 c.kind.code ++ le8 0 ++ le16 tag.toNat ++ le8 c.payload.length
      ++ flagByte c.kind.isUrgent ++ padTo 50 c.payload ++ le8 0 ++ le8 0)
    false

end Sys2Proof.Machine
end

