-- ==== Sys2Proof/Machine/Ops.lean ====
section
/-! DEFINITION. The named operations that every block uses: the one way to change each record, and the hand-over of a
cell to the transmit queue (R40, R41). -/

namespace Sys2Proof.Machine

/-! ## Every record of a kind, in ascending order -/

def allScreens : List ScreenId := [0, 1, 2, 3]
def allOutputs : List OutputId := [0, 1, 2, 3, 4]
def allLanes : List LaneId := [0, 1, 2, 3, 4, 5, 6, 7]
def allKitchens : List KitchenId := [0, 1, 2, 3, 4, 5, 6, 7]

/-- Output `s` belongs to screen `s` (R1, note). -/
def outputOf (s : ScreenId) : OutputId := s.castSucc

/-- The screen an output belongs to; output 5 has none (R83). -/
def screenOf (o : OutputId) : Option ScreenId := fromZero 4 o.val

/-- The PA. -/
def paOutput : OutputId := 4

/-! ## Record updates -/

def State.modScreen (s : State) (i : ScreenId) (f : Screen → Screen) : State :=
  { s with screens := s.screens.set i (f s.screens[i]) }

def State.modSeq (s : State) (i : ScreenId) (f : ShowRecord → ShowRecord) : State :=
  s.modScreen i fun c => { c with seq := f c.seq }

def State.modField (s : State) (i : ScreenId) (f : FieldCounts → FieldCounts) : State :=
  s.modScreen i fun c => { c with field := f c.field }

def State.modScreenSound (s : State) (i : ScreenId) (f : ScreenSound → ScreenSound) : State :=
  s.modScreen i fun c => { c with sound := f c.sound }

def State.setOrderingState (s : State) (i : ScreenId) (o : OrderingState) : State :=
  s.modScreen i fun c => { c with ordering := o }

def State.setHeldCalls (s : State) (i : ScreenId) (l : List Nat) : State :=
  s.modScreen i fun c => { c with heldCalls := l }

def State.modSeqr (s : State) (f : Sequencer → Sequencer) : State := { s with seqr := f s.seqr }

def State.modSound (s : State) (f : SoundPath → SoundPath) : State := { s with sound := f s.sound }

def State.modTransmitter (s : State) (i : ScreenId) (f : Transmitter → Transmitter) : State :=
  s.modSound fun p => { p with transmitters := p.transmitters.set i (f p.transmitters[i]) }

def State.modInput (s : State) (i : ScreenId) (f : ProgInput → ProgInput) : State :=
  s.modSound fun p => { p with inputs := p.inputs.set i (f p.inputs[i]) }

def State.modLine (s : State) (i : ScreenId) (f : DelayLine → DelayLine) : State :=
  s.modSound fun p => { p with lines := p.lines.set i (f p.lines[i]) }

def State.modOutput (s : State) (o : OutputId) (f : OutputState → OutputState) : State :=
  s.modSound fun p => { p with outputs := p.outputs.set o (f p.outputs[o]) }

def State.modOutputConfig (s : State) (o : OutputId) (f : OutputConfig → OutputConfig) : State :=
  s.modSound fun p => { p with config := p.config.set o (f p.config[o]) }

def State.modAnn (s : State) (f : Composer → Composer) : State := { s with ann := f s.ann }

def State.modClip (s : State) (c : ClipId) (f : Clip → Clip) : State :=
  s.modAnn fun a => { a with clips := a.clips.set c (f a.clips[c]) }

def State.setQueue (s : State) (o : OutputId) (q : AnnQueue) : State :=
  s.modAnn fun a => { a with queues := a.queues.set o q }

def State.modGate (s : State) (f : GateCounter → GateCounter) : State := { s with gate := f s.gate }

def State.modLane (s : State) (l : LaneId) (f : Lane → Lane) : State :=
  s.modGate fun g => { g with lanes := g.lanes.set l (f g.lanes[l]) }

def State.modRouter (s : State) (f : Router → Router) : State := { s with router := f s.router }

def State.modKitchen (s : State) (k : KitchenId) (f : Kitchen → Kitchen) : State :=
  s.modRouter fun r => { r with kitchens := r.kitchens.set k (f r.kitchens[k]) }

def State.setTicket (s : State) (t : TicketId) (v : Option Ticket) : State :=
  s.modRouter fun r => { r with tickets := r.tickets.set t v }

def State.modTicket (s : State) (t : TicketId) (f : Ticket → Ticket) : State :=
  s.setTicket t (s.router.tickets[t].map f)

def State.modOrder (s : State) (number : Nat) (f : Order → Order) : State :=
  s.modRouter fun r => { r with orders := r.orders.map fun o => if o.number = number then f o else o }

def State.modMgmt (s : State) (f : Management → Management) : State := { s with mgmt := f s.mgmt }

def State.modCell (s : State) (f : CellProcessor → CellProcessor) : State := { s with cell := f s.cell }

def State.modLoop (s : State) (f : LoopPorts → LoopPorts) : State := { s with loop := f s.loop }

/-- The record of a port. -/
def State.port (s : State) : PortId → Port
  | .a => s.loop.portA
  | .b => s.loop.portB

def State.modPort (s : State) (p : PortId) (f : Port → Port) : State :=
  match p with
  | .a => s.modLoop fun l => { l with portA := f l.portA }
  | .b => s.modLoop fun l => { l with portB := f l.portB }

/-- One more draw of a free value (logs 21, 22). -/
def State.draw (s : State) : State := { s with freeCount := s.freeCount + 1 }

/-- R13: a timer loaded with a configured time; 0 = off loads none. -/
def loadLimit (limit : Nat) : Option Nat := if limit = 0 then none else some limit

/-- The live order of a number (R134). -/
def State.order? (s : State) (number : Nat) : Option Order :=
  s.router.orders.find? fun o => o.number == number

/-! ## The transmit queue (R40, R41) -/

/-- Entries of both classes (R40). -/
def CellProcessor.queued (c : CellProcessor) : Nat := c.urgent.length + c.normal.length

/-- A drop counts under the dropped cell's kind (R41). -/
def CellProcessor.countDrop (c : CellProcessor) (k : OwnKind) : CellProcessor :=
  { c with queueDrops := c.queueDrops.set k.slot (bump16 c.queueDrops[k.slot]) }

/-- The answer to a hand-over. -/
inductive HandOver
  | queued
  | dropped
  deriving DecidableEq, Repr

/-- What a hand-over does to the queue, what the block is answered, and the NORMAL entry removed to make room. -/
structure Handed where
  cell : CellProcessor
  answer : HandOver
  removed : Option OwnCell

/-- R41: a cell handed over to the transmit queue. -/
def CellProcessor.handOver (c : CellProcessor) (o : OwnCell) : Handed :=
  if c.queued < 16 then
    if o.kind.isUrgent then ⟨{ c with urgent := c.urgent ++ [o] }, .queued, none⟩
    else ⟨{ c with normal := c.normal ++ [o] }, .queued, none⟩
  else if o.kind.isUrgent then
    match c.normal.getLast? with
    | some last =>
      ⟨{ c.countDrop last.kind with urgent := c.urgent ++ [o], normal := c.normal.dropLast }, .queued, some last⟩
    | none => ⟨c.countDrop o.kind, .dropped, none⟩
  else ⟨c.countDrop o.kind, .dropped, none⟩

/-- A NORMAL cell handed over; it never removes another entry. -/
def State.handNormal (s : State) (o : OwnCell) : State × HandOver :=
  let h := s.cell.handOver o
  ({ s with cell := h.cell }, h.answer)

end Sys2Proof.Machine
end

