-- ==== Sys2Proof/Machine/Announce.lean ====
section
/-! DEFINITION. The Announcement Composer's own operations (06): rendering, the queues, held calls and the reports of call
activity. -/

namespace Sys2Proof.Machine

/-! ## Rendering (R99 to R101) -/

/-- R100: the clips that speak `n` from the number set at base `b`. -/
def numberClips (b n : Nat) : List Nat :=
  let n := n % 1000
  let m := n % 100
  (if 100 ≤ n then [b + n / 100, b + 28] else []) ++
    (if 20 ≤ m then (b + 20 + (m / 10 - 2)) :: (if m % 10 ≠ 0 then [b + m % 10] else [])
     else if 0 < m ∨ n = 0 then [b + m] else [])

/-- The items a part gives for a number argument, before R101 leaves any out. -/
def Part.items (n : Nat) : Part → List Item
  | .clip c => [.clip c]
  | .gap ms => [.gap ms]
  | .number b => (numberClips b.val n).map fun k => .clip (Fin.ofNat 64 k)

/-- R99: the most items a part renders to. -/
def Part.worst : Part → Nat
  | .number _ => 4
  | .clip _ | .gap _ => 1

/-- A clip has room for one more use (R98, R101). -/
def Clip.takesUse (c : Clip) : Bool := decide (c.state = .ready) && decide (c.uses < 255)

/-- R101: one item kept, with its use, or left out and counted. -/
def Composer.takeItem (acc : Composer × List Item) (i : Item) : Composer × List Item :=
  match i with
  | .gap ms => (acc.1, acc.2 ++ [.gap ms])
  | .clip c =>
    if acc.1.clips[c].takesUse then
      ({ acc.1 with clips := acc.1.clips.set c { acc.1.clips[c] with uses := acc.1.clips[c].uses + 1 } },
        acc.2 ++ [.clip c])
    else ({ acc.1 with skippedItems := bump16 acc.1.skippedItems }, acc.2)

/-- R101: a phrase rendered with a number argument. -/
def Composer.render (a : Composer) (phrase : PhraseId) (n : Nat) : Composer × List Item :=
  (a.phrases[phrase].flatMap (Part.items n)).foldl Composer.takeItem (a, [])

/-- R98: the clip items of an entry release their uses. -/
def Composer.release (a : Composer) (items : List Item) : Composer :=
  items.foldl (fun a i =>
    match i with
    | .gap _ => a
    | .clip c => { a with clips := a.clips.set c { a.clips[c] with uses := a.clips[c].uses - 1 } }) a

/-! ## Queues (R103 to R106) -/

/-- Entries of a queue, the playing one included. -/
def AnnQueue.size (q : AnnQueue) : Nat := q.waiting.length + (if q.playing.isSome then 1 else 0)

/-- Every entry of a queue, the playing one first. -/
def AnnQueue.entries (q : AnnQueue) : List QueueEntry := q.playing.toList ++ q.waiting

/-- R103: behind the waiting entries of its own priority, ahead of every lower one. -/
def joinWaiting (e : QueueEntry) : List QueueEntry → List QueueEntry
  | [] => [e]
  | w :: ws => if w.priority < e.priority then e :: w :: ws else w :: joinWaiting e ws

/-- R105: first among the waiting entries of its own priority. -/
def returnWaiting (e : QueueEntry) : List QueueEntry → List QueueEntry
  | [] => [e]
  | w :: ws => if w.priority ≤ e.priority then e :: w :: ws else w :: returnWaiting e ws

/-- R105, R106: an entry that is stopped goes back to its first item. -/
def QueueEntry.rewind (e : QueueEntry) : QueueEntry := { e with next := 0, offset := 0 }

/-- R103: of two waiting entries the one of lower priority, and of equals the one that joined last. -/
def lowerVictim (v : Option QueueEntry) (e : QueueEntry) : Option QueueEntry :=
  match v with
  | none => some e
  | some w => if e.priority < w.priority ∨ (e.priority = w.priority ∧ w.join ≤ e.join) then some e else some w

/-- R103: of the lowest priority among the waiting entries, the one that joined last. -/
def AnnQueue.victim (q : AnnQueue) : Option QueueEntry := q.waiting.foldl lowerVictim none

/-- The first waiting entry becomes the playing one (R104). -/
def AnnQueue.start (q : AnnQueue) : AnnQueue :=
  match q.waiting with
  | [] => q
  | e :: ws => { playing := some e, waiting := ws }

/-- The playing entry goes back among the waiting ones (R105, R106). -/
def AnnQueue.stop (q : AnnQueue) : AnnQueue :=
  match q.playing with
  | none => q
  | some p => { playing := none, waiting := returnWaiting p.rewind q.waiting }

/-- R105: a priority-3 entry that joins finds an entry of lower priority playing. -/
def AnnQueue.preempts (q : AnnQueue) (e : QueueEntry) : Bool :=
  match q.playing with
  | none => false
  | some p => decide (3 ≤ e.priority) && decide (p.priority < 3)

/-- R103: a discarded entry releases its items and is counted. -/
def Composer.discard (a : Composer) (o : OutputId) (e : QueueEntry) : Composer :=
  let b := a.release e.items
  { b with discards := b.discards.set o (bump16 b.discards[o]) }

/-- R103, R105: an entry joins a queue that has room for it. -/
def Composer.join (a : Composer) (o : OutputId) (q : AnnQueue) (e : QueueEntry) : Composer :=
  let q' : AnnQueue := { q with waiting := joinWaiting e q.waiting }
  if q.preempts e then
    { a with
      queues := a.queues.set o q'.stop.start
      preemptions := a.preemptions.set o (bump16 a.preemptions[o]) }
  else { a with queues := a.queues.set o q' }

/-- R103: a rendered entry is placed in an output's queue, or discarded at a full one. -/
def Composer.place (a : Composer) (o : OutputId) (entry : QueueEntry) : Composer :=
  let e : QueueEntry := { entry with join := a.joins }
  let b : Composer := { a with joins := a.joins + 1 }
  let q : AnnQueue := b.queues[o]
  if q.size < 8 then b.join o q e
  else
    match q.victim with
    | none => b.discard o e
    | some v =>
      if v.priority < e.priority then (b.discard o v).join o { q with waiting := q.waiting.erase v } e
      else b.discard o e

/-! ## Requests (R102) -/

/-- An announcement request. `order` is there for an ORDER_CALL. -/
structure Request where
  phrase : PhraseId
  mask : BitVec 5
  priority : Nat
  mode : AnnMode
  origin : Origin
  number : Nat
  order : Option Nat := none
  deriving DecidableEq, Repr

/-- R102: the ORDER_CALL of an order, with the call phrase as it stands. -/
def State.callRequest (s : State) (number : Nat) (mask : BitVec 5) : Request :=
  { phrase := s.mgmt.site.callPhrase, mask := mask, priority := 1, mode := .over, origin := .orderCall
    number := number, order := some number }

/-- The entry is the ORDER_CALL of an order. -/
def QueueEntry.calls (e : QueueEntry) (number : Nat) : Bool := e.order == some number

/-- R102: an order's call is already in an output's queue or in the held-call list of its screen. -/
def State.callStands (s : State) (o : OutputId) (number : Nat) : Bool :=
  s.ann.queues[o].entries.any (·.calls number) ||
    (match screenOf o with
     | some c => s.screens[c].heldCalls.contains number
     | none => false)

/-- R109: an order's call is active. -/
def State.callActive (s : State) (number : Nat) : Bool := allOutputs.any fun o => s.callStands o number

/-- R102: an ORDER_CALL for this output is held. -/
def State.holdsCalls (s : State) (c : ScreenId) : Bool :=
  decide (s.screens[c].config.callPolicy = .holdInFeature) && decide (s.screens[c].seq.shown = .feature)

/-- R101, R103: a request rendered for one output and placed in its queue. -/
def State.renderAndPlace (s : State) (r : Request) (o : OutputId) : State :=
  let (a, items) := s.ann.render r.phrase r.number
  if items = [] then s.modAnn fun _ => { a with emptyRenders := bump16 a.emptyRenders }
  else
    s.modAnn fun _ =>
      a.place o
        { origin := r.origin, priority := r.priority, mode := r.mode, items := items, order := r.order, next := 0
          offset := 0, join := 0 }

/-- R102, R107: a request dealt with for one output of its mask. -/
def State.requestOne (s : State) (r : Request) (o : OutputId) : State :=
  match r.order with
  | none => s.renderAndPlace r o
  | some number =>
    if s.callStands o number then
      s.modAnn fun a => { a with suppressed := a.suppressed.set o (bump16 a.suppressed[o]) }
    else
      match screenOf o with
      | some c =>
        if s.holdsCalls c then s.setHeldCalls c (s.screens[c].heldCalls ++ [number]) else s.renderAndPlace r o
      | none => s.renderAndPlace r o

/-- R102: a request taken whole, its outputs in ascending order. -/
def State.request (s : State) (r : Request) : State :=
  allOutputs.foldl (fun s o => if r.mask.getLsbD o.val then s.requestOne r o else s) s

/-! ## Held calls (R108) and call activity (R109) -/

/-- R108: the conditions for a move. -/
def State.callMoves (s : State) (c : ScreenId) : Bool :=
  decide (s.ann.queues[outputOf c].size < 8) &&
    (decide (s.screens[c].seq.shown ≠ .feature) || decide (s.screens[c].config.callPolicy = .callAnytime))

/-- R108: moves repeated, at most `fuel` of them, until a condition fails. -/
def State.moveCalls (c : ScreenId) : Nat → State → State
  | 0, s => s
  | fuel + 1, s =>
    match s.screens[c].heldCalls with
    | [] => s
    | number :: rest =>
      if s.callMoves c then
        State.moveCalls c fuel ((s.setHeldCalls c rest).renderAndPlace (s.callRequest number 0) (outputOf c))
      else s

/-- R108: screen `c`'s held calls move as far as they may. -/
def State.moveHeld (s : State) (c : ScreenId) : State := State.moveCalls c s.screens[c].heldCalls.length s

/-- R108: an entry has left an output's queue. -/
def State.entryLeft (s : State) (o : OutputId) : State :=
  match screenOf o with
  | some c => s.moveHeld c
  | none => s

/-- R109: the Order Router is told of every order whose call activity `after` is not what it was `before`. -/
def State.reportActivity (before after : State) : State :=
  after.modRouter fun r =>
    { r with
      orders := r.orders.map fun o =>
        if before.callActive o.number = after.callActive o.number then o
        else { o with callActive := after.callActive o.number } }

/-- R102 with the reports of R109. -/
def State.announce (s : State) (r : Request) : State := s.reportActivity (s.request r)

/-- R108 with the reports of R109: a change of screen `c` that lets held calls move. -/
def State.releaseHeld (s : State) (c : ScreenId) : State := s.reportActivity (s.moveHeld c)

/-- R86: the output is cut; output 5 never is (R83). -/
def State.isCut (s : State) (o : OutputId) : Bool :=
  match screenOf o with
  | some c => s.screens[c].sound.cut
  | none => false

/-- R104: an uncut output with nothing playing starts its first waiting entry. -/
def State.startEntry (s : State) (o : OutputId) : State :=
  if s.ann.queues[o].playing.isNone && !s.isCut o then s.setQueue o s.ann.queues[o].start else s

/-- R104, R108: the playing entry ends: it leaves, releases its items, the first waiting entry starts in the same period,
and then held calls may move in (that order: DESIGN CHOICE, log 47). -/
def State.endEntry (s : State) (o : OutputId) : State :=
  match s.ann.queues[o].playing with
  | none => s
  | some p =>
    let ended := (s.setQueue o { s.ann.queues[o] with playing := none }).modAnn fun a => a.release p.items
    s.reportActivity ((ended.startEntry o).entryLeft o)

/-- R106: a cut stops the playing entry of output `c` and returns it. -/
def State.stopQueue (s : State) (c : ScreenId) : State :=
  s.setQueue (outputOf c) s.ann.queues[outputOf c].stop

/-- R109: the waiting ORDER_CALL entries of an order leave one output's queue. -/
def State.withdrawFrom (number : Nat) (s : State) (o : OutputId) : State :=
  let q := s.ann.queues[o]
  let gone := q.waiting.filter (·.calls number)
  (s.setQueue o { q with waiting := q.waiting.filter fun e => !e.calls number }).modAnn fun a =>
    gone.foldl (fun a e => a.release e.items) a

/-- R109: an order's calls are withdrawn; then each queue an entry left may take held calls, the queues in ascending
order (DESIGN CHOICE, log 48). -/
def State.withdrawCalls (s : State) (number : Nat) : State :=
  let left := allOutputs.filter fun o => s.ann.queues[o].waiting.any (·.calls number)
  let unheld := allScreens.foldl (fun s c => s.setHeldCalls c (s.screens[c].heldCalls.filter (· != number))) s
  let drawn := allOutputs.foldl (State.withdrawFrom number) unheld
  s.reportActivity (left.foldl State.entryLeft drawn)

/-- R111: a warm restart empties every queue; uses return to 0, and then held calls move where they may, the screens in
ascending order (DESIGN CHOICE, log 48). -/
def State.emptyQueues (s : State) : State :=
  let emptied := s.modAnn fun a =>
    { a with
      queues := Vector.replicate 5 {}
      clips := a.clips.map fun c => { c with uses := 0 } }
  s.reportActivity (allScreens.foldl State.moveHeld emptied)

/-! ## The announcement feed (R104) -/

/-- Samples of an item: a clip's length, or 48 a millisecond of a gap. -/
def Composer.itemSamples (a : Composer) : Item → Nat
  | .clip c => a.clips[c].length
  | .gap ms => 48 * ms

/-- The entry's last sample has been fed. -/
def QueueEntry.fed (e : QueueEntry) : Bool := decide (e.items.length ≤ e.next)

/-- The sample an entry gives at a period; a gap gives 0. -/
def Composer.sampleOf (a : Composer) (e : QueueEntry) : Int :=
  match e.items[e.next]? with
  | some (.clip c) => (clipRead a.memory (clipAddress a.clips[c].start e.offset)).toInt
  | some (.gap _) => 0
  | none => 0

/-- The entry after one period. -/
def Composer.advanceEntry (a : Composer) (e : QueueEntry) : QueueEntry :=
  match e.items[e.next]? with
  | none => e
  | some i =>
    if e.offset + 1 < a.itemSamples i then { e with offset := e.offset + 1 }
    else { e with next := e.next + 1, offset := 0 }

end Sys2Proof.Machine
end

