-- ==== Sys2Proof/Machine/Events.lean ====
section
/-! DEFINITION. Raising an event (R110, R158): the announcement its table entry asks for, then its notice. -/

namespace Sys2Proof.Machine

/-- Events (Table 6-2). -/
inductive Event
  | fieldFull | fieldNearFull | fieldReopen | countUncertain | laneSilent | soundLost | soundBack | deadAir
  | txCut | txSilent | projUnanswered | showState | orderLate | stationAbsent | orderAbandoned | linkDown
  deriving DecidableEq, Repr

/-- Event codes (Table 6-2). -/
def Event.code : Event → Fin 16
  | .fieldFull => 0 | .fieldNearFull => 1 | .fieldReopen => 2 | .countUncertain => 3 | .laneSilent => 4
  | .soundLost => 5 | .soundBack => 6 | .deadAir => 7 | .txCut => 8 | .txSilent => 9 | .projUnanswered => 10
  | .showState => 11 | .orderLate => 12 | .stationAbsent => 13 | .orderAbandoned => 14 | .linkDown => 15

/-- The clock bytes of a NOTICE: the screen's show clock, or bytes the layout gives no value (log 22). -/
def State.noticeClock (s : State) (clockOf : Option ScreenId) : List Byte :=
  match clockOf with
  | some c => le24 s.screens[c].seq.clock
  | none =>
    [Config.unstated s.freeCount .noticeClock0, Config.unstated s.freeCount .noticeClock1,
      Config.unstated s.freeCount .noticeClock2]

/-- The NOTICE of an event (R158, 09 section 9.7), to the console station as it stands. -/
def State.noticeCell (s : State) (e : Event) (subject snapshot : Nat) (clockOf : Option ScreenId) : OwnCell :=
  { kind := .notice
    dest := s.mgmt.site.console
    payload := le8 e.code.val ++ flagByte clockOf.isSome ++ le16 subject ++ le32 snapshot ++ s.noticeClock clockOf }

/-- R158: the notice, when the entry's flag asks for one. -/
def State.sendNotice (s : State) (e : Event) (subject snapshot : Nat) (clockOf : Option ScreenId) : State :=
  if s.ann.events[e.code].notice then
    (((s.modMgmt fun m => { m with notices := bump16 m.notices }).handNormal
      (s.noticeCell e subject snapshot clockOf)).1).draw
  else s

/-- R110: the announcement, when the entry has a phrase and an output. -/
def State.eventRequest (s : State) (e : Event) (subject : Nat) : State :=
  match s.ann.events[e.code].phrase with
  | none => s
  | some phrase =>
    if s.ann.events[e.code].mask = 0 then s
    else
      s.announce
        { phrase := phrase, mask := s.ann.events[e.code].mask, priority := s.ann.events[e.code].priority
          mode := s.ann.events[e.code].mode, origin := .event, number := subject }

/-- An event raised, taken once by the Composer and once by the Management Responder (R110, R158; order: log 17). -/
def State.raise (s : State) (e : Event) (subject snapshot : Nat) (clockOf : Option ScreenId) : State :=
  (s.eventRequest e subject).sendNotice e subject snapshot clockOf

end Sys2Proof.Machine
end

