-- ==== Sys2Proof/Machine/Flags.lean ====
section
/-! DEFINITION. The field flags of a screen (R124 to R126) and the availability they are judged on. -/

namespace Sys2Proof.Machine

/-- R124: A = C − O − R − P. -/
def Screen.availability (c : Screen) : Int :=
  (c.config.capacity : Int) - c.field.occupancy - c.config.reserved - c.field.pending

/-- R124: A of a screen as it stands. -/
def State.availability (s : State) (c : ScreenId) : Int := s.screens[c].availability

/-- R124: the full flag judged at a recomputation of A. -/
def State.judgeFull (s : State) (c : ScreenId) : State :=
  if s.availability c ≤ 0 ∧ !s.screens[c].field.full then
    (s.modField c fun f => { f with full := true }).raise .fieldFull (numberOf c) s.screens[c].field.occupancy (some c)
  else if 0 < s.availability c ∧ s.screens[c].field.full then s.modField c fun f => { f with full := false }
  else s

/-- R125: the window between the marks is off while both are 0. -/
def ScreenConfig.windowOn (g : ScreenConfig) : Bool := !(decide (g.high = 0) && decide (g.low = 0))

/-- R125: the near-full flag judged after a change of O, H or L with the window on. -/
def State.judgeNearFull (s : State) (c : ScreenId) : State :=
  let g := s.screens[c].config
  let f := s.screens[c].field
  if g.windowOn ∧ g.high ≤ f.occupancy ∧ !f.nearFull then
    (s.modField c fun f => { f with nearFull := true }).raise .fieldNearFull (numberOf c) f.occupancy (some c)
  else if g.windowOn ∧ f.occupancy ≤ g.low ∧ f.nearFull then
    (s.modField c fun f => { f with nearFull := false }).raise .fieldReopen (numberOf c) f.occupancy (some c)
  else s

/-- R125: a change of O moves the near-full flag first and the full flag second. -/
def State.judgeFlags (s : State) (c : ScreenId) : State := (s.judgeNearFull c).judgeFull c

/-- R116: the uncertain flag set, with its event when it was clear. -/
def State.flagUncertain (s : State) (c : ScreenId) : State :=
  if s.screens[c].field.uncertain then s
  else
    (s.modField c fun f => { f with uncertain := true }).raise .countUncertain (numberOf c)
      s.screens[c].field.occupancy (some c)

/-- R121: one more car, O saturating at 4095 and Ot kept at or below it. -/
def FieldCounts.gain (f : FieldCounts) (v : Vehicle) : FieldCounts :=
  let o := min (f.occupancy + 1) 4095
  { f with occupancy := o, tall := if v = .tall ∧ f.tall < o then f.tall + 1 else f.tall }

/-- R123: one car fewer, neither count below 0, Ot kept at or below O, an underflow counted once. -/
def FieldCounts.lose (f : FieldCounts) (v : Vehicle) : FieldCounts :=
  let t := if v = .tall then f.tall - 1 else f.tall
  let under := decide (f.occupancy = 0) || (decide (v = .tall) && decide (f.tall = 0))
  { f with
    occupancy := f.occupancy - 1
    tall := min t (f.occupancy - 1)
    underflows := if under then bump16 f.underflows else f.underflows }

/-- R113: a pending admission that names the screen is made. -/
def FieldCounts.pend (f : FieldCounts) (v : Vehicle) : FieldCounts :=
  { f with
    pending := f.pending + 1
    tallPending := if v = .tall then f.tallPending + 1 else f.tallPending }

/-- R113: a pending admission that names the screen is cleared. -/
def FieldCounts.unpend (f : FieldCounts) (v : Vehicle) : FieldCounts :=
  { f with
    pending := f.pending - 1
    tallPending := if v = .tall then f.tallPending - 1 else f.tallPending }

end Sys2Proof.Machine
end

