-- ==== Sys2Proof/Machine/Kitchen.lean ====
section
/-! DEFINITION. The Order Router's traffic with the kitchen (08 section 8.3): backlogs, dispatch, deliveries and their
failures; and what a block does that is told DROPPED for a NORMAL cell (R41). -/

namespace Sys2Proof.Machine

/-- What must be known of a ticket to order a backlog (R138). -/
def State.ticketReturned (s : State) (t : TicketId) : Bool :=
  match s.router.tickets[t] with
  | some k => k.returned
  | none => false

def State.ticketRush (s : State) (t : TicketId) : Bool :=
  match s.router.tickets[t] with
  | some k => k.rush
  | none => false

/-- `t` joins behind the tickets of a backlog's head that satisfy `ahead`. -/
def joinBehind (ahead : TicketId → Bool) (t : TicketId) (l : List TicketId) : List TicketId :=
  l.takeWhile ahead ++ t :: l.dropWhile ahead

/-- R138: a ticket just made joins its group: RUSH behind the returned and the RUSH tickets, another at the back. -/
def State.joinBacklog (s : State) (k : KitchenId) (t : TicketId) : State :=
  s.modKitchen k fun st =>
    { st with
      backlog :=
        if s.ticketRush t then joinBehind (fun u => s.ticketReturned u || s.ticketRush u) t st.backlog
        else st.backlog ++ [t] }

/-- R140: a ticket returned goes behind any tickets already returned. -/
def State.returnTicket (s : State) (k : KitchenId) (t : TicketId) : State :=
  let s' := s.modTicket t fun v => { v with state := .backlog, returned := true, lateTimer := none }
  s'.modKitchen k fun st =>
    { st with sent := st.sent - 1, backlog := joinBehind s.ticketReturned t st.backlog }

/-- The number of a screen in a cell; 0 for a walk-up. -/
def screenNumber (c : Option ScreenId) : Nat :=
  match c with
  | some i => numberOf i
  | none => 0

/-- The lines of a cell that carries an order's lines. -/
def lineBytes (lines : List OrderLine) : List Byte := lines.flatMap fun l => [l.item, BitVec.ofNat 8 l.quantity]

/-- The TICKET cell of a ticket (R139, 09 section 9.7). -/
def State.ticketCell (s : State) (t : TicketId) (v : Ticket) : OwnCell :=
  { kind := .ticket
    dest := s.router.kitchens[v.kitchen].loopStation
    payload :=
      le16 v.order
        ++ le8 (match s.order? v.order with
          | some o => screenNumber o.screen
          | none => 0)
        ++ le8 (numberOf v.kitchen) ++ flagByte v.rush ++ le8 v.lines.length ++ lineBytes v.lines
    ref := .ticket t s.router.serials[t] }

/-- R138, R139: the send serial raised and the TICKET handed over. -/
def State.handTicket (s : State) (t : TicketId) (v : Ticket) : State × HandOver :=
  let s' := s.modRouter fun r => { r with serials := r.serials.set t (r.serials[t] + 1) }
  s'.handNormal (s'.ticketCell t v)

/-- R140: a failed send of a SENT ticket. A resend dropped at hand-over fails at once; `fuel` bounds the resends, of
which there are at most two. The attempts of a ticket whose station is already ABSENT stay as they are (DESIGN CHOICE,
log 50). -/
def State.ticketFailed (t : TicketId) : Nat → State → State
  | 0, s => s
  | fuel + 1, s =>
    match s.router.tickets[t] with
    | none => s
    | some v =>
      let k := v.kitchen
      let present := decide (s.router.kitchens[k].state = .present)
      let counted :=
        (s.modRouter fun r => { r with ticketFailures := bump16 r.ticketFailures }).modKitchen k fun st =>
          { st with failRun := bump8 st.failRun }
      if present then
        let tried := counted.modTicket t fun v => { v with attempts := v.attempts + 1 }
        if v.attempts + 1 < 3 then
          match tried.handTicket t v with
          | (sent, .queued) => sent
          | (sent, .dropped) => State.ticketFailed t fuel sent
        else
          let absent := (tried.returnTicket k t).modKitchen k fun st => { st with state := .absent }
          absent.raise .stationAbsent (numberOf k) absent.router.kitchens[k].failRun none
      else counted.returnTicket k t

/-- R139: an outcome refers to the ticket's present send. -/
def State.sendStands (s : State) (t : TicketId) (serial : Byte) : Bool :=
  match s.router.tickets[t] with
  | some v => decide (v.state = .sent) && decide (s.router.serials[t] = serial)
  | none => false

/-- R139, R140: an outcome of a TICKET, or a DROPPED for one. -/
def State.ticketOutcome (s : State) (t : TicketId) (serial : Byte) (delivered : Bool) : State :=
  if s.sendStands t serial then
    if delivered then
      match s.router.tickets[t] with
      | some v => s.modKitchen v.kitchen fun st => { st with failRun := 0 }
      | none => s
    else State.ticketFailed t 3 s
  else s.modRouter fun r => { r with staleOutcomes := bump16 r.staleOutcomes }

/-- R138: the station takes the head of its backlog. -/
def Kitchen.dispatches (k : Kitchen) : Bool := decide (k.state = .present) && decide (k.sent < k.limit)

/-- R138: the head of a backlog is sent. -/
def State.sendHead (s : State) (k : KitchenId) (t : TicketId) (rest : List TicketId) : State :=
  match s.router.tickets[t] with
  | none => s.modKitchen k fun st => { st with backlog := rest }
  | some v =>
    let sent : Ticket :=
      { v with state := .sent, attempts := 0, returned := false
               lateTimer := some s.router.kitchens[k].lateLimit }
    let s' :=
      (s.setTicket t (some sent)).modKitchen k fun st => { st with backlog := rest, sent := st.sent + 1 }
    match s'.handTicket t sent with
    | (h, .queued) => h
    | (h, .dropped) => State.ticketFailed t 3 h

/-- R138: dispatch for a station, at most `fuel` tickets. -/
def State.dispatchUpTo (k : KitchenId) : Nat → State → State
  | 0, s => s
  | fuel + 1, s =>
    match s.router.kitchens[k].backlog with
    | [] => s
    | t :: rest =>
      if s.router.kitchens[k].dispatches then State.dispatchUpTo k fuel (s.sendHead k t rest) else s

/-- R138: dispatch is tried for a station. -/
def State.dispatch (s : State) (k : KitchenId) : State :=
  State.dispatchUpTo k s.router.kitchens[k].backlog.length s

/-- R41: a block is told that its NORMAL cell was removed to make room. -/
def State.toldRemoved (s : State) (o : OwnCell) : State :=
  match o.kind, o.ref with
  | .ticket, .ticket t serial => s.ticketOutcome t serial false
  | .ticketVoid, _ => s.modRouter fun r => { r with unansweredVoids := bump16 r.unansweredVoids }
  | .orderReply, _ => s.modRouter fun r => { r with replyDropped := bump16 r.replyDropped }
  | .orderState, _ => s.modRouter fun r => { r with boardDropped := bump16 r.boardDropped }
  | _, _ => s

/-- R40, R41: an URGENT cell handed over; the owner of a NORMAL entry removed for it is told (log 16). -/
def State.handUrgent (s : State) (o : OwnCell) : State × HandOver :=
  let h := s.cell.handOver o
  let s' : State := { s with cell := h.cell }
  match h.removed with
  | some gone => (s'.toldRemoved gone, h.answer)
  | none => (s', h.answer)

end Sys2Proof.Machine
end

