-- ==== Sys2Proof/Machine/Gates.lean ====
section
/-! DEFINITION. The Gate Counter (07): lanes, admission verdicts, pending admissions and passages. -/

namespace Sys2Proof.Machine

/-- R113: the lane whose station is the source of a cell; a lane with station 0 is unused. -/
def State.laneOf (s : State) (source : Nat) : Option LaneId :=
  allLanes.find? fun l => decide (s.gate.lanes[l].station ≠ 0) && decide (s.gate.lanes[l].station = source)

/-- R115: a delivered cell from a lane's station makes the lane ACTIVE and loads its silence timer. -/
def State.laneSeen (s : State) (source : Nat) : State :=
  match s.laneOf source with
  | none => s
  | some l => s.modLane l fun v => { v with state := .active, silenceTimer := loadLimit v.silenceLimit }

/-! ## Asking for admission (R117 to R119) -/

/-- Verdicts of R117. -/
inductive AskVerdict
  | grant (screen : ScreenId) (lane : LaneId) (vehicle : Vehicle)
  | unknownLane | laneBusy | badAsk | closed | full
  deriving DecidableEq, Repr

/-- Verdict codes (09 section 9.7). -/
def AskVerdict.code : AskVerdict → Nat
  | .grant _ _ _ => 0 | .unknownLane => 1 | .laneBusy => 2 | .badAsk => 3 | .closed => 4 | .full => 5

/-- R117: the screen is enabled and its admission OPEN. -/
def State.admits (s : State) (c : ScreenId) : Bool :=
  s.screens[c].config.enabled && decide (s.screens[c].field.admission = .opened)

/-- R117, R118: A leaves a place, and a tall place for a TALL vehicle. -/
def State.hasPlace (s : State) (c : ScreenId) (v : Vehicle) : Bool :=
  decide (0 < s.availability c) &&
    (decide (v = .car) ||
      decide (s.screens[c].field.tall + s.screens[c].field.tallPending < s.screens[c].config.tallQuota))

/-- R118: of the screens with a place, the one with the greatest A, the lowest-numbered of equals. -/
def State.roomiest (s : State) (v : Vehicle) : Option ScreenId :=
  (allScreens.filter fun c => s.admits c && s.hasPlace c v).foldl
    (fun best c =>
      match best with
      | none => some c
      | some b => if s.availability b < s.availability c then some c else some b)
    none

/-- R117: the verdict on an ask. -/
def State.judgeAsk (s : State) (source screen vehicle : Byte) : AskVerdict :=
  match s.laneOf source.toNat with
  | none => .unknownLane
  | some l =>
    if s.gate.lanes[l].role = .exit then .unknownLane
    else if s.gate.lanes[l].pending.isSome then .laneBusy
    else if 4 < screen.toNat then .badAsk
    else
      match vehicleOf vehicle.toNat with
      | none => .badAsk
      | some v =>
        match fromOne 4 screen.toNat with
        | some c =>
          if !s.admits c then .closed
          else if !s.hasPlace c v then .full
          else .grant c l v
        | none =>
          match s.roomiest v with
          | some c => .grant c l v
          | none => if allScreens.any s.admits then .full else .closed

/-- R119: the ADMIT_REPLY of a verdict. -/
def State.admitReply (s : State) (sender : Sender) (screen : Byte) (v : AskVerdict) : OwnCell :=
  { kind := .admitReply
    dest := sender.source.toNat
    echo := some sender.tag
    payload :=
      match v with
      | .grant c _ vehicle =>
        le8 v.code ++ le8 (numberOf c) ++ le8 s.sound.config[outputOf c].tuneChannel ++ le8 vehicle.code
          ++ le16 (s.availability c - 1).toNat
      | _ => le8 v.code ++ [screen] ++ le8 0 ++ le8 0 ++ le16 0 }

/-- R119: a queued GRANT becomes the lane's pending admission. -/
def State.grant (s : State) (c : ScreenId) (l : LaneId) (v : Vehicle) : State :=
  ((s.modLane l fun n =>
      { n with pending := some { screen := c, vehicle := v, passTimer := n.passTimeout } }).modField c fun f =>
    f.pend v).judgeFull c

/-- R117, R119: an ADMIT_ASK taken. -/
def State.takeAdmitAsk (s : State) (sender : Sender) (screen vehicle : Byte) : State :=
  let v := s.judgeAsk sender.source screen vehicle
  match s.handUrgent (s.admitReply sender screen v), v with
  | (sent, .queued), .grant c l w => sent.grant c l w
  | (sent, _), _ => sent

/-! ## Pending admissions and passages (R116, R120 to R123) -/

/-- A lane's pending admission cleared, with the counts of the screen it named (R113). -/
def State.clearPending (s : State) (l : LaneId) (p : PendingAdmission) : State :=
  (s.modLane l fun n => { n with pending := none }).modField p.screen fun f => f.unpend p.vehicle

/-- R120: a lane's pass timer runs out. -/
def State.passExpires (s : State) (l : LaneId) : State :=
  match s.gate.lanes[l].pending with
  | none => s
  | some p =>
    ((s.clearPending l p).modField p.screen fun f => { f with expiries := bump16 f.expiries }).judgeFull p.screen

/-- R116: a lane's silence timer runs out. The home screen's COUNT_UNCERTAIN comes before that of the cleared admission's
screen (DESIGN CHOICE, log 53). -/
def State.silenceExpires (s : State) (l : LaneId) : State :=
  let lane := s.gate.lanes[l]
  match lane.silenceTimer with
  | none => s
  | some _ =>
    let silent :=
      (s.modLane l fun n => { n with state := .silent, silenceTimer := none }).raise .laneSilent (numberOf l)
        lane.station none
    match lane.pending with
    | none => silent.flagUncertain lane.home
    | some p =>
      let flagged := ((silent.clearPending l p).judgeFull p.screen).flagUncertain lane.home
      if p.screen = lane.home then flagged else flagged.flagUncertain p.screen

/-- R121: a car enters at an ENTRY lane. -/
def State.enters (s : State) (l : LaneId) (v : Vehicle) : State :=
  match s.gate.lanes[l].pending with
  | some p => ((s.clearPending l p).modField p.screen fun f => f.gain p.vehicle).judgeFlags p.screen
  | none =>
    let home := s.gate.lanes[l].home
    (s.modField home fun f => { f.gain v with tailgates := bump16 f.tailgates }).judgeFlags home

/-- R122: a car backs out of an ENTRY lane. -/
def State.backsOut (s : State) (l : LaneId) : State :=
  match s.gate.lanes[l].pending with
  | some p => (s.clearPending l p).judgeFull p.screen
  | none => s.modGate fun g => { g with strayBackouts := bump16 g.strayBackouts }

/-- R123: a car leaves at an EXIT lane. -/
def State.exits (s : State) (l : LaneId) (v : Vehicle) : State :=
  let home := s.gate.lanes[l].home
  (s.modField home fun f => f.lose v).judgeFlags home

/-- Passages (09 section 9.7). -/
inductive Passage
  | entered | backedOut | exited
  deriving DecidableEq, Repr

def passageOf (n : Nat) : Option Passage :=
  match n with
  | 1 => some .entered
  | 2 => some .backedOut
  | 3 => some .exited
  | _ => none

/-- R121 to R123: a PASSAGE taken. One with an unlisted vehicle code counts as unmatched alone, whether or not it fits its
lane's role (DESIGN CHOICE, log 49). -/
def State.takePassage (s : State) (source : Byte) (passage : Option Passage) (vehicle : Byte) : State :=
  match s.laneOf source.toNat, passage, vehicleOf vehicle.toNat with
  | some l, some p, some v =>
    match s.gate.lanes[l].role, p with
    | .entry, .entered => s.enters l v
    | .entry, .backedOut => s.backsOut l
    | .exit, .exited => s.exits l v
    | _, _ => s.modGate fun g => { g with strayPassages := bump16 g.strayPassages }
  | _, _, _ => s.modGate fun g => { g with unmatchedPassages := bump16 g.unmatchedPassages }

/-- R113, R129: a warm restart reloads the timers that run. -/
def Lane.reloadTimers (n : Lane) : Lane :=
  { n with
    silenceTimer := n.silenceTimer.bind fun _ => loadLimit n.silenceLimit
    pending := n.pending.map fun p => { p with passTimer := n.passTimeout } }

end Sys2Proof.Machine
end

