-- ==== Sys2Proof/Machine/Orders.lean ====
section
/-! DEFINITION. The Order Router (08): placing an order, bumps, calls, pickups, cancellation and late orders. -/

namespace Sys2Proof.Machine

/-! ## Stations seen (R133) -/

/-- The kitchen station whose loop station is the source of a cell; 0 is unused (R131). -/
def State.kitchenOf (s : State) (source : Nat) : Option KitchenId :=
  allKitchens.find? fun k =>
    decide (s.router.kitchens[k].loopStation ≠ 0) && decide (s.router.kitchens[k].loopStation = source)

/-- R133: a delivered cell from a kitchen station makes it PRESENT; dispatch is tried when it was not. -/
def State.kitchenSeen (s : State) (source : Nat) : State :=
  match s.kitchenOf source with
  | none => s
  | some k =>
    if s.router.kitchens[k].state = .present then s
    else (s.modKitchen k fun st => { st with state := .present }).dispatch k

/-! ## Placing an order (R135 to R137) -/

/-- Verdicts of R135; a line is counted from 1. -/
inductive PlaceVerdict
  | placed (number : Nat)
  | badOrder | ordersClosed
  | unknownItem (line : Nat)
  | soldOut (line : Nat)
  | noStation (line : Nat)
  | tableFull
  deriving DecidableEq, Repr

/-- R137, 09 section 9.7: verdict code, order number and line of an ORDER_REPLY. -/
def PlaceVerdict.bytes : PlaceVerdict → List Byte
  | .placed n => le8 0 ++ le16 n ++ le8 0
  | .badOrder => le8 1 ++ le16 0 ++ le8 0
  | .ordersClosed => le8 2 ++ le16 0 ++ le8 0
  | .unknownItem k => le8 3 ++ le16 0 ++ le8 k
  | .soldOut k => le8 4 ++ le16 0 ++ le8 k
  | .noStation k => le8 5 ++ le16 0 ++ le8 k
  | .tableFull => le8 6 ++ le16 0 ++ le8 0

/-- The menu item of an item code. -/
def State.menuItem (s : State) (item : Byte) : MenuItem := s.router.menu[(Fin.ofNat 256 item.toNat : Fin 256)]

/-- R135 step 3: the quantities of an item over all lines. -/
def totalOf (lines : List OrderLine) (item : Byte) : Nat :=
  ((lines.filter fun l => l.item = item).map fun l => l.quantity).sum

/-- R135: a station is PRESENT. -/
def State.kitchenPresent (s : State) (k : KitchenId) : Bool := decide (s.router.kitchens[k].state = .present)

/-- R135 step 3: a line's chosen station, or the fault of the line. -/
def State.chooseLine (s : State) (all : List OrderLine) (k : Nat) (l : OrderLine) : Except PlaceVerdict KitchenId :=
  let m := s.menuItem l.item
  if !m.available then .error (.unknownItem k)
  else if (match m.portions with
      | some p => decide (p < totalOf all l.item)
      | none => false) then .error (.soldOut k)
  else if s.kitchenPresent m.primary then .ok m.primary
  else
    match m.alternate with
    | some a => if s.kitchenPresent a then .ok a else .error (.noStation k)
    | none => .error (.noStation k)

/-- R135 step 3: the lines taken in order from line `k` on. -/
def State.chooseLines (s : State) (all : List OrderLine) : Nat → List OrderLine → Except PlaceVerdict (List KitchenId)
  | _, [] => .ok []
  | k, l :: rest =>
    match s.chooseLine all k l with
    | .error v => .error v
    | .ok c =>
      match s.chooseLines all (k + 1) rest with
      | .error v => .error v
      | .ok cs => .ok (c :: cs)

/-- R135 step 2: ordering is closed to the order. -/
def State.orderingClosed (s : State) (screen : Option ScreenId) : Bool :=
  match screen with
  | some c => decide (s.screens[c].ordering = .closed)
  | none => !s.mgmt.site.walkUp

/-- The free pool indices, lowest first (log 25). -/
def Router.freeTickets (r : Router) : List TicketId := (List.finRange 256).filter fun t => r.tickets[t].isNone

/-- R136 step 4: the distinct chosen stations, ascending. -/
def distinctKitchens (chosen : List KitchenId) : List KitchenId := allKitchens.filter fun k => chosen.contains k

/-- R135: steps 1 to 4; the stations chosen for the lines, or the refusal. -/
def State.judgePlace (s : State) (screen : Byte) (lines : List OrderLine) : Except PlaceVerdict (List KitchenId) :=
  if 4 < screen.toNat ∨ lines = [] ∨ 8 < lines.length ∨ lines.any (fun l => l.quantity = 0 ∨ 15 < l.quantity) then
    .error .badOrder
  else if s.orderingClosed (fromOne 4 screen.toNat) then .error .ordersClosed
  else
    match s.chooseLines lines 1 lines with
    | .error v => .error v
    | .ok chosen =>
      if 128 ≤ s.router.orders.length ∨ s.router.freeTickets.length < (distinctKitchens chosen).length then
        .error .tableFull
      else .ok chosen

/-- R136 step 2: the number after `n`, wrapping from 999 to 1. -/
def nextOrderNumber (n : Nat) : Nat := if 999 ≤ n then 1 else n + 1

/-- R136 step 2: the first number at or after `n` that no live order holds. -/
def State.freeNumber (s : State) : Nat → Nat → Nat
  | 0, n => n
  | fuel + 1, n => if (s.order? n).isSome then s.freeNumber fuel (nextOrderNumber n) else n

/-- R136 step 1: an item's counted portions fall. -/
def State.takePortions (s : State) (l : OrderLine) : State :=
  s.modRouter fun r =>
    let i : Fin 256 := Fin.ofNat 256 l.item.toNat
    { r with menu := r.menu.set i { r.menu[i] with portions := r.menu[i].portions.map fun p => p - l.quantity } }

/-- R136 step 3: the RUSH mark at acceptance. -/
def State.isRush (s : State) (screen : Option ScreenId) : Bool :=
  match screen with
  | some c => decide (s.screens[c].seq.shown = .intermission) || decide (s.screens[c].ordering = .lastCall)
  | none => false

/-- R136 step 4: one ticket made, and joined to its station's backlog. -/
def State.makeTicket (number : Nat) (rush : Bool) (s : State) (t : TicketId × KitchenId × List OrderLine) : State :=
  (s.setTicket t.1
      (some
        { order := number, kitchen := t.2.1, lines := t.2.2, state := .backlog, rush := rush, returned := false
          attempts := 0, lateTimer := none })).joinBacklog t.2.1 t.1

/-- R136 step 4: the lines of an order for one station. -/
def linesFor (lines : List OrderLine) (chosen : List KitchenId) (k : KitchenId) : List OrderLine :=
  ((lines.zip chosen).filter fun p => p.2 = k).map fun p => p.1

/-- R137: the ORDER_REPLY handed over. -/
def State.replyOrder (s : State) (sender : Sender) (v : PlaceVerdict) : State :=
  match s.handNormal
      { kind := .orderReply, dest := sender.source.toNat, payload := v.bytes, echo := some sender.tag } with
  | (sent, .queued) => sent
  | (sent, .dropped) => sent.modRouter fun r => { r with replyDropped := bump16 r.replyDropped }

/-- R136: an order accepted, up to step 4. -/
def State.enterOrder (s : State) (sender : Sender) (screen : Option ScreenId) (lines : List OrderLine)
    (chosen : List KitchenId) (number : Nat) : State :=
  let kitchens := distinctKitchens chosen
  let pool := s.router.freeTickets.take kitchens.length
  let rush := s.isRush screen
  let entered :=
    (lines.foldl State.takePortions s).modRouter fun r =>
      { r with
        nextNumber := nextOrderNumber number
        placed := bump16 r.placed
        orders := r.orders ++
          [{ number := number, screen := screen, origin := sender.source.toNat, placeTag := sender.tag, state := .opened
             rush := rush, late := false, lines := lines, tickets := pool, callCount := 0, recallLeft := none
             callActive := false }] }
  (pool.zip (kitchens.map fun k => (k, linesFor lines chosen k))).foldl (State.makeTicket number rush) entered

/-- R135: the live order this ORDER_PLACE repeats. -/
def State.repeats (s : State) (sender : Sender) : Option Order :=
  s.router.orders.find? fun o => o.origin == sender.source.toNat && o.placeTag == sender.tag

/-- R135 to R137: an ORDER_PLACE taken. -/
def State.takeOrderPlace (s : State) (sender : Sender) (screen : Byte) (raw : List (Byte × Byte)) : State :=
  let lines : List OrderLine := raw.map fun p => { item := p.1, quantity := p.2.toNat }
  match s.repeats sender with
  | some o =>
    (s.modRouter fun r => { r with repeated := bump16 r.repeated }).replyOrder sender (.placed o.number)
  | none =>
    match s.judgePlace screen lines with
    | .error v => (s.modRouter fun r => { r with refused := bump16 r.refused }).replyOrder sender v
    | .ok chosen =>
      let number := s.freeNumber 999 s.router.nextNumber
      let entered := s.enterOrder sender (fromOne 4 screen.toNat) lines chosen number
      (distinctKitchens chosen).foldl State.dispatch (entered.replyOrder sender (.placed number))

/-! ## Calls (R142, R144, R146) -/

/-- States of an ORDER_STATE (09 section 9.7). -/
inductive BoardState
  | ready | picked | abandoned | cancelled
  deriving DecidableEq, Repr

def BoardState.code : BoardState → Nat
  | .ready => 1 | .picked => 2 | .abandoned => 3 | .cancelled => 4

/-- R146: an ORDER_STATE handed to the board station, if there is one. -/
def State.tellBoard (s : State) (o : Order) (b : BoardState) : State :=
  if s.mgmt.site.board = 0 then s
  else
    match s.handNormal
        { kind := .orderState
          dest := s.mgmt.site.board
          payload :=
            le16 o.number ++ le8 (screenNumber o.screen) ++ le8 b.code ++ le8 o.callCount ++ flagByte o.late } with
    | (sent, .queued) => sent
    | (sent, .dropped) => sent.modRouter fun r => { r with boardDropped := bump16 r.boardDropped }

/-- R142: the output mask of a call. -/
def State.callMask (s : State) (screen : Option ScreenId) : BitVec 5 :=
  match screen with
  | some c => (1 <<< c.val) ||| (if s.mgmt.site.paCall then 16 else 0)
  | none => 16

/-- R142: a call for a live order. -/
def State.callOrder (s : State) (o : Order) : State :=
  let called := s.modOrder o.number fun v => { v with callCount := v.callCount + 1 }
  let asked := called.announce (called.callRequest o.number (called.callMask o.screen))
  (asked.modOrder o.number fun v =>
      { v with recallLeft := some asked.mgmt.site.recallInterval, callActive := asked.callActive o.number }).tellBoard
    { o with callCount := o.callCount + 1 } .ready

/-- R134: an order leaves the table with all its tickets. -/
def State.freeOrder (s : State) (o : Order) : State :=
  (o.tickets.foldl (fun s t => s.setTicket t none) s).modRouter fun r =>
    { r with orders := r.orders.filter fun v => v.number != o.number }

/-- R144: an order is abandoned. -/
def State.abandon (s : State) (o : Order) : State :=
  (((s.modRouter fun r => { r with abandoned := bump16 r.abandoned }).raise .orderAbandoned o.number o.callCount
      o.screen).tellBoard o .abandoned).freeOrder o

/-- R143: the order's recall countdown runs. -/
def Order.recallRuns (o : Order) : Bool := decide (o.state = .ready) && o.recallLeft.isSome && !o.callActive

/-- R144: a recall countdown reaches 0. -/
def State.recallExpires (s : State) (number : Nat) : State :=
  match s.order? number with
  | none => s
  | some o =>
    if o.recallRuns then
      if o.callCount < s.mgmt.site.maxCalls then s.callOrder o else s.abandon o
    else s

/-! ## Bumps, late tickets, pickups (R141, R145, R147) -/

/-- The SENT ticket of an order at a station. -/
def State.sentTicket (s : State) (o : Order) (k : KitchenId) : Option TicketId :=
  o.tickets.find? fun t =>
    match s.router.tickets[t] with
    | some v => decide (v.kitchen = k) && decide (v.state = .sent)
    | none => false

/-- R141: every ticket of an order is BUMPED, and there is one. -/
def State.allBumped (s : State) (o : Order) : Bool :=
  !o.tickets.isEmpty &&
    o.tickets.all fun t =>
      match s.router.tickets[t] with
      | some v => decide (v.state = .bumped)
      | none => false

/-- R141: a SENT ticket bumped; the order becomes READY with its last one. -/
def State.bumpTicket (s : State) (o : Order) (k : KitchenId) (t : TicketId) : State :=
  let bumped :=
    ((s.modTicket t fun v => { v with state := .bumped, lateTimer := none }).modKitchen k fun st =>
        { st with sent := st.sent - 1 }).dispatch k
  if bumped.allBumped o then
    (bumped.modOrder o.number fun v => { v with state := .ready }).callOrder o
  else bumped

/-- R141: a BUMP taken. -/
def State.takeBump (s : State) (source : Byte) (number : Half) (kitchen : Byte) : State :=
  let stray := s.modRouter fun r => { r with strayBumps := bump16 r.strayBumps }
  let unmatched := s.modRouter fun r => { r with unmatchedBumps := bump16 r.unmatchedBumps }
  match fromOne 8 kitchen.toNat with
  | none => unmatched
  | some k =>
    if s.router.kitchens[k].loopStation ≠ 0 ∧ s.router.kitchens[k].loopStation = source.toNat then
      match s.order? number.toNat with
      | none => stray
      | some o =>
        match s.sentTicket o k with
        | none => stray
        | some t => s.bumpTicket o k t
    else unmatched

/-- R145: the late timer of a SENT ticket runs out. -/
def State.lateExpires (s : State) (t : TicketId) : State :=
  match s.router.tickets[t] with
  | none => s
  | some v =>
    if v.state = .sent ∧ v.lateTimer.isSome then
      let expired := s.modTicket t fun v => { v with lateTimer := none }
      match s.order? v.order with
      | none => expired
      | some o =>
        if o.late then expired
        else
          (expired.modOrder o.number fun w => { w with late := true }).raise .orderLate o.number (numberOf v.kitchen)
            o.screen
    else s

/-- R147: a PICKUP taken. -/
def State.takePickup (s : State) (source : Byte) (number : Half) : State :=
  if s.mgmt.site.counter ≠ 0 ∧ s.mgmt.site.counter = source.toNat then
    match s.order? number.toNat with
    | some o =>
      if o.state = .ready then ((s.withdrawCalls o.number).tellBoard o .picked).freeOrder o
      else s.modRouter fun r => { r with strayPickups := bump16 r.strayPickups }
    | none => s.modRouter fun r => { r with strayPickups := bump16 r.strayPickups }
  else s.modRouter fun r => { r with ignoredPickups := bump16 r.ignoredPickups }

/-! ## Cancellation (R148, R149) -/

/-- R148: the portions of a line rise again, saturating at 9999; UNLIMITED items gain nothing. -/
def State.restorePortions (s : State) (l : OrderLine) : State :=
  s.modRouter fun r =>
    let i : Fin 256 := Fin.ofNat 256 l.item.toNat
    { r with
      menu := r.menu.set i { r.menu[i] with portions := r.menu[i].portions.map fun p => min (p + l.quantity) 9999 } }

/-- R148, R149: a TICKET_VOID handed over. -/
def State.sendVoid (s : State) (o : Order) (k : KitchenId) (t : TicketId) : State :=
  match s.handNormal
      { kind := .ticketVoid, dest := s.router.kitchens[k].loopStation, payload := le16 o.number ++ le8 (numberOf k)
        ref := .voided t } with
  | (sent, .queued) => sent
  | (sent, .dropped) => sent.modRouter fun r => { r with unansweredVoids := bump16 r.unansweredVoids }

/-- R148: one ticket of a cancelled order. -/
def State.cancelTicket (o : Order) (s : State) (t : TicketId) : State :=
  match s.router.tickets[t] with
  | none => s
  | some v =>
    match v.state with
    | .backlog =>
      v.lines.foldl State.restorePortions
        ((s.setTicket t none).modKitchen v.kitchen fun st => { st with backlog := st.backlog.filter (· != t) })
    | .sent =>
      ((((s.setTicket t none).modKitchen v.kitchen fun st => { st with sent := st.sent - 1 }).sendVoid o v.kitchen
          t).dispatch v.kitchen)
    | .bumped => s.setTicket t none

/-- R148: CANCEL_ORDER. -/
def State.doCancel (s : State) (number : Half) : State × Reply :=
  match s.order? number.toNat with
  | none => (s, .range)
  | some o =>
    ((((o.tickets.foldl (State.cancelTicket o) s).withdrawCalls o.number).tellBoard o .cancelled).freeOrder o, .done)

end Sys2Proof.Machine
end

