-- ==== Sys2Proof/Machine/Sequencer.lean ====
section
/-! DEFINITION. The Show Sequencer (04): show states, testing and firing cues, the operator's commands, the show clock,
projector commands and failure holds. -/

namespace Sys2Proof.Machine

/-! ## Show states (R9, R10, R62) -/

/-- R10: a change of show state with the reactions of Table 1-3 and the SHOW_STATE event (order: log 15); the same
state again is no change. -/
def State.changeShow (s : State) (c : ScreenId) (new : ShowState) : State :=
  let old := s.screens[c].seq.shown
  if old = new then s
  else
    let s1 := s.modSeq c fun r => { r with shown := new }
    let s2 :=
      if new = .dark then (s1.modField c fun f => { f with admission := .closed }).setOrderingState c .closed else s1
    let s3 := if old = .feature then s2.releaseHeld c else s2
    s3.raise .showState (numberOf c) new.code (some c)

/-- R62: the sequencer enters IDLE at a cue index, and the screen DARK. -/
def State.toIdle (s : State) (c : ScreenId) (index : Nat) : State :=
  (s.modSeq c fun r =>
    { r with
      state := .idle, goPending := false, rehearsal := false, resting := false, pausedByHold := false
      holdReason := none, cueIndex := index }).changeShow c .dark

/-! ## Projector commands (R68) -/

/-- PROJ_UNANSWERED for a screen (R68, Table 9-2). -/
def State.projUnanswered (s : State) (c : ScreenId) : State :=
  s.raise .projUnanswered (numberOf c) s.screens[c].config.projector (some c)

/-- The PROJ_CMD cell of a screen (R68). -/
def State.projCell (s : State) (c : ScreenId) (command argument : Nat) : OwnCell :=
  { kind := .projCmd, dest := s.screens[c].config.projector, payload := le8 command ++ le8 argument, ref := .screen c }

/-- R68: a projector command sent, or skipped when the screen has no projector. -/
def State.sendProj (s : State) (c : ScreenId) (command argument : Nat) : State :=
  if s.screens[c].config.projector = 0 then s.modSeqr fun q => { q with skippedProj := bump16 q.skippedProj }
  else
    match s.handUrgent (s.projCell c command argument) with
    | (sent, .queued) => sent
    | (sent, .dropped) => sent.projUnanswered c

/-! ## Cues (R51 to R61) -/

/-- The pool entry of a screen's cue index (04 section 4.2). -/
def ShowRecord.poolEntry (r : ShowRecord) (index : Nat) : Fin 256 := Fin.ofNat 256 (r.segBase + index)

/-- The pool entry of the current cue. -/
def State.currentEntry (s : State) (c : ScreenId) : Fin 256 :=
  s.screens[c].seq.poolEntry s.screens[c].seq.cueIndex

/-- The current cue. -/
def State.currentCue (s : State) (c : ScreenId) : CueEntry := s.seqr.cues[s.currentEntry c]

/-- The outcome of a test (R55): the cue waits, fires, or fires by the pending GO, which that consumes. -/
inductive CueTest
  | waits
  | fires
  | firesOnPending
  deriving DecidableEq, Repr

/-- R56: the latest lux is present and at or below the dusk threshold. -/
def State.isDusk (s : State) : Bool :=
  match s.seqr.lux with
  | some lux => decide (lux ≤ s.mgmt.site.dusk)
  | none => false

/-- R55: the current cue's trigger tested; `byGo` says that the test is made on a GO taken for the screen. -/
def State.testCue (s : State) (c : ScreenId) (byGo : Bool) : CueTest :=
  let r := s.screens[c].seq
  let cue := s.currentCue c
  match cue.trigger with
  | .follow => .fires
  | .go => if r.goPending then .firesOnPending else if byGo then .fires else .waits
  | .clock => if cue.time ≤ r.clock then .fires else .waits
  | .after => if min (r.afterRef + cue.time) clockMax ≤ r.clock then .fires else .waits
  | .dusk => if s.isDusk then .fires else if r.goPending then .firesOnPending else .waits

/-- Where the sequencer goes after an action (R58 step 3). -/
inductive Flow
  | next
  | jump (index : Nat)
  | ended
  deriving DecidableEq, Repr

/-- R60: the request of an ANNOUNCE cue. -/
def State.cueRequest (s : State) (c : ScreenId) (cue : CueEntry) (phrase : PhraseId) (mode : AnnMode) : Request :=
  { phrase := phrase
    mask := cue.args[1].truncate 5
    priority := cue.args[2].toNat
    mode := mode
    origin := .cue
    number :=
      match cue.args[4].toNat with
      | 1 => numberOf c
      | 2 => s.sound.config[outputOf c].tuneChannel
      | _ => 0 }

/-- R59: an ADMIT action hands the state to the Gate Counter, but not OPEN in DARK. -/
def State.admitAction (s : State) (c : ScreenId) (a : Admission) : State :=
  if a = .opened ∧ s.screens[c].seq.shown = .dark then
    s.modSeqr fun q => { q with withheld := bump16 q.withheld }
  else s.modField c fun f => { f with admission := a }

/-- R59: an ORDERS action hands the state to the Order Router, but not OPEN or LAST_CALL in DARK. -/
def State.ordersAction (s : State) (c : ScreenId) (o : OrderingState) : State :=
  if o ≠ .closed ∧ s.screens[c].seq.shown = .dark then
    s.modSeqr fun q => { q with withheld := bump16 q.withheld }
  else s.setOrderingState c o

/-- R61: a LOOP action judged. -/
def State.loopAction (s : State) (c : ScreenId) (target count : Nat) : State × Flow :=
  let r := s.screens[c].seq
  let e := s.currentEntry c
  if target < r.segBase then (s.modSeqr fun q => { q with loopTargetBelow := bump16 q.loopTargetBelow }, .next)
  else if count = 0 then
    if r.goPending then (s.modSeq c fun r => { r with goPending := false }, .next)
    else (s, .jump (target - r.segBase))
  else
    let left := (s.seqr.loopCounters[e]).getD count
    if left = 0 then (s, .next)
    else
      (s.modSeqr fun q => { q with loopCounters := q.loopCounters.set e (some (left - 1)) },
        .jump (target - r.segBase))

/-- R58 step 1: the current cue's action taken (R59 to R62). A stored cue holds only codes its write checked (R52). -/
def State.act (s : State) (c : ScreenId) : State × Flow :=
  let cue := s.currentCue c
  match cue.action with
  | .segment =>
    match showStateOf cue.args[0].toNat with
    | some st => (s.changeShow c st, .next)
    | none => (s, .next)
  | .proj => (s.sendProj c cue.args[0].toNat cue.args[1].toNat, .next)
  | .announce =>
    match fromZero 64 cue.args[0].toNat, annModeOf cue.args[3].toNat with
    | some phrase, some mode => (s.announce (s.cueRequest c cue phrase mode), .next)
    | _, _ => (s, .next)
  | .level =>
    (s.modOutputConfig (outputOf c) fun o => { o with gainTarget := cue.args[0].toNat + 256 * cue.args[1].toNat },
      .next)
  | .admission =>
    match admissionOf cue.args[0].toNat with
    | some a => (s.admitAction c a, .next)
    | none => (s, .next)
  | .orders =>
    match orderingOf cue.args[0].toNat with
    | some o => (s.ordersAction c o, .next)
    | none => (s, .next)
  | .loop => s.loopAction c cue.args[0].toNat cue.args[1].toNat
  | .endShow => (s.toIdle c s.screens[c].seq.cueIndex, .ended)

/-- R55, R57: what firing takes with it before the action: the pending GO it consumes, and the count of a late cue
(log 18). A GO so used up is no longer there for the action, so a LOOP(0) fired by it jumps (DEDUCED, log 45). -/
def State.beforeFiring (s : State) (c : ScreenId) (t : CueTest) : State :=
  let s1 := if t = .firesOnPending then s.modSeq c fun r => { r with goPending := false } else s
  if (s.currentCue c).trigger = .clock ∧ (s.currentCue c).time < s.screens[c].seq.clock then
    s1.modSeqr fun q => { q with lateCues := bump16 q.lateCues }
  else s1

/-- R58 step 3. -/
def State.moveOn (s : State) (c : ScreenId) (f : Flow) : State :=
  let r := s.screens[c].seq
  match f with
  | .ended => s
  | .jump index => s.modSeq c fun r => { r with cueIndex := index, resting := true }
  | .next =>
    if r.segLimit ≤ r.cueIndex + 1 then s.toIdle c (r.segLimit - 1)
    else s.modSeq c fun r => { r with cueIndex := r.cueIndex + 1 }

/-- R58 step 4: rehearsal holds after a firing. -/
def State.stepHold (s : State) (c : ScreenId) : State :=
  if s.screens[c].seq.state = .running ∧ s.screens[c].seq.rehearsal then
    s.modSeq c fun r => { r with state := .held, holdReason := some .step }
  else s

/-- R58: the current cue fires: its action, the after reference, the move and the rehearsal step. -/
def State.fire (s : State) (c : ScreenId) (t : CueTest) : State :=
  let acted := (s.beforeFiring c t).act c
  let noted := acted.1.modSeq c fun r => { r with afterRef := r.clock }
  (noted.moveOn c acted.2).stepHold c

/-- The current cue may be tested (R55): the sequencer is RUNNING and the cue does not rest. -/
def State.testable (s : State) (c : ScreenId) : Bool :=
  decide (s.screens[c].seq.state = .running) && !s.screens[c].seq.resting

/-- R55, R58: the current cue is tested, and a run goes on while cues fire; `fuel` bounds the firings. -/
def State.runCues (c : ScreenId) : Nat → Bool → State → State
  | 0, _, s => s
  | fuel + 1, byGo, s =>
    if s.testable c then
      match s.testCue c byGo with
      | .waits => s
      | t => State.runCues c fuel false (s.fire c t)
    else s

/-- A run fires at most as many cues as the pool has entries (R58). -/
def runFuel : Nat := 257

/-- R55: the current cue is tested on an event of its screen. -/
def State.test (s : State) (c : ScreenId) : State := State.runCues c runFuel false s

/-! ## The operator's commands (R54, R63 to R66) -/

/-- R54: the loop counters of a screen's segment become UNLOADED. -/
def State.unloadSegment (s : State) (c : ScreenId) : State :=
  let r := s.screens[c].seq
  s.modSeqr fun q =>
    { q with
      loopCounters := Vector.ofFn fun i : Fin 256 =>
        if r.segBase ≤ i.val ∧ i.val < r.segBase + r.segLimit then none else q.loopCounters[i] }

/-- R54: what START sets. -/
def ShowRecord.started (r : ShowRecord) : ShowRecord :=
  { r with
    state := .running, cueIndex := 0, clock := 0, afterRef := 0, frameCount := 0, goPending := false
    rehearsal := false, resting := false, pausedByHold := false, holdReason := none }

/-- R54: START for a screen. -/
def State.doStart (s : State) (c : ScreenId) : State × Reply :=
  if s.screens[c].config.enabled ∧ s.screens[c].seq.state = .idle then
    let s1 := (s.modSeq c ShowRecord.started).unloadSegment c
    if s.screens[c].seq.segLimit = 0 then (s1.toIdle c 0, .done) else (s1.test c, .done)
  else (s, .state)

/-- R70: a GO that resumes a show paused by a failure hold sends PLAY, with argument 0 (DESIGN CHOICE, log 44). -/
def State.resumePlay (s : State) (c : ScreenId) : State :=
  if s.screens[c].seq.pausedByHold then
    (s.sendProj c projPlay 0).modSeq c fun r => { r with pausedByHold := false }
  else s

/-- R63: GO for a screen. A GO that fires a GO or DUSK cue is used up by the trigger; if that cue's action is LOOP(0) the
loop jumps, and only a GO that waits when the LOOP is judged ends it (DEDUCED, log 45). -/
def State.doGo (s : State) (c : ScreenId) : State × Reply :=
  match s.screens[c].seq.state with
  | .idle => (s, .state)
  | .held =>
    let resumed :=
      (s.modSeq c fun r => { r with state := .running, holdReason := none }).resumePlay c
    ((resumed.modSeq c fun r => { r with resting := false }).test c, .done)
  | .running =>
    if (s.currentCue c).trigger = .go ∧ !s.screens[c].seq.resting then (State.runCues c runFuel true s, .done)
    else ((s.modSeq c fun r => { r with goPending := true }).test c, .done)

/-- R64: HOLD for a screen. -/
def State.doHold (s : State) (c : ScreenId) : State × Reply :=
  match s.screens[c].seq.state with
  | .idle => (s, .state)
  | .held => (s, .done)
  | .running => (s.modSeq c fun r => { r with state := .held, holdReason := some .operator }, .done)

/-- R65: ABORT for a screen; its STOP has argument 0 (DESIGN CHOICE, log 44). -/
def State.doAbort (s : State) (c : ScreenId) : State × Reply :=
  if s.screens[c].seq.state = .idle then (s, .state)
  else ((s.toIdle c s.screens[c].seq.cueIndex).sendProj c projStop 0, .done)

/-- R64: REHEARSE for a screen. -/
def State.doRehearse (s : State) (c : ScreenId) (on : Bool) : State × Reply :=
  if s.screens[c].seq.state = .idle then (s, .state) else (s.modSeq c fun r => { r with rehearsal := on }, .done)

/-- R66: the command a panel key stands for. -/
def keyCommand (key : Nat) : Option (State → ScreenId → State × Reply) :=
  match key with
  | 1 => some State.doStart
  | 2 => some State.doGo
  | 3 => some State.doHold
  | 4 => some State.doAbort
  | _ => none

/-- R66: a PANEL_KEY taken. -/
def State.takePanelKey (s : State) (source screen key : Byte) : State :=
  let ignored := s.modSeqr fun q => { q with ignoredKeys := bump16 q.ignoredKeys }
  match fromOne 4 screen.toNat, keyCommand key.toNat with
  | some c, some command =>
    if s.screens[c].config.panel ≠ 0 ∧ s.screens[c].config.panel = source.toNat then
      match command s c with
      | (acted, .done) => acted
      | (refused, _) => refused.modSeqr fun q => { q with refusedKeys := bump16 q.refusedKeys }
    else ignored
  | _, _ => ignored

/-! ## Clocks and the sky (R55, R56, R67) -/

/-- R67: the show clock gains 1 and the current cue is tested; a clock at its end gains no more. -/
def State.advanceClock (s : State) (c : ScreenId) : State :=
  if s.screens[c].seq.clock < clockMax then
    (s.modSeq c fun r => { r with clock := r.clock + 1 }).test c
  else s

/-- R67: a 10 ms tick for a RUNNING TIMEBASE screen. -/
def State.timebaseClock (s : State) (c : ScreenId) : State :=
  if s.screens[c].seq.state = .running ∧ s.screens[c].config.clockSource = .timebase then s.advanceClock c else s

/-- R67: the frame count of a RUNNING PROGRAMME screen on a LOCKED input has reached 480. -/
def State.programmeClock (s : State) (c : ScreenId) : State :=
  if s.screens[c].seq.state = .running ∧ s.screens[c].config.clockSource = .programme ∧ s.screens[c].sound.locked then
    (s.modSeq c fun r => { r with frameCount := 0 }).advanceClock c
  else s

/-- R67: a frame received on a LOCKED input counts toward the PROGRAMME clock of a RUNNING screen. -/
def State.countFrame (s : State) (c : ScreenId) : State :=
  if s.screens[c].seq.state = .running ∧ s.screens[c].config.clockSource = .programme then
    if s.screens[c].seq.frameCount + 1 < 480 then
      s.modSeq c fun r => { r with frameCount := r.frameCount + 1 }
    else s.programmeClock c
  else s

/-- R55: the 10 ms tick that ends a rest tests the cue once; a HELD screen's rest ends untested. -/
def State.endRest (s : State) (c : ScreenId) : State :=
  if s.screens[c].seq.resting then (s.modSeq c fun r => { r with resting := false }).test c else s

/-- R55, R67: what one 10 ms tick does for a screen: its clock, then the end of a rest that stood before the tick. -/
def State.tenMsTick (s : State) (c : ScreenId) : State :=
  if s.screens[c].seq.resting then (s.timebaseClock c).endRest c else s.timebaseClock c

/-- R56: a SKY_REPORT taken; the screens test their cues by rising number (DESIGN CHOICE, log 51). -/
def State.takeSkyReport (s : State) (lux : Half) : State :=
  allScreens.foldl State.test (s.modSeqr fun q => { q with lux := some lux.toNat, skyTimer := some 60 })

/-- R56: the sky age timer runs out. -/
def State.skyExpires (s : State) : State :=
  match s.seqr.skyTimer with
  | none => s
  | some _ => s.modSeqr fun q => { q with lux := none, skyTimer := none }

/-! ## Failures during a show (R69) -/

/-- R69: a failure report that holds a RUNNING show, and for sound and transmitter pauses its projector. The PAUSE has
argument 0 (DESIGN CHOICE, log 44). -/
def State.failureHold (s : State) (c : ScreenId) (reason : HoldReason) : State :=
  if s.screens[c].config.holdOnFailure ∧ s.screens[c].seq.state = .running
      ∧ (reason = .soundLost → s.screens[c].config.clockSource = .programme) then
    let held := s.modSeq c fun r => { r with state := .held, holdReason := some reason }
    if reason = .projFault then held
    else if s.screens[c].config.projector = 0 then held.sendProj c projPause 0
    else (held.sendProj c projPause 0).modSeq c fun r => { r with pausedByHold := true }
  else s

/-- R69: a PROJ_STATE report for one screen. -/
def State.projReport (source : Nat) (p : ProjState) (s : State) (c : ScreenId) : State :=
  if s.screens[c].config.projector ≠ 0 ∧ s.screens[c].config.projector = source then
    let told := s.modSeq c fun r => { r with projState := p }
    if p = .fault ∧ s.screens[c].seq.projState ≠ .fault then told.failureHold c .projFault else told
  else s

/-- R69: a PROJ_STATE taken. -/
def State.takeProjState (s : State) (source state : Byte) : State :=
  let unmatched := s.modSeqr fun q => { q with unmatchedProj := bump16 q.unmatchedProj }
  match projReportOf state.toNat with
  | none => unmatched
  | some p =>
    if allScreens.any fun c =>
        decide (s.screens[c].config.projector ≠ 0) && decide (s.screens[c].config.projector = source.toNat) then
      allScreens.foldl (State.projReport source.toNat p) s
    else unmatched

end Sys2Proof.Machine
end

