-- ==== Sys2Proof/Machine/Sound.lean ====
section
/-! DEFINITION. The Sound Path (05): input lock, delay lines, gain, ducking, the mixer, the level monitor and the
transmitter watch. -/

namespace Sys2Proof.Machine

/-! ## Input lock (R72, R73) -/

/-- R72, R73: an input leaves LOCKED; an input that is UNLOCKED stays as it is. -/
def State.unlock (s : State) (c : ScreenId) : State :=
  if s.screens[c].sound.locked then
    (s.modScreenSound c fun v => { v with locked := false }).modInput c fun i =>
      { i with lostDelay := some 2, lockLosses := bump16 i.lockLosses }
  else s

/-- R72, R73: an UNLOCKED input enters LOCKED. -/
def State.relock (s : State) (c : ScreenId) : State :=
  let locked :=
    (s.modScreenSound c fun v => { v with locked := true, lost := false }).modInput c fun i =>
      { i with lostDelay := none }
  if s.screens[c].sound.lost then locked.raise .soundBack (numberOf c) 0 (some c) else locked

/-- R72: a miss declared. -/
def State.missFrame (s : State) (c : ScreenId) : State :=
  (s.modInput c fun i => { i with run := 0, fresh := true }).unlock c

/-- R72: a malformed frame. -/
def State.malformedFrame (s : State) (c : ScreenId) : State :=
  (s.modInput c fun i => { i with run := 0, malformed := bump16 i.malformed }).unlock c

/-- R72: the first frame of a run counts neither good nor bad. -/
def State.firstFrame (s : State) (c : ScreenId) : State :=
  s.modInput c fun i => { i with run := 0, fresh := false }

/-- R67, R72, R76: a good frame: the run, the lock, the delay line and the PROGRAMME clock (log 26). -/
def State.goodFrame (s : State) (c : ScreenId) (f : Frame) : State :=
  let run := min (s.sound.inputs[c].run + 1) 48
  let counted := s.modInput c fun i => { i with run := run }
  if s.screens[c].sound.locked then (counted.modLine c fun l => l.put f).countFrame c
  else if run = 48 then (counted.relock c).modLine c fun l => l.put f
  else counted

/-- R72: a frame judged; times in nanoseconds. A start later than 21.1 µs comes after a miss (log 27). -/
def State.takeFrame (s : State) (c : ScreenId) (leftClocks rightClocks gapNs : Nat) (f : Frame) : State :=
  if s.sound.inputs[c].fresh then s.firstFrame c
  else if 21100 < gapNs then (s.missFrame c).firstFrame c
  else if leftClocks ≠ 32 ∨ rightClocks ≠ 32 ∨ gapNs < 20600 then s.malformedFrame c
  else s.goodFrame c f

/-- R73: the sound-lost delay runs out. -/
def State.lostDelayExpires (s : State) (c : ScreenId) : State :=
  match s.sound.inputs[c].lostDelay with
  | none => s
  | some _ =>
    let lost :=
      (s.modInput c fun i => { i with lostDelay := none }).modScreenSound c fun v => { v with lost := true }
    (lost.raise .soundLost (numberOf c) s.sound.inputs[c].lockLosses (some c)).failureHold c .soundLost

/-! ## Gain, ducking and delay (R76 to R79) -/

/-- R78, R79: a value moves toward its target by `step`, a smaller distance being closed exactly. -/
def stepToward (value target step : Nat) : Nat :=
  if value ≤ target then min (value + step) target else max (value - step) target

/-- R79: the duck target of an output. -/
def State.duckTarget (s : State) (o : OutputId) : Nat :=
  match s.ann.queues[o].playing with
  | none => 4096
  | some e =>
    match e.mode with
    | .over => s.sound.config[o].duckLevel
    | .replace => 0

/-- R78, R79: the gain and duck of an output at the start of a period. -/
def State.movedGains (s : State) (o : OutputId) : OutputState :=
  let v := s.sound.outputs[o]
  { v with
    gain := stepToward v.gain s.sound.config[o].gainTarget 16
    duck := stepToward v.duck (s.duckTarget o) s.sound.config[o].duckRate }

/-- R77: how far the read position moves at a period in which the slew phase wraps. -/
def DelayLine.slewMove (l : DelayLine) (target : Nat) : Nat :=
  if l.delay < target then 0 else if target < l.delay then 2 else 1

/-- R77: a delay line at a period in which the slew phase wraps. -/
def DelayLine.slew (l : DelayLine) (target : Nat) : DelayLine := { l.advance (l.slewMove target) with phase := 0 }

/-- R76, R77: a delay line's zero frame and its read move of one period. A line that is full moves first, any other has
its frame first, so that the two together leave a delay of 0 and one of 9,599 as they leave any (log 7). -/
def DelayLine.fillAndMove (l : DelayLine) (n : Nat) : DelayLine :=
  if l.delay + 1 < lineSize then (l.put zeroFrame).advance n else (l.advance n).put zeroFrame

/-- R76, R77: one output period of a delay line; the comparison of a slew takes the line as it stands before it. -/
def State.movedLine (s : State) (c : ScreenId) : DelayLine :=
  let l := s.sound.lines[c]
  let move := if l.phase < 63 then 1 else l.slewMove s.sound.config[outputOf c].delayTarget
  let moved := if s.screens[c].sound.locked then l.advance move else l.fillAndMove move
  { moved with phase := if l.phase < 63 then l.phase + 1 else 0 }

/-! ## The mixer (R80 to R83) -/

/-- R80: the programme term of one channel. -/
def programmeTerm (p : Int) (gain duck : Nat) : Int := (p * gain * duck + 2 ^ 23) / 2 ^ 24

/-- R80: the announcement term. -/
def announceTerm (a : Int) (gain : Nat) : Int := (a * 256 * gain + 2 ^ 11) / 2 ^ 12

/-- R80, R83: the delayed programme frame an output mixes. -/
def State.programmeFrameOf (s : State) (o : OutputId) : Frame :=
  match screenOf o with
  | some c => s.sound.lines[c].current
  | none =>
    match s.sound.config[o].paSource with
    | some c => s.sound.lines[c].current
    | none => zeroFrame

/-- R80: the announcement sample of an output. -/
def State.announceSample (s : State) (o : OutputId) : Int :=
  match s.ann.queues[o].playing with
  | some e => s.ann.sampleOf e
  | none => 0

/-- R81: y of one channel. -/
def State.mix (s : State) (o : OutputId) (p : Int) : Int :=
  programmeTerm p s.sound.outputs[o].gain s.sound.outputs[o].duck
    + announceTerm (s.announceSample o) s.sound.config[o].annGain

/-- R81: a value held within a ceiling. -/
def holdWithin (ceiling : Nat) (y : Int) : Int := max (-(ceiling : Int)) (min (ceiling : Int) y)

/-- R81: how many of a frame's two values were clamped. -/
def clampsOf (ceiling : Nat) (l r : Int) : Nat :=
  (if holdWithin ceiling l = l then 0 else 1) + (if holdWithin ceiling r = r then 0 else 1)

/-- What an output delivers in a period, and how many values the ceiling held. -/
structure Delivered where
  left : Int
  right : Int
  clamps : Nat
  deriving DecidableEq, Repr

/-- R81: a frame held within an output's ceiling. -/
def deliverWithin (ceiling : Nat) (l r : Int) : Delivered :=
  ⟨holdWithin ceiling l, holdWithin ceiling r, clampsOf ceiling l r⟩

/-- R81: an output's own mix, held within its ceiling. -/
def State.mixed (s : State) (o : OutputId) : Delivered :=
  deliverWithin s.sound.config[o].ceiling (s.mix o (s.programmeFrameOf o).left.toInt)
    (s.mix o (s.programmeFrameOf o).right.toInt)

/-- R81: zero samples, not compared with the ceiling. -/
def silence : Delivered := ⟨0, 0, 0⟩

/-- R81 to R83: what an output delivers in a period. -/
def State.delivers (s : State) (o : OutputId) : Delivered :=
  match screenOf o with
  | none => s.mixed o
  | some c =>
    if s.screens[c].sound.cut then silence
    else if s.screens[c].seq.shown = .dark then
      match s.sound.config[o].darkRemap with
      | .mute => silence
      | .pa => deliverWithin s.sound.config[o].ceiling (s.mixed paOutput).left (s.mixed paOutput).right
      | .programme => s.mixed o
    else s.mixed o

/-- R84: the output's present block is not to be judged on account of this period. -/
def State.voidsBlock (s : State) (o : OutputId) : Bool :=
  match screenOf o with
  | none => false
  | some c =>
    s.screens[c].sound.cut ||
      (decide (s.screens[c].seq.shown = .dark) && decide (s.sound.config[o].darkRemap = .mute))

/-- R81, R84: an output after its period: the frame delivered, its clamps and its block. -/
def State.afterPeriod (s : State) (o : OutputId) : OutputState :=
  let v := s.sound.outputs[o]
  let d := s.delivers o
  { v with
    left := d.left
    right := d.right
    clamps := min (v.clamps + d.clamps) 65535
    clipped := v.clipped || decide (0 < d.clamps)
    blockPos := v.blockPos + 1
    peak := max v.peak (max d.left.natAbs d.right.natAbs)
    blockVoid := v.blockVoid || s.voidsBlock o }

/-! ## The level monitor (R84) -/

/-- R84: an output's block ends. -/
def State.endBlock (s : State) (o : OutputId) : State :=
  let v := s.sound.outputs[o]
  let next : OutputState := { v with blockPos := 0, peak := 0, blockVoid := false }
  if v.blockVoid then s.modOutput o fun _ => next
  else if v.peak < s.sound.config[o].silenceThreshold then
    let run := min (v.silentRun + 1) 6000
    if s.sound.config[o].deadAirBlocks ≤ v.silentRun + 1 ∧ !v.deadAir then
      (s.modOutput o fun _ => { next with silentRun := run, deadAir := true }).raise .deadAir (numberOf o) run
        (screenOf o)
    else s.modOutput o fun _ => { next with silentRun := run }
  else s.modOutput o fun _ => { next with silentRun := 0, deadAir := false }

/-! ## One sample period (R81, log 7) -/

/-- R104: what falls due on an output's queue at the start of a period: an end, with the next start in the same
period, or a start. -/
def State.queuePeriod (s : State) (o : OutputId) : State :=
  match s.ann.queues[o].playing with
  | some e => if e.fed then s.endEntry o else s
  | none => s.startEntry o

/-- R104: the announcement feeds advance by one sample. -/
def Composer.advanceFeeds (a : Composer) : Composer :=
  { a with
    queues := Vector.ofFn fun o : Fin 5 => { a.queues[o] with playing := a.queues[o].playing.map a.advanceEntry } }

/-- R84: a block of 480 periods ends. -/
def State.blockPeriod (s : State) (o : OutputId) : State :=
  if 480 ≤ s.sound.outputs[o].blockPos then s.endBlock o else s

/-- R76 to R79: gains, ducks and delay lines move at the start of a period. -/
def State.movePeriod (s : State) : State :=
  s.modSound fun p => { p with outputs := Vector.ofFn s.movedGains, lines := Vector.ofFn s.movedLine }

/-- R80, R81: every output delivers its frame. -/
def State.deliverPeriod (s : State) : State := s.modSound fun p => { p with outputs := Vector.ofFn s.afterPeriod }

/-- R72 to R84: one output frame period. The outputs' entries end and start by rising output, each one's release and
held-call moves before the next one's, and so do their level blocks, with their DEAD_AIR events (DESIGN CHOICE, log
52). -/
def State.samplePeriod (s : State) : State :=
  let started := allOutputs.foldl State.queuePeriod s
  let delivered := started.movePeriod.deliverPeriod
  allOutputs.foldl State.blockPeriod (delivered.modAnn Composer.advanceFeeds)

/-! ## Transmitters (R85 to R89) -/

/-- R89: a TX_CMD that was not taken. -/
def State.txUnanswered (s : State) (c : ScreenId) : State :=
  s.modTransmitter c fun t => { t with unanswered := bump16 t.unanswered }

/-- R89: a TX_CMD sent to an output's transmitter, or skipped when it has none. -/
def State.sendTx (s : State) (c : ScreenId) (command : Nat) : State :=
  let station := s.sound.config[outputOf c].txStation
  if station = 0 then s.modSound fun p => { p with skippedTx := bump16 p.skippedTx }
  else
    match s.handUrgent { kind := .txCmd, dest := station, payload := le8 command, ref := .output c } with
    | (sent, .queued) => sent
    | (sent, .dropped) => sent.txUnanswered c

/-- R88: the transmitter silence timer loaded for an output, or cancelled when it has no limit or no transmitter. -/
def State.loadSilence (s : State) (c : ScreenId) : State :=
  let g := s.sound.config[outputOf c]
  s.modTransmitter c fun t =>
    { t with silenceTimer := if g.txStation = 0 then none else loadLimit g.txSilenceLimit }

/-- R86: an output that is not cut is cut. -/
def State.cutOutput (s : State) (c : ScreenId) : State :=
  let cut := (s.modScreenSound c fun v => { v with cut := true }).sendTx c carrierOff
  let raised := cut.raise .txCut (numberOf c) cut.sound.transmitters[c].sticky.toNat (some c)
  (raised.failureHold c .txCut).stopQueue c

/-- R85: a TX_STATUS report for one output. -/
def State.txReport (source : Nat) (carrier : Carrier) (flags : BitVec 3) (s : State) (c : ScreenId) : State :=
  let g := s.sound.config[outputOf c]
  if g.txStation ≠ 0 ∧ g.txStation = source then
    let told :=
      (s.modTransmitter c fun t => { t with carrier := carrier, sticky := t.sticky ||| flags }).loadSilence c
    if flags &&& g.autocut ≠ 0 ∧ !s.screens[c].sound.cut then told.cutOutput c else told
  else s

/-- R85: a TX_STATUS taken. Bits 3 to 7 of the flags, which no field names, are ignored, and outputs that share the station
are taken by rising number (DESIGN CHOICE, log 46). -/
def State.takeTxStatus (s : State) (source carrier flags : Byte) : State :=
  let unmatched := s.modSound fun p => { p with unmatchedTx := bump16 p.unmatchedTx }
  match carrierReportOf carrier.toNat with
  | none => unmatched
  | some state =>
    if allScreens.any fun c =>
        decide (s.sound.config[outputOf c].txStation ≠ 0) &&
          decide (s.sound.config[outputOf c].txStation = source.toNat) then
      allScreens.foldl (State.txReport source.toNat state (flags.truncate 3)) s
    else unmatched

/-- R87: CLEAR_FAULT for an output. -/
def State.clearFault (s : State) (c : ScreenId) : State :=
  let emptied := s.modTransmitter c fun t => { t with sticky := 0 }
  if s.screens[c].sound.cut then
    (emptied.modScreenSound c fun v => { v with cut := false }).sendTx c carrierOn
  else emptied

/-- R88: an output's transmitter silence timer runs out. -/
def State.txSilent (s : State) (c : ScreenId) : State :=
  match s.sound.transmitters[c].silenceTimer with
  | none => s
  | some _ =>
    (s.modTransmitter c fun t => { t with silenceTimer := none }).raise .txSilent (numberOf c)
      s.sound.config[outputOf c].txStation (some c)

/-! ## Warm restart (R91) -/

/-- R76: a delay line at a warm restart. -/
def DelayLine.restart (l : DelayLine) (target : Nat) : DelayLine :=
  { l with frames := [], read := (l.write + lineSize - target % lineSize) % lineSize }

/-- R91: the Sound Path at a warm restart. -/
def SoundPath.restart (p : SoundPath) : SoundPath :=
  { p with
    lines := Vector.ofFn fun c : Fin 4 => p.lines[c].restart p.config[outputOf c].delayTarget
    outputs := Vector.ofFn fun o : Fin 5 => { p.outputs[o] with duck := 4096 } }

end Sys2Proof.Machine
end

