-- ==== Sys2Proof/Machine/Restart.lean ====
section
/-! DEFINITION. The warm restart of the whole part (R161) and the clearing of the counters (R160). -/

namespace Sys2Proof.Machine

/-! ## Warm restart (R161; one step, log 35) -/

/-- R48: the transmit queue and the return tracker are emptied, with nobody told. -/
def CellProcessor.restart (c : CellProcessor) : CellProcessor := { c with urgent := [], normal := [], tracker := [] }

/-- R3, R50: a RUNNING sequencer is HELD for RESTART. -/
def ShowRecord.restart (r : ShowRecord) : ShowRecord :=
  if r.state = .running then { r with state := .held, holdReason := some .restart } else r

/-- R113, R129: the running timers of the lanes are reloaded. -/
def GateCounter.restart (g : GateCounter) : GateCounter := { g with lanes := g.lanes.map Lane.reloadTimers }

/-- R161: the point at which a warm restart takes effect; the Composer's part stands in `State.emptyQueues`. -/
def State.warmRestart (s : State) : State :=
  let blocks : State :=
    { s with
      cell := s.cell.restart
      screens := s.screens.map fun c => { c with seq := c.seq.restart }
      sound := s.sound.restart
      gate := s.gate.restart
      mgmt := { s.mgmt with restart := false } }
  blocks.emptyQueues

/-! ## Clearing the counters (R160) -/

/-- The per-port counters of Table 2-5. -/
def Port.clearCounters (p : Port) : Port := { p with lineErrors := 0, linkDowns := 0 }

/-- Table 2-5. -/
def LoopPorts.clearCounters (l : LoopPorts) : LoopPorts :=
  { l with
    portA := l.portA.clearCounters
    portB := l.portB.clearCounters
    damagedUpstream := 0, discardedDown := 0, orphans := 0, stripped := 0, malformed := 0, unconsumed := 0 }

/-- Table 3-3. -/
def CellProcessor.clearCounters (c : CellProcessor) : CellProcessor :=
  { c with
    taps := c.taps.map fun t => { t with drops := 0 }
    forwardDiscarded := 0, ownDiscarded := 0
    queueDrops := Vector.replicate 9 0
    trackerFull := 0, delivered := 0, unaccepted := 0, lost := 0, lateReturns := 0, acceptorMismatch := 0 }

/-- The per-screen counters of Table 7-2. -/
def FieldCounts.clearCounters (f : FieldCounts) : FieldCounts := { f with tailgates := 0, underflows := 0, expiries := 0 }

/-- Table 4-3. -/
def Sequencer.clearCounters (q : Sequencer) : Sequencer :=
  { q with
    lateCues := 0, withheld := 0, loopTargetBelow := 0, skippedProj := 0, refusedKeys := 0, ignoredKeys := 0
    unmatchedProj := 0 }

/-- Table 5-2. -/
def SoundPath.clearCounters (p : SoundPath) : SoundPath :=
  { p with
    outputs := p.outputs.map fun o => { o with clamps := 0 }
    inputs := p.inputs.map fun i => { i with lockLosses := 0, malformed := 0 }
    transmitters := p.transmitters.map fun t => { t with unanswered := 0 }
    unmatchedTx := 0, skippedTx := 0 }

/-- Table 6-3. -/
def Composer.clearCounters (a : Composer) : Composer :=
  { a with
    skippedItems := 0, emptyRenders := 0
    discards := Vector.replicate 5 0
    preemptions := Vector.replicate 5 0
    suppressed := Vector.replicate 5 0 }

/-- The site counters of Table 7-2. -/
def GateCounter.clearCounters (g : GateCounter) : GateCounter :=
  { g with strayBackouts := 0, strayPassages := 0, unmatchedPassages := 0 }

/-- Table 8-5. -/
def Router.clearCounters (r : Router) : Router :=
  { r with
    placed := 0, refused := 0, repeated := 0, replyDropped := 0, ticketFailures := 0, staleOutcomes := 0
    unmatchedBumps := 0, strayBumps := 0, ignoredPickups := 0, strayPickups := 0, boardDropped := 0
    unansweredVoids := 0, abandoned := 0 }

/-- R159. -/
def Management.clearCounters (m : Management) : Management :=
  { m with taken := 0, notConsole := 0, refusals := 0, notices := 0 }

/-- R160: every statistics counter to 0; no flag, latch or window count. -/
def State.clearCounters (s : State) : State :=
  { s with
    loop := s.loop.clearCounters
    cell := s.cell.clearCounters
    screens := s.screens.map fun c => { c with field := c.field.clearCounters }
    seqr := s.seqr.clearCounters
    sound := s.sound.clearCounters
    ann := s.ann.clearCounters
    gate := s.gate.clearCounters
    router := s.router.clearCounters
    mgmt := s.mgmt.clearCounters }

end Sys2Proof.Machine
end

