-- ==== Sys2Proof/Machine/Tables.lean ====
section
/-! DEFINITION. The writable management tables (Table 9-3): what each write checks, in its rule's order, and what a write
that passes does. Entry layouts are those of 09 section 9.7. -/

namespace Sys2Proof.Machine

/-- The owner's answer to a write: the state and the reply code. A refusal changes nothing. -/
abbrev Written : Type := State × Reply

/-! ## SITE (R153) -/

/-- A station number 0..120. -/
def stationOf (n : Nat) : Option Nat := if n ≤ 120 then some n else none

/-- R153: a SITE entry checked and clamped. -/
def siteOf (e : List Byte) : Option Site := do
  let console ← if byteAt e 0 = 0 then none else stationOf (byteAt e 0)
  let board ← stationOf (byteAt e 1)
  let counter ← stationOf (byteAt e 2)
  let walkUp ← flagOf (byteAt e 3)
  let paCall ← flagOf (byteAt e 4)
  let callPhrase ← fromZero 64 (byteAt e 5)
  return {
    console := console, board := board, counter := counter, walkUp := walkUp, paCall := paCall, callPhrase := callPhrase
    maxCalls := clampTo 1 5 (byteAt e 6)
    recallInterval := clampTo 1 15 (byteAt e 7)
    dusk := halfAt e 8
    errorLimit := clampTo 1 255 (byteAt e 10) }

/-- R153. -/
def State.writeSite (s : State) (index : Nat) (e : List Byte) : Written :=
  if index ≠ 0 then (s, .unknown)
  else
    match siteOf e with
    | none => (s, .range)
    | some v => (s.modMgmt fun m => { m with site := v }, .done)

/-! ## SCREEN (R4 to R6) -/

/-- R4: the marks are in order, or both 0. -/
def marksFit (high low : Nat) : Bool := decide (low < high) || (decide (high = 0) && decide (low = 0))

/-- R4: a SCREEN entry checked and clamped. -/
def screenConfigOf (e : List Byte) : Option ScreenConfig := do
  let enabled ← flagOf (byteAt e 0)
  let holdOnFailure ← flagOf (byteAt e 1)
  let clockSource ← clockSourceOf (byteAt e 2)
  let projector ← stationOf (byteAt e 3)
  let panel ← stationOf (byteAt e 4)
  let callPolicy ← callPolicyOf (byteAt e 15)
  let high := clampTo 0 2000 (halfAt e 11)
  let low := clampTo 0 2000 (halfAt e 13)
  if marksFit high low then
    return {
      enabled := enabled, clockSource := clockSource, projector := projector, holdOnFailure := holdOnFailure
      panel := panel
      capacity := clampTo 0 2000 (halfAt e 5)
      reserved := clampTo 0 2000 (halfAt e 7)
      tallQuota := clampTo 0 500 (halfAt e 9)
      high := high, low := low, callPolicy := callPolicy }
  else none

/-- R5: a show that is not IDLE keeps these three fields. -/
def ScreenConfig.sameShow (g h : ScreenConfig) : Bool :=
  decide (g.enabled = h.enabled) && decide (g.clockSource = h.clockSource) && decide (g.projector = h.projector)

/-- R125, R6: what a SCREEN write does to the near-full flag. -/
def State.rejudgeNear (s : State) (c : ScreenId) (old new : ScreenConfig) : State :=
  if !new.windowOn then s.modField c fun f => { f with nearFull := false }
  else if old.high = new.high ∧ old.low = new.low then s
  else s.judgeNearFull c

/-- R124, R6: what a SCREEN write does to the full flag (log 20). -/
def State.rejudgeFull (s : State) (c : ScreenId) (old new : ScreenConfig) : State :=
  if old.capacity = new.capacity ∧ old.reserved = new.reserved then s else s.judgeFull c

/-- R6, R108: a SCREEN write takes effect. The field flags are judged first, near-full before full, with their events and
announcements, and the held calls of a policy that turns to CALL_ANYTIME move last (DESIGN CHOICE, log 43). -/
def State.applyScreen (s : State) (c : ScreenId) (new : ScreenConfig) : State :=
  let old := s.screens[c].config
  let judged :=
    ((s.modScreen c fun v => { v with config := new }).rejudgeNear c old new).rejudgeFull c old new
  if old.callPolicy = .holdInFeature ∧ new.callPolicy = .callAnytime then judged.releaseHeld c else judged

/-- R4. -/
def State.writeScreen (s : State) (index : Nat) (e : List Byte) : Written :=
  match fromOne 4 index with
  | none => (s, .unknown)
  | some c =>
    match screenConfigOf e with
    | none => (s, .range)
    | some new =>
      if s.screens[c].seq.state ≠ .idle ∧ !s.screens[c].config.sameShow new then (s, .inUse)
      else (s.applyScreen c new, .done)

/-! ## SEGMENT (R51) -/

/-- Two runs of pool entries or addresses share one; an empty run shares none. -/
def runsMeet (a n b m : Nat) : Bool :=
  decide (0 < n) && decide (0 < m) && decide (a < b + m) && decide (b < a + n)

/-- R51. -/
def State.writeSegment (s : State) (index : Nat) (e : List Byte) : Written :=
  match fromOne 4 index with
  | none => (s, .unknown)
  | some c =>
    let base := byteAt e 0
    let limit := halfAt e 1
    if 256 < base + limit then (s, .range)
    else if s.screens[c].seq.state ≠ .idle then (s, .inUse)
    else if allScreens.any fun d =>
        decide (d ≠ c) && runsMeet base limit s.screens[d].seq.segBase s.screens[d].seq.segLimit then (s, .overlap)
    else (s.modSeq c fun r => { r with segBase := base, segLimit := limit }, .done)

/-! ## CUE (R52, R53) -/

/-- R52 step 2: the arguments an action uses are among the values of Table 4-2. -/
def cueArgsFit (pool : Nat) (a : ActionKind) (e : List Byte) : Bool :=
  match a with
  | .segment => (showStateOf (byteAt e 5)).isSome
  | .proj => decide (1 ≤ byteAt e 5) && decide (byteAt e 5 ≤ 8)
  | .announce =>
    decide (byteAt e 5 ≤ 63) && decide (byteAt e 6 ≠ 0) && decide (byteAt e 6 ≤ 31) && (annModeOf (byteAt e 8)).isSome
      && decide (byteAt e 9 ≤ 2)
  | .level => true
  | .admission => (admissionOf (byteAt e 5)).isSome
  | .orders => (orderingOf (byteAt e 5)).isSome
  | .loop => decide (byteAt e 5 < pool)
  | .endShow => true

/-- R52 step 3: the six argument bytes with the quantities an action uses clamped. -/
def cueArgs (a : ActionKind) (e : List Byte) : Vector Byte 6 :=
  let raw : Vector Byte 6 := Vector.ofFn fun i => e.getD (5 + i.val) 0
  match a with
  | .announce => raw.set 2 (BitVec.ofNat 8 (clampTo 0 3 (byteAt e 7)))
  | .level =>
    let gain := clampTo 0 8191 (halfAt e 5)
    (raw.set 0 (BitVec.ofNat 8 gain)).set 1 (BitVec.ofNat 8 (gain / 256))
  | .segment | .proj | .admission | .orders | .loop | .endShow => raw

/-- R52 steps 2 and 3: a CUE entry checked and clamped, for a pool entry. -/
def cueOf (pool : Nat) (e : List Byte) : Option CueEntry := do
  let trigger ← triggerOf (byteAt e 0)
  let action ← actionOf (byteAt e 4)
  if cueArgsFit pool action e then
    return {
      trigger := trigger, time := triAt e 1, action := action, args := cueArgs action e
      label := BitVec.ofNat 16 (halfAt e 11) }
  else none

/-- R53: a pool entry at or behind the current cue of a screen that is not IDLE. -/
def ShowRecord.protects (r : ShowRecord) (pool : Nat) : Bool :=
  decide (r.state ≠ .idle) && decide (r.segBase ≤ pool) && decide (pool < r.segBase + r.segLimit)
    && decide (pool - r.segBase ≤ r.cueIndex)

/-- R52. -/
def State.writeCue (s : State) (index : Nat) (e : List Byte) : Written :=
  match fromZero 256 index with
  | none => (s, .unknown)
  | some i =>
    match cueOf index e with
    | none => (s, .range)
    | some cue =>
      if allScreens.any fun c => s.screens[c].seq.protects index then (s, .inUse)
      else
        (s.modSeqr fun q => { q with cues := q.cues.set i cue, loopCounters := q.loopCounters.set i none }, .done)

/-! ## OUTPUT (R74, R75) -/

/-- R74: a PA source code, 0 = NONE. -/
def paSourceOf (n : Nat) : Option (Option ScreenId) := if n ≤ 4 then some (fromOne 4 n) else none

/-- R74: an OUTPUT entry checked and clamped. -/
def outputConfigOf (e : List Byte) : Option OutputConfig := do
  let darkRemap ← darkRemapOf (byteAt e 13)
  let paSource ← paSourceOf (byteAt e 14)
  let txStation ← stationOf (byteAt e 15)
  if byteAt e 17 ≤ 7 then
    return {
      gainTarget := clampTo 0 8191 (halfAt e 0)
      annGain := clampTo 0 8191 (halfAt e 2)
      duckLevel := clampTo 0 4096 (halfAt e 4)
      duckRate := clampTo 1 4096 (halfAt e 6)
      ceiling := clampTo 0 8388607 (triAt e 8)
      delayTarget := clampTo 0 9599 (halfAt e 11)
      darkRemap := darkRemap, paSource := paSource, txStation := txStation
      tuneChannel := clampTo 1 255 (byteAt e 16)
      autocut := BitVec.ofNat 3 (byteAt e 17)
      silenceThreshold := clampTo 0 8388607 (triAt e 18)
      deadAirBlocks := clampTo 1 6000 (halfAt e 21)
      txSilenceLimit := clampTo 0 30 (byteAt e 23) }
  else none

/-- R74, R75, R88. -/
def State.writeOutput (s : State) (index : Nat) (e : List Byte) : Written :=
  match fromOne 5 index with
  | none => (s, .unknown)
  | some o =>
    match outputConfigOf e with
    | none => (s, .range)
    | some g =>
      let written := s.modOutputConfig o fun _ => g
      match screenOf o with
      | some c => (written.loadSilence c, .done)
      | none => (written, .done)

/-! ## CLIP (R94) and PHRASE (R99) -/

/-- R94: the region shares an address with a live clip. -/
def Composer.regionMeets (a : Composer) (start length : Nat) : Bool :=
  a.clips.toList.any fun c => decide (c.state ≠ .empty) && runsMeet start length c.start c.length

/-- R94. -/
def State.writeClip (s : State) (index : Nat) (e : List Byte) : Written :=
  match fromZero 64 index with
  | none => (s, .unknown)
  | some id =>
    let start := triAt e 0
    let length := triAt e 3
    if 8388607 < start ∨ length = 0 ∨ 2880000 < length ∨ 8388608 < start + length then (s, .range)
    else if s.ann.clips[id].state ≠ .empty then (s, .inUse)
    else if s.ann.regionMeets start length then (s, .overlap)
    else
      ((s.modClip id fun c => { c with start := start, length := length, state := .clearing }).modAnn fun a =>
          { a with fillOrder := a.fillOrder ++ [id] },
        .done)

/-- R99: one part. -/
def partOf (kind argument : Nat) : Option Part :=
  match kind with
  | 0 => (fromZero 64 argument).map .clip
  | 1 => (fromZero 36 argument).map .number
  | 2 => some (.gap (clampTo 1 2000 argument))
  | _ => none

/-- R99: the parts of an entry, from the offset of the first. -/
def partsOf (e : List Byte) : Nat → Nat → Option (List Part)
  | 0, _ => some []
  | n + 1, off =>
    match partOf (byteAt e off) (halfAt e (off + 1)), partsOf e n (off + 3) with
    | some p, some ps => some (p :: ps)
    | _, _ => none

/-- R99: a PHRASE entry checked and clamped. -/
def phraseOf (e : List Byte) : Option (List Part) :=
  if 8 < byteAt e 0 then none
  else
    match partsOf e (byteAt e 0) 1 with
    | none => none
    | some ps => if 16 < (ps.map Part.worst).sum then none else some ps

/-- R99. -/
def State.writePhrase (s : State) (index : Nat) (e : List Byte) : Written :=
  match fromZero 64 index with
  | none => (s, .unknown)
  | some id =>
    match phraseOf e with
    | none => (s, .range)
    | some ps => (s.modAnn fun a => { a with phrases := a.phrases.set id ps }, .done)

/-! ## EVENT (R110) -/

/-- R110: a phrase code, 255 = NONE. -/
def eventPhraseOf (n : Nat) : Option (Option PhraseId) := if n = 255 then some none else (fromZero 64 n).map some

/-- R110: an EVENT entry checked and clamped. -/
def eventEntryOf (draw : Nat) (e : List Byte) : Option EventEntry := do
  let phrase ← eventPhraseOf (byteAt e 0)
  let mode ← annModeOf (byteAt e 3)
  if byteAt e 1 ≤ 31 then
    return {
      phrase := phrase, mask := BitVec.ofNat 5 (byteAt e 1), priority := clampTo 0 3 (byteAt e 2), mode := mode
      notice := looseFlag draw (e.getD 4 0) }
  else none

/-- R110. -/
def State.writeEvent (s : State) (index : Nat) (e : List Byte) : Written :=
  match fromZero 16 index with
  | none => (s, .unknown)
  | some i =>
    match eventEntryOf s.freeCount e with
    | none => (s, .range)
    | some v => ((s.modAnn fun a => { a with events := a.events.set i v }).draw, .done)

/-! ## LANE (R114) -/

/-- The fields of a LANE write. -/
structure LaneConfig where
  station : Nat
  role : LaneRole
  home : ScreenId
  silenceLimit : Nat
  passTimeout : Nat
  deriving DecidableEq, Repr

/-- R114 step 2, with the quantities clamped. -/
def laneConfigOf (e : List Byte) : Option LaneConfig := do
  let station ← stationOf (byteAt e 0)
  let role ← laneRoleOf (byteAt e 1)
  let home ← fromOne 4 (byteAt e 2)
  return {
    station := station, role := role, home := home
    silenceLimit := clampTo 0 30 (byteAt e 3)
    passTimeout := clampTo 10 120 (byteAt e 4) }

/-- R114: the lane starts afresh. -/
def Lane.configured (n : Lane) (g : LaneConfig) : Lane :=
  { n with
    station := g.station, role := g.role, home := g.home, silenceLimit := g.silenceLimit, passTimeout := g.passTimeout
    state := .unseen, silenceTimer := none }

/-- R114. -/
def State.writeLane (s : State) (index : Nat) (e : List Byte) : Written :=
  match fromOne 8 index with
  | none => (s, .unknown)
  | some l =>
    match laneConfigOf e with
    | none => (s, .range)
    | some g =>
      if g.station ≠ 0 ∧ allLanes.any (fun m => decide (m ≠ l) && decide (s.gate.lanes[m].station = g.station)) then
        (s, .overlap)
      else if s.gate.lanes[l].pending.isSome then (s, .inUse)
      else (s.modLane l fun n => n.configured g, .done)

/-! ## MENU (R130) and STATION (R132) -/

/-- R130: an alternate station code, 0 = none. -/
def alternateOf (n : Nat) : Option (Option KitchenId) := if n ≤ 8 then some (fromOne 8 n) else none

/-- R130: a MENU entry checked and clamped. -/
def menuItemOf (draw : Nat) (e : List Byte) : Option MenuItem := do
  let primary ← fromOne 8 (byteAt e 1)
  let alternate ← alternateOf (byteAt e 2)
  return {
    available := looseFlag draw (e.getD 0 0), primary := primary, alternate := alternate
    portions := if halfAt e 3 = 65535 then none else some (clampTo 0 9999 (halfAt e 3)) }

/-- R130. -/
def State.writeMenu (s : State) (index : Nat) (e : List Byte) : Written :=
  match fromZero 256 index with
  | none => (s, .unknown)
  | some i =>
    match menuItemOf s.freeCount e with
    | none => (s, .range)
    | some m => ((s.modRouter fun r => { r with menu := r.menu.set i m }).draw, .done)

/-- R132: a station as a write leaves it; a new loop station is UNSEEN. -/
def Kitchen.configured (k : Kitchen) (station limit late : Nat) : Kitchen :=
  { k with
    loopStation := station, limit := limit, lateLimit := late
    state := if k.loopStation = station then k.state else .unseen
    failRun := if k.loopStation = station then k.failRun else 0 }

/-- R132. -/
def State.writeStation (s : State) (index : Nat) (e : List Byte) : Written :=
  match fromOne 8 index with
  | none => (s, .unknown)
  | some k =>
    let old := s.router.kitchens[k]
    let station := byteAt e 0
    let limit := clampTo 1 16 (byteAt e 1)
    if 120 < station then (s, .range)
    else if station ≠ 0
        ∧ allKitchens.any (fun j => decide (j ≠ k) && decide (s.router.kitchens[j].loopStation = station)) then
      (s, .overlap)
    else if (station ≠ old.loopStation ∧ 0 < old.sent) ∨ limit < old.sent then (s, .inUse)
    else
      let written := s.modKitchen k fun v => v.configured station limit (clampTo 1 30 (byteAt e 2))
      (if old.limit < limit then written.dispatch k else written, .done)

/-! ## TAP (R34) -/

/-- R34: a TAP entry checked; its drop counter starts at 0 (the unlisted flag codes: log 21, ANY: log 23). -/
def tapEntryOf (draw : Nat) (e : List Byte) : Option TapEntry := do
  let action ← tapActionOf (byteAt e 7)
  let low := byteAt e 3
  let high := byteAt e 4
  let destAny := looseFlag (draw + 2) (e.getD 6 0)
  if 1 ≤ low ∧ low ≤ high ∧ high ≤ 120 ∧ (destAny ∨ byteAt e 5 ≤ 120) then
    return {
      valid := looseFlag draw (e.getD 0 0), kind := byteAt e 1, kindAny := looseFlag (draw + 1) (e.getD 2 0)
      sourceLow := low, sourceHigh := high, dest := byteAt e 5, destAny := destAny, action := action, drops := 0 }
  else none

/-- R34. -/
def State.writeTap (s : State) (index : Nat) (e : List Byte) : Written :=
  match fromZero 32 index with
  | none => (s, .unknown)
  | some i =>
    match tapEntryOf s.freeCount e with
    | none => (s.draw.draw.draw, .range)
    | some t => ((s.modCell fun c => { c with taps := c.taps.set i t }).draw.draw.draw, .done)

end Sys2Proof.Machine
end

