-- ==== Sys2Proof/Machine/Reads.lean ====
section
/-! DEFINITION. What a MGMT_READ answers (R156): the entry bytes of every table of Table 9-3, in the layouts of
09 section 9.7. -/

namespace Sys2Proof.Machine

/-- The owner's answer to a read: the state, the reply code and the entry. -/
structure ReadOut where
  state : State
  code : Reply
  data : List Byte

/-- A read that passes and changes nothing. -/
def ReadOut.entry (s : State) (data : List Byte) : ReadOut := ⟨s, .done, data⟩

/-- A refused read. -/
def ReadOut.refused (s : State) (code : Reply) : ReadOut := ⟨s, code, []⟩

/-- The entry of a record that the index names, or UNKNOWN (R156). -/
def ReadOut.indexed {k : Nat} (s : State) (i : Option (Fin k)) (entryOf : Fin k → List Byte) : ReadOut :=
  match i with
  | some i => .entry s (entryOf i)
  | none => .refused s .unknown

/-- A number that may be absent, as 0. -/
def orZero (n : Option Nat) : Nat := n.getD 0

/-- Three flags in one byte, bit 0 first. -/
def flagBits (a b c : Bool) : List Byte := [BitVec.ofNat 8 (a.toNat + 2 * b.toNat + 4 * c.toNat)]

/-! ## Writable tables -/

def Site.bytes (v : Site) : List Byte :=
  le8 v.console ++ le8 v.board ++ le8 v.counter ++ flagByte v.walkUp ++ flagByte v.paCall ++ le8 v.callPhrase.val
    ++ le8 v.maxCalls ++ le8 v.recallInterval ++ le16 v.dusk ++ le8 v.errorLimit

def ScreenConfig.bytes (g : ScreenConfig) : List Byte :=
  flagByte g.enabled ++ flagByte g.holdOnFailure ++ le8 g.clockSource.code ++ le8 g.projector ++ le8 g.panel
    ++ le16 g.capacity ++ le16 g.reserved ++ le16 g.tallQuota ++ le16 g.high ++ le16 g.low ++ le8 g.callPolicy.code

def ShowRecord.segmentBytes (r : ShowRecord) : List Byte := le8 r.segBase ++ le16 r.segLimit

def CueEntry.bytes (c : CueEntry) : List Byte :=
  le8 c.trigger.code ++ le24 c.time ++ le8 c.action.code ++ c.args.toList ++ le16 c.label.toNat

def OutputConfig.bytes (g : OutputConfig) : List Byte :=
  le16 g.gainTarget ++ le16 g.annGain ++ le16 g.duckLevel ++ le16 g.duckRate ++ le24 g.ceiling ++ le16 g.delayTarget
    ++ le8 g.darkRemap.code ++ le8 (screenNumber g.paSource) ++ le8 g.txStation ++ le8 g.tuneChannel
    ++ le8 g.autocut.toNat ++ le24 g.silenceThreshold ++ le16 g.deadAirBlocks ++ le8 g.txSilenceLimit

def Clip.bytes (c : Clip) : List Byte := le24 c.start ++ le24 c.length ++ le8 c.state.code ++ le8 c.uses

def Part.bytes : Part → List Byte
  | .clip c => le8 0 ++ le16 c.val
  | .number b => le8 1 ++ le16 b.val
  | .gap ms => le8 2 ++ le16 ms

def phraseBytes (ps : List Part) : List Byte := le8 ps.length ++ ps.flatMap Part.bytes

def EventEntry.bytes (v : EventEntry) : List Byte :=
  le8 (match v.phrase with
    | some p => p.val
    | none => 255)
    ++ le8 v.mask.toNat ++ le8 v.priority ++ le8 v.mode.code ++ flagByte v.notice

def Lane.bytes (n : Lane) : List Byte :=
  le8 n.station ++ le8 n.role.code ++ le8 (numberOf n.home) ++ le8 n.silenceLimit ++ le8 n.passTimeout

/-- The number of a kitchen station that may be none. -/
def kitchenNumber (k : Option KitchenId) : Nat :=
  match k with
  | some i => numberOf i
  | none => 0

def MenuItem.bytes (m : MenuItem) : List Byte :=
  flagByte m.available ++ le8 (numberOf m.primary) ++ le8 (kitchenNumber m.alternate) ++ le16 (m.portions.getD 65535)

def Kitchen.bytes (k : Kitchen) : List Byte := le8 k.loopStation ++ le8 k.limit ++ le8 k.lateLimit

def TapEntry.bytes (t : TapEntry) : List Byte :=
  flagByte t.valid ++ le8 t.kind ++ flagByte t.kindAny ++ le8 t.sourceLow ++ le8 t.sourceHigh ++ le8 t.dest
    ++ flagByte t.destAny ++ le8 t.action.code ++ le16 t.drops

/-! ## Read-only tables -/

/-- SCREEN_STATUS; A is computed from the fields beside it (R8). -/
def Screen.statusBytes (c : Screen) : List Byte :=
  le8 c.seq.shown.code ++ le8 c.seq.state.code
    ++ le8 (match c.seq.holdReason with
      | some r => r.code
      | none => 0)
    ++ le8 c.seq.cueIndex ++ flagByte c.seq.goPending ++ flagByte c.seq.rehearsal ++ le24 c.seq.clock
    ++ le8 c.seq.projState.code ++ flagByte c.sound.locked ++ flagByte c.sound.lost ++ flagByte c.sound.cut
    ++ le16 c.field.occupancy ++ le16 c.field.tall ++ le8 c.field.pending ++ le8 c.field.tallPending
    ++ le16s c.availability ++ le8 c.field.admission.code ++ flagBits c.field.nearFull c.field.full c.field.uncertain
    ++ le8 c.ordering.code ++ le8 c.heldCalls.length ++ le16 c.field.tailgates ++ le16 c.field.underflows
    ++ le16 c.field.expiries

/-- OUTPUT_STATUS byte 6 (R92). -/
def playingCode (q : AnnQueue) : Nat :=
  match q.playing with
  | none => 0
  | some e => e.mode.code + 1

/-- OUTPUT_STATUS. Output 5 is never cut and has no delay line, transmitter or input: no rule gives its bytes 0, 1 and
8 to 11 a value (log 22). -/
def State.outputStatusBytes (s : State) (o : OutputId) : List Byte :=
  let v := s.sound.outputs[o]
  let common : List Byte := le16 v.gain ++ le16 v.duck ++ le8 (playingCode s.ann.queues[o])
  match screenOf o with
  | some c =>
    le16 s.sound.lines[c].delay ++ common ++ flagBits v.clipped v.deadAir s.screens[c].sound.cut
      ++ le8 s.sound.transmitters[c].sticky.toNat ++ le8 s.sound.transmitters[c].carrier.code
      ++ flagByte s.screens[c].sound.locked ++ flagByte s.screens[c].sound.lost
  | none =>
    [Config.unstated s.freeCount .paDelayLow, Config.unstated s.freeCount .paDelayHigh] ++ common
      ++ flagBits v.clipped v.deadAir false
      ++ [Config.unstated s.freeCount .paSticky, Config.unstated s.freeCount .paCarrier,
        Config.unstated s.freeCount .paLock, Config.unstated s.freeCount .paLost]

/-- R92, R81: a read of OUTPUT_STATUS clears CLIPPED after it is taken into the reply. -/
def State.readOutputStatus (s : State) (index : Nat) : ReadOut :=
  match fromOne 5 index with
  | none => .refused s .unknown
  | some o => .entry (s.modOutput o fun v => { v with clipped := false }) (s.outputStatusBytes o)

/-- A timer's byte, or one that no rule gives a value where the timer does not run (log 22). -/
def timerByte (draw : Nat) (place : Config.Unstated) (t : Option Nat) : List Byte :=
  match t with
  | some n => le8 n
  | none => [Config.unstated draw place]

/-- LANE_STATUS. -/
def Lane.statusBytes (draw : Nat) (n : Lane) : List Byte :=
  le8 n.state.code ++ flagByte n.pending.isSome
    ++ (match n.pending with
      | some p => le8 (numberOf p.screen) ++ le8 p.vehicle.code
      | none => [Config.unstated draw .lanePendingScreen, Config.unstated draw .laneVehicle])
    ++ timerByte draw .lanePassSeconds (n.pending.map fun p => p.passTimer)
    ++ timerByte draw .laneSilenceSeconds n.silenceTimer

/-- A ticket of an ORDER entry. -/
def Ticket.bytes (v : Ticket) : List Byte := le8 (numberOf v.kitchen) ++ le8 v.state.code ++ le8 v.attempts

/-- ORDER. -/
def State.orderBytes (s : State) (o : Order) : List Byte :=
  le16 o.number ++ le8 (screenNumber o.screen) ++ le8 o.origin ++ le8 o.state.code ++ flagBits o.rush o.late o.callActive
    ++ le8 o.callCount ++ le8 (orZero o.recallLeft) ++ le8 o.tickets.length
    ++ o.tickets.flatMap fun t =>
      match s.router.tickets[t] with
      | some v => v.bytes
      | none => []

/-- ORDER: a number that no live order holds, one outside 1..999 among them, is refused RANGE (R156). -/
def State.readOrder (s : State) (index : Nat) : ReadOut :=
  match s.order? index with
  | some o => .entry s (s.orderBytes o)
  | none => .refused s .range

/-- STATION_STATUS. -/
def Kitchen.statusBytes (k : Kitchen) : List Byte :=
  le8 k.state.code ++ le8 k.sent ++ le16 k.backlog.length ++ le8 k.failRun

/-- PORT_STATUS. -/
def State.portStatusBytes (s : State) : List Byte :=
  let a := s.loop.portA
  let b := s.loop.portB
  le8 a.state.code ++ le8 a.window ++ le8 b.state.code ++ le8 b.window ++ le8 s.cell.urgent.length
    ++ le8 s.cell.normal.length ++ le8 s.cell.tracker.length ++ flagByte (a.held || b.held) ++ le16 a.lineErrors
    ++ le16 b.lineErrors ++ le16 a.linkDowns ++ le16 b.linkDowns

/-- The counters of a COUNTERS page, in the order of Table 9-6. -/
def State.counterPage (s : State) : Fin 8 → List Nat
  | 0 =>
    [s.loop.portA.lineErrors, s.loop.portB.lineErrors, s.loop.portA.linkDowns, s.loop.portB.linkDowns,
      s.loop.damagedUpstream, s.loop.discardedDown, s.loop.orphans, s.loop.stripped, s.loop.malformed,
      s.loop.unconsumed]
  | 1 => (s.cell.taps.toList.take 23).map fun t => t.drops
  | 2 =>
    ((s.cell.taps.toList.drop 23).map fun t => t.drops) ++ [s.cell.forwardDiscarded, s.cell.ownDiscarded]
      ++ s.cell.queueDrops.toList
  | 3 =>
    [s.cell.trackerFull, s.cell.delivered, s.cell.unaccepted, s.cell.lost, s.cell.lateReturns,
      s.cell.acceptorMismatch, s.seqr.lateCues, s.seqr.withheld, s.seqr.loopTargetBelow, s.seqr.skippedProj,
      s.seqr.refusedKeys, s.seqr.ignoredKeys, s.seqr.unmatchedProj]
  | 4 =>
    (s.sound.outputs.toList.map fun o => o.clamps) ++ (s.sound.inputs.toList.map fun i => i.lockLosses)
      ++ (s.sound.inputs.toList.map fun i => i.malformed) ++ [s.sound.unmatchedTx, s.sound.skippedTx]
      ++ s.sound.transmitters.toList.map fun t => t.unanswered
  | 5 =>
    [s.ann.skippedItems, s.ann.emptyRenders] ++ s.ann.discards.toList ++ s.ann.preemptions.toList
      ++ s.ann.suppressed.toList
  | 6 =>
    [s.gate.strayBackouts, s.gate.strayPassages, s.gate.unmatchedPassages, s.router.placed, s.router.refused,
      s.router.repeated, s.router.replyDropped, s.router.ticketFailures, s.router.staleOutcomes,
      s.router.unmatchedBumps, s.router.strayBumps, s.router.ignoredPickups, s.router.strayPickups,
      s.router.boardDropped, s.router.unansweredVoids, s.router.abandoned]
  | 7 => [s.mgmt.taken, s.mgmt.notConsole, s.mgmt.refusals, s.mgmt.notices]

/-! ## Tables (Table 9-3) -/

/-- The management tables. -/
inductive Table
  | site | screen | segment | cue | output | clip | phrase | event | lane | menu | station | tap
  | screenStatus | outputStatus | laneStatus | order | stationStatus | portStatus | counters
  deriving DecidableEq, Repr

def Table.code : Table → Nat
  | .site => 1 | .screen => 2 | .segment => 3 | .cue => 4 | .output => 5 | .clip => 6 | .phrase => 7 | .event => 8
  | .lane => 9 | .menu => 10 | .station => 11 | .tap => 12 | .screenStatus => 20 | .outputStatus => 21
  | .laneStatus => 22 | .order => 23 | .stationStatus => 24 | .portStatus => 25 | .counters => 26

/-- The table of a code. -/
def tableOf (n : Nat) : Option Table :=
  match n with
  | 1 => some .site
  | 2 => some .screen
  | 3 => some .segment
  | 4 => some .cue
  | 5 => some .output
  | 6 => some .clip
  | 7 => some .phrase
  | 8 => some .event
  | 9 => some .lane
  | 10 => some .menu
  | 11 => some .station
  | 12 => some .tap
  | 20 => some .screenStatus
  | 21 => some .outputStatus
  | 22 => some .laneStatus
  | 23 => some .order
  | 24 => some .stationStatus
  | 25 => some .portStatus
  | 26 => some .counters
  | _ => none

/-- The entry length a write must have; `none` for a read-only table. -/
def Table.entryLength (t : Table) (e : List Byte) : Option Nat :=
  match t with
  | .site => some 11
  | .screen => some 16
  | .segment => some 3
  | .cue => some 13
  | .output => some 24
  | .clip => some 6
  | .phrase => some (1 + 3 * byteAt e 0)
  | .event => some 5
  | .lane => some 5
  | .menu => some 5
  | .station => some 3
  | .tap => some 8
  | .screenStatus | .outputStatus | .laneStatus | .order | .stationStatus | .portStatus | .counters => none

/-- The owner of a table takes a write. A read-only table takes none (R154 step 3). -/
def State.writeTable (s : State) (t : Table) (index : Nat) (e : List Byte) : Written :=
  match t with
  | .site => s.writeSite index e
  | .screen => s.writeScreen index e
  | .segment => s.writeSegment index e
  | .cue => s.writeCue index e
  | .output => s.writeOutput index e
  | .clip => s.writeClip index e
  | .phrase => s.writePhrase index e
  | .event => s.writeEvent index e
  | .lane => s.writeLane index e
  | .menu => s.writeMenu index e
  | .station => s.writeStation index e
  | .tap => s.writeTap index e
  | .screenStatus | .outputStatus | .laneStatus | .order | .stationStatus | .portStatus | .counters => (s, .unknown)

/-- The owner of a table answers a read (R156). -/
def State.readTable (s : State) (t : Table) (index : Nat) : ReadOut :=
  match t with
  | .site => .indexed s (fromZero 1 index) fun _ => s.mgmt.site.bytes
  | .screen => .indexed s (fromOne 4 index) fun c => s.screens[c].config.bytes
  | .segment => .indexed s (fromOne 4 index) fun c => s.screens[c].seq.segmentBytes
  | .cue => .indexed s (fromZero 256 index) fun i => s.seqr.cues[i].bytes
  | .output => .indexed s (fromOne 5 index) fun o => s.sound.config[o].bytes
  | .clip => .indexed s (fromZero 64 index) fun i => s.ann.clips[i].bytes
  | .phrase => .indexed s (fromZero 64 index) fun i => phraseBytes s.ann.phrases[i]
  | .event => .indexed s (fromZero 16 index) fun i => s.ann.events[i].bytes
  | .lane => .indexed s (fromOne 8 index) fun l => s.gate.lanes[l].bytes
  | .menu => .indexed s (fromZero 256 index) fun i => s.router.menu[i].bytes
  | .station => .indexed s (fromOne 8 index) fun k => s.router.kitchens[k].bytes
  | .tap => .indexed s (fromZero 32 index) fun i => s.cell.taps[i].bytes
  | .screenStatus => .indexed s (fromOne 4 index) fun c => s.screens[c].statusBytes
  | .outputStatus => s.readOutputStatus index
  | .laneStatus => .indexed s (fromOne 8 index) fun l => s.gate.lanes[l].statusBytes s.freeCount
  | .order => s.readOrder index
  | .stationStatus => .indexed s (fromOne 8 index) fun k => s.router.kitchens[k].statusBytes
  | .portStatus => .indexed s (fromZero 1 index) fun _ => s.portStatusBytes
  | .counters => .indexed s (fromZero 8 index) fun p => (s.counterPage p).flatMap le16

end Sys2Proof.Machine
end

