-- ==== Sys2Proof/Machine/Responder.lean ====
section
/-! DEFINITION. The Management Responder (R154 to R157): the checks of a management cell, the commands of Table 9-4 and the
MGMT_REPLY of every cell taken. -/

namespace Sys2Proof.Machine

/-! ## Commands (Table 9-4) -/

/-- The commands with their arguments as the cell carries them. -/
inductive Command
  | start (screen : Byte)
  | go (screen : Byte)
  | hold (screen : Byte)
  | abort (screen : Byte)
  | rehearse (screen setting : Byte)
  | clipSeal (clip : Byte)
  | clipDelete (clip : Byte)
  | announce (phrase mask priority mode : Byte) (number : Half)
  | setCount (screen : Byte) (count tall : Half)
  | setAdmission (screen state : Byte)
  | setOrdering (screen state : Byte)
  | cancelOrder (number : Half)
  | clearFault (output : Byte)
  | clearCounters
  | restartWarm
  deriving DecidableEq, Repr

def Command.code : Command → Nat
  | .start _ => 1 | .go _ => 2 | .hold _ => 3 | .abort _ => 4 | .rehearse _ _ => 5 | .clipSeal _ => 10
  | .clipDelete _ => 11 | .announce _ _ _ _ _ => 12 | .setCount _ _ _ => 20 | .setAdmission _ _ => 21
  | .setOrdering _ _ => 22 | .cancelOrder _ => 23 | .clearFault _ => 30 | .clearCounters => 40 | .restartWarm => 41

/-- The two-byte argument at an offset. -/
def halfOf (p : List Byte) (i : Nat) : Half := BitVec.ofNat 16 (halfAt p i)

/-- The command of a MGMT_COMMAND payload with the length its arguments need; `none` for an unknown code. -/
def commandOf (p : List Byte) : Option (Command × Nat) :=
  let a : Byte := p.getD 1 0
  let b : Byte := p.getD 2 0
  match byteAt p 0 with
  | 1 => some (.start a, 2)
  | 2 => some (.go a, 2)
  | 3 => some (.hold a, 2)
  | 4 => some (.abort a, 2)
  | 5 => some (.rehearse a b, 3)
  | 10 => some (.clipSeal a, 2)
  | 11 => some (.clipDelete a, 2)
  | 12 => some (.announce a b (p.getD 3 0) (p.getD 4 0) (halfOf p 5), 7)
  | 20 => some (.setCount a (halfOf p 2) (halfOf p 4), 6)
  | 21 => some (.setAdmission a b, 3)
  | 22 => some (.setOrdering a b, 3)
  | 23 => some (.cancelOrder (halfOf p 1), 3)
  | 30 => some (.clearFault a, 2)
  | 40 => some (.clearCounters, 1)
  | 41 => some (.restartWarm, 1)
  | _ => none

/-- R157: a sequencer command; a screen outside 1..4 is refused RANGE. -/
def State.screenCommand (s : State) (screen : Byte) (f : State → ScreenId → Written) : Written :=
  match fromOne 4 screen.toNat with
  | none => (s, .range)
  | some c => f s c

/-- R64, R157: REHEARSE. -/
def State.doRehearseSetting (s : State) (screen setting : Byte) : Written :=
  match flagOf setting.toNat with
  | none => (s, .range)
  | some on => s.screenCommand screen fun s c => s.doRehearse c on

/-- R97: CLIP_SEAL. -/
def State.doClipSeal (s : State) (clip : Byte) : Written :=
  match fromZero 64 clip.toNat with
  | none => (s, .range)
  | some id =>
    if s.ann.clips[id].state = .loading then (s.modClip id fun c => { c with state := .ready }, .done) else (s, .state)

/-- R97: CLIP_DELETE. -/
def State.doClipDelete (s : State) (clip : Byte) : Written :=
  match fromZero 64 clip.toNat with
  | none => (s, .range)
  | some id =>
    if 0 < s.ann.clips[id].uses then (s, .inUse)
    else
      ((s.modClip id fun c => { c with state := .empty }).modAnn fun a =>
          { a with fillOrder := a.fillOrder.filter (· != id) },
        .done)

/-- R102: the command ANNOUNCE. -/
def State.doAnnounce (s : State) (phrase mask priority mode : Byte) (number : Half) : Written :=
  match fromZero 64 phrase.toNat, annModeOf mode.toNat with
  | some id, some m =>
    if mask.toNat = 0 ∨ 31 < mask.toNat then (s, .range)
    else
      (s.announce
          { phrase := id, mask := mask.truncate 5, priority := clampTo 0 3 priority.toNat, mode := m
            origin := .console, number := number.toNat },
        .done)
  | _, _ => (s, .range)

/-- R128: SET_COUNT. -/
def State.doSetCount (s : State) (screen : Byte) (count tall : Half) : Written :=
  s.screenCommand screen fun s c =>
    let o := clampTo 0 4095 count.toNat
    ((s.modField c fun f => { f with occupancy := o, tall := clampTo 0 o tall.toNat, uncertain := false }).judgeFlags c,
      .done)

/-- R127: SET_ADMISSION. -/
def State.doSetAdmission (s : State) (screen state : Byte) : Written :=
  match admissionOf state.toNat with
  | none => (s, .range)
  | some a =>
    s.screenCommand screen fun s c =>
      if a = .opened ∧ s.screens[c].seq.shown = .dark then (s, .state)
      else (s.modField c fun f => { f with admission := a }, .done)

/-- R150: SET_ORDERING. -/
def State.doSetOrdering (s : State) (screen state : Byte) : Written :=
  match orderingOf state.toNat with
  | none => (s, .range)
  | some o =>
    s.screenCommand screen fun s c =>
      if o ≠ .closed ∧ s.screens[c].seq.shown = .dark then (s, .state) else (s.setOrderingState c o, .done)

/-- R87: CLEAR_FAULT. -/
def State.doClearFault (s : State) (output : Byte) : Written :=
  match fromOne 4 output.toNat with
  | none => (s, .range)
  | some c => (s.clearFault c, .done)

/-- The owner of a command takes it (Table 9-4). -/
def State.obey (s : State) : Command → Written
  | .start screen => s.screenCommand screen State.doStart
  | .go screen => s.screenCommand screen State.doGo
  | .hold screen => s.screenCommand screen State.doHold
  | .abort screen => s.screenCommand screen State.doAbort
  | .rehearse screen setting => s.doRehearseSetting screen setting
  | .clipSeal clip => s.doClipSeal clip
  | .clipDelete clip => s.doClipDelete clip
  | .announce phrase mask priority mode number => s.doAnnounce phrase mask priority mode number
  | .setCount screen count tall => s.doSetCount screen count tall
  | .setAdmission screen state => s.doSetAdmission screen state
  | .setOrdering screen state => s.doSetOrdering screen state
  | .cancelOrder number => s.doCancel number
  | .clearFault output => s.doClearFault output
  | .clearCounters => (s.clearCounters, .done)
  | .restartWarm => (s.modMgmt fun m => { m with restart := true }, .done)

/-! ## Clip loading (R95, R96) -/

/-- R96: a CLIP_DATA cell. -/
def State.writeClipData (s : State) (clip : Byte) (offset : Nat) (run : List Sample16) : Written :=
  match fromZero 64 clip.toNat with
  | none => (s, .range)
  | some id =>
    let c := s.ann.clips[id]
    if run = [] then (s, .range)
    else
      match c.state with
      | .clearing => (s, .busy)
      | .empty | .ready => (s, .state)
      | .loading =>
        if c.length < offset + run.length then (s, .range)
        else (s.modAnn fun a => { a with memory := clipWriteRun a.memory (c.start + offset) run }, .done)

/-- R95: the fill of the clip at the front of the fill order completes. -/
def State.completeFill (s : State) : State :=
  match s.ann.fillOrder with
  | [] => s
  | id :: rest =>
    let c := s.ann.clips[id]
    (s.modClip id fun c => { c with state := .loading }).modAnn fun a =>
      { a with memory := memClear a.memory c.start c.length, fillOrder := rest }

/-! ## Taking a management cell (R154, R155, R161) -/

/-- What the reply echoes beside its code: the table or command code, and the index where there is one. -/
structure Echo where
  code : Byte
  index : Option Half
  deriving DecidableEq, Repr

/-- The index bytes of a reply; a command has none to echo (log 22). -/
def Echo.indexBytes (draw : Nat) (e : Echo) : List Byte :=
  match e.index with
  | some i => le16 i.toNat
  | none => [Config.unstated draw .commandIndexLow, Config.unstated draw .commandIndexHigh]

/-- The MGMT_REPLY cell (R155). -/
def replyCell (draw : Nat) (sender : Sender) (e : Echo) (code : Reply) (data : List Byte) (ends : Bool) : OwnCell :=
  { kind := .mgmtReply
    dest := sender.source.toNat
    payload := le8 code.code ++ [e.code] ++ e.indexBytes draw ++ data
    echo := some sender.tag
    endsRestart := ends }

/-- R159: how an answer counts. -/
def Management.countAnswer (m : Management) (code : Reply) : Management :=
  match code with
  | .done => m
  | .notConsole => { m with notConsole := bump16 m.notConsole }
  | .range | .overlap | .inUse | .state | .busy | .unknown => { m with refusals := bump16 m.refusals }

/-- R155: the MGMT_REPLY handed over, with the count of R159. -/
def State.reply (s : State) (sender : Sender) (e : Echo) (r : ReadOut) (ends : Bool) : State × HandOver :=
  let answered := (r.state.modMgmt fun m => m.countAnswer r.code).handUrgent
    (replyCell s.freeCount sender e r.code r.data ends)
  (answered.1.draw, answered.2)

/-- R154: steps 1 and 2, and the checks of steps 3 and 4 as `check` gives them; `none` lets the owner act. -/
def State.refuses (s : State) (sender : Sender) (check : Option Reply) : Option Reply :=
  if sender.source.toNat ≠ s.mgmt.site.console then some .notConsole
  else if s.mgmt.restart then some .busy
  else check

/-- R154, R159: a management cell taken: counted, judged, acted on by its owner, answered. -/
def State.takeMgmt (s : State) (sender : Sender) (e : Echo) (check : Option Reply) (owner : State → ReadOut) : State :=
  let counted := s.modMgmt fun m => { m with taken := bump16 m.taken }
  match counted.refuses sender check with
  | some code => (counted.reply sender e (.refused counted code) false).1
  | none => (counted.reply sender e (owner counted) false).1

/-- The answer to a write or a command, which carries no data. -/
def Written.out (w : Written) : ReadOut := ⟨w.1, w.2, []⟩

/-- R154 steps 3 and 4 for a MGMT_WRITE. -/
def writeCheck (table : Byte) (entry : List Byte) : Option Reply :=
  match tableOf table.toNat with
  | none => some .unknown
  | some t =>
    match t.entryLength entry with
    | none => some .unknown
    | some n => if entry.length = n then none else some .range

/-- The owner of a table code takes a write. -/
def State.writeCode (table : Byte) (index : Half) (entry : List Byte) (s : State) : ReadOut :=
  match tableOf table.toNat with
  | none => .refused s .unknown
  | some t => Written.out (s.writeTable t index.toNat entry)

/-- A MGMT_WRITE taken. -/
def State.takeWrite (s : State) (sender : Sender) (table : Byte) (index : Half) (entry : List Byte) : State :=
  s.takeMgmt sender ⟨table, some index⟩ (writeCheck table entry) (State.writeCode table index entry)

/-- R154 steps 3 and 4 for a MGMT_READ of a payload length. -/
def readCheck (table : Byte) (length : Nat) : Option Reply :=
  match tableOf table.toNat with
  | none => some .unknown
  | some _ => if length = 3 then none else some .range

/-- The owner of a table code answers a read. -/
def State.readCode (table : Byte) (index : Half) (s : State) : ReadOut :=
  match tableOf table.toNat with
  | none => .refused s .unknown
  | some t => s.readTable t index.toNat

/-- A MGMT_READ taken. -/
def State.takeRead (s : State) (sender : Sender) (table : Byte) (index : Half) (length : Nat) : State :=
  s.takeMgmt sender ⟨table, some index⟩ (readCheck table length) (State.readCode table index)

/-- R161: RESTART_WARM takes effect at once when its DONE is dropped at hand-over, and otherwise at that cell's turn. -/
def State.takeRestart (s : State) (sender : Sender) (e : Echo) : State :=
  let counted := s.modMgmt fun m => { m with taken := bump16 m.taken }
  match counted.refuses sender none with
  | some code => (counted.reply sender e (.refused counted code) false).1
  | none =>
    match counted.reply sender e (Written.out (counted.obey .restartWarm)) true with
    | (answered, .queued) => answered
    | (answered, .dropped) => answered.warmRestart

/-- A MGMT_COMMAND of a known code and the right length taken. -/
def State.takeCommand (s : State) (sender : Sender) (c : Command) : State :=
  let e : Echo := ⟨BitVec.ofNat 8 c.code, none⟩
  if c = .restartWarm then s.takeRestart sender e
  else s.takeMgmt sender e none fun s => Written.out (s.obey c)

/-- A MGMT_COMMAND cell's payload taken. -/
def State.takeCommandCell (s : State) (sender : Sender) (p : List Byte) : State :=
  match commandOf p with
  | none => s.takeMgmt sender ⟨p.getD 0 0, none⟩ (some .unknown) (.refused · .unknown)
  | some (c, n) =>
    if p.length = n then s.takeCommand sender c
    else s.takeMgmt sender ⟨p.getD 0 0, none⟩ (some .range) (.refused · .range)

/-- R96, R155: a CLIP_DATA cell taken; its reply echoes the CLIP table code and the clip id. `fits` is R154's length
check. -/
def State.takeClipData (s : State) (sender : Sender) (clip : Byte) (offset : BitVec 24) (run : List Sample16)
    (fits : Bool) : State :=
  s.takeMgmt sender ⟨6, some (clip.zeroExtend 16)⟩ (if fits then none else some .range) fun s =>
    Written.out (s.writeClipData clip offset.toNat run)

/-- The samples of a CLIP_DATA payload. -/
def samplesOf (p : List Byte) : List Sample16 :=
  (List.range ((p.length - 4) / 2)).map fun k => BitVec.ofNat 16 (halfAt p (4 + 2 * k))

/-- A CLIP_DATA cell's payload taken (R154 step 4: at least 6 bytes, an even number). -/
def State.takeClipCell (s : State) (sender : Sender) (p : List Byte) : State :=
  s.takeClipData sender (p.getD 0 0) (BitVec.ofNat 24 (triAt p 1)) (samplesOf p)
    (decide (6 ≤ p.length) && decide (p.length % 2 = 0))

end Sys2Proof.Machine
end

