-- ==== Sys2Proof/Machine/Deliver.lean ====
section
/-! DEFINITION. Handing a delivered cell to the block its kind implies (R29, R32), and settling the part's own cells that
come back (R45 to R47). -/

namespace Sys2Proof.Machine

/-- R115, R133: the Gate Counter and the Order Router are told the source of every delivered cell before its content is
acted on. -/
def State.cellSeen (s : State) (source : Byte) : State := (s.laneSeen source.toNat).kitchenSeen source.toNat

/-- The lines of an ORDER_PLACE payload. -/
def linesOf (p : List Byte) : List (Byte × Byte) :=
  (List.range (byteAt p 1)).map fun k => (p.getD (2 + 2 * k) 0, p.getD (3 + 2 * k) 0)

/-- A delivered cell acted on by its block (Table 2-4). -/
def State.actOn (s : State) (k : TakenKind) (c : Cell) : State :=
  let sender : Sender := ⟨c.source, c.tag⟩
  let p := c.payload
  let b0 : Byte := p.getD 0 0
  let b1 : Byte := p.getD 1 0
  match k with
  | .mgmtWrite => s.takeWrite sender b0 (halfOf p 1) (p.drop 3)
  | .mgmtRead => s.takeRead sender b0 (halfOf p 1) p.length
  | .mgmtCommand => s.takeCommandCell sender p
  | .clipData => s.takeClipCell sender p
  | .admitAsk => s.takeAdmitAsk sender b0 b1
  | .passage => s.takePassage c.source (passageOf b0.toNat) b1
  | .laneBeat => s
  | .orderPlace => s.takeOrderPlace sender b0 (linesOf p)
  | .bump => s.takeBump c.source (halfOf p 0) (p.getD 2 0)
  | .stationBeat => s
  | .pickup => s.takePickup c.source (halfOf p 0)
  | .panelKey => s.takePanelKey c.source b0 b1
  | .projState => s.takeProjState c.source b0
  | .skyReport => s.takeSkyReport (halfOf p 0)
  | .txStatus => s.takeTxStatus c.source b0 b1

/-- R29: a cell delivered. -/
def State.deliver (s : State) (k : TakenKind) (c : Cell) : State := (s.cellSeen c.source).actOn k c

/-- What R29 does with a good cell that was forwarded. -/
inductive Taking
  | delivered (k : TakenKind)
  | malformed | unconsumed | left
  deriving DecidableEq, Repr

/-- R29: addressed to the part, a SKY_REPORT for all, or copied by a tap. -/
def wanted (station : Nat) (copied : Bool) (c : Cell) : Bool :=
  decide (c.dest = station) || (decide (c.dest = 0) && decide (takenKindOf c.kind = some .skyReport)) || copied

/-- R29: source and length are in range. -/
def Cell.wellFormed (c : Cell) (k : TakenKind) : Bool :=
  decide (1 ≤ c.source.toNat) && decide (c.source.toNat ≤ 120) && decide (c.length ≤ 50)
    && k.lengthFits c.payload c.length

/-- R29, R31. -/
def takingOf (station : Nat) (copied : Bool) (c : Cell) : Taking :=
  match takenKindOf c.kind with
  | some k =>
    if wanted station copied c then (if c.wellFormed k then .delivered k else .malformed)
    else if c.dest = 0 then .unconsumed
    else .left
  | none => if wanted station copied c then .unconsumed else .left

/-- R30: the acceptor the part writes: its own station, when it delivers a cell addressed to it. -/
def markOf (station : Nat) (c : Cell) (t : Taking) : Option Nat :=
  match t with
  | .delivered _ => if c.dest = station then some station else none
  | .malformed | .unconsumed | .left => none

/-- R29: a good cell that was forwarded is delivered or counted. -/
def State.take (s : State) (c : Cell) (t : Taking) : State :=
  match t with
  | .delivered k => s.deliver k c
  | .malformed => s.modLoop fun l => { l with malformed := bump16 l.malformed }
  | .unconsumed => s.modLoop fun l => { l with unconsumed := bump16 l.unconsumed }
  | .left => s

/-! ## Returns (R45 to R47) -/

/-- R47: an owner learns an outcome. -/
def State.outcome (s : State) (e : TrackEntry) (delivered : Bool) : State :=
  match e.kind, e.ref with
  | .ticket, .ticket t serial => s.ticketOutcome t serial delivered
  | .ticketVoid, _ => if delivered then s else s.modRouter fun r => { r with unansweredVoids := bump16 r.unansweredVoids }
  | .projCmd, .screen c => if delivered then s else s.projUnanswered c
  | .txCmd, .output c => if delivered then s else s.txUnanswered c
  | _, _ => s

/-- The tracker without the entry of a tag; no two entries hold one (R43). -/
def CellProcessor.untrack (c : CellProcessor) (tag : Half) : CellProcessor :=
  { c with tracker := c.tracker.filter fun e => e.tag != tag }

/-- R45: how a return counts. -/
def CellProcessor.countReturn (c : CellProcessor) (e : TrackEntry) (cell : Cell) : CellProcessor :=
  if cell.accepted then
    { c with
      delivered := bump16 c.delivered
      acceptorMismatch := if cell.acceptor = e.dest then c.acceptorMismatch else bump16 c.acceptorMismatch }
  else { c with unaccepted := bump16 c.unaccepted }

/-- R45: a good cell of the part's own source has been stripped. -/
def State.settle (s : State) (c : Cell) : State :=
  match s.cell.tracker.find? fun e => e.tag == c.tag && e.kind.code == c.kind with
  | none => s.modCell fun p => { p with lateReturns := bump16 p.lateReturns }
  | some e => (s.modCell fun p => (p.untrack e.tag).countReturn e c).outcome e c.accepted

/-- R46: the return timer of the entry with this tag runs out. -/
def State.returnExpires (s : State) (tag : Half) : State :=
  match s.cell.tracker.find? fun e => e.tag == tag with
  | none => s
  | some e =>
    (s.modCell fun p =>
        let u := p.untrack tag
        { u with lost := bump16 u.lost }).outcome e false

end Sys2Proof.Machine
end

