-- ==== Sys2Proof/Machine/Audio.lean ====
section
/-! DEFINITION. The commands of the Sound Path and the Announcement Composer (05, 06). One meaning a command; `exec` calls each once. -/

namespace Sys2Proof.Machine

/-- R72: the bit clocks of the two halves, the time since the previous frame's start in nanoseconds, the frame. -/
def execProgrammeFrame (input : ScreenId) (leftClocks rightClocks gapNs : Nat) (frame : Frame)
    (s : State) : Host.Outcome State Fault Refusal :=
  .next (s.takeFrame input leftClocks rightClocks gapNs frame)

/-- R72. -/
def execFrameMissed (input : ScreenId) (s : State) : Host.Outcome State Fault Refusal :=
  .next (s.missFrame input)

/-- R73. -/
def execSoundLostDelayExpiry (input : ScreenId) (s : State) : Host.Outcome State Fault Refusal :=
  .next (s.lostDelayExpires input)

/-- R81. -/
def execSamplePeriod (s : State) : Host.Outcome State Fault Refusal :=
  .next (s.samplePeriod)

/-- R77. -/
def execSlewStep (line : ScreenId) (s : State) : Host.Outcome State Fault Refusal :=
  .next (s.modLine line fun l => l.slew s.sound.config[outputOf line].delayTarget)

/-- R84. -/
def execLevelBlockEnd (output : OutputId) (s : State) : Host.Outcome State Fault Refusal :=
  .next (s.endBlock output)

/-- R85. -/
def execTxStatus (source carrier flags : Byte) (s : State) : Host.Outcome State Fault Refusal :=
  .next ((s.cellSeen source).takeTxStatus source carrier flags)

/-- R88. -/
def execTxSilenceExpiry (output : ScreenId) (s : State) : Host.Outcome State Fault Refusal :=
  .next (s.txSilent output)

/-- R95. -/
def execFillCompletion (s : State) : Host.Outcome State Fault Refusal :=
  .next (s.completeFill)

/-- R104. -/
def execEntryStart (output : OutputId) (s : State) : Host.Outcome State Fault Refusal :=
  .next (s.startEntry output)

/-- R104. -/
def execEntryEnd (output : OutputId) (s : State) : Host.Outcome State Fault Refusal :=
  .next (s.endEntry output)

end Sys2Proof.Machine
end

