-- ==== Sys2Proof/Machine/Commands.lean ====
section
/-! DEFINITION. The management commands of Table 9-4 and CLIP_DATA. One meaning a command; `exec` calls each once. -/

namespace Sys2Proof.Machine

/-- R54. -/
def execStart (sender : Sender) (screen : Byte) (s : State) : Host.Outcome State Fault Refusal :=
  .next ((s.cellSeen sender.source).takeCommand sender (.start screen))

/-- R63. -/
def execGo (sender : Sender) (screen : Byte) (s : State) : Host.Outcome State Fault Refusal :=
  .next ((s.cellSeen sender.source).takeCommand sender (.go screen))

/-- R64. -/
def execHold (sender : Sender) (screen : Byte) (s : State) : Host.Outcome State Fault Refusal :=
  .next ((s.cellSeen sender.source).takeCommand sender (.hold screen))

/-- R65. -/
def execAbort (sender : Sender) (screen : Byte) (s : State) : Host.Outcome State Fault Refusal :=
  .next ((s.cellSeen sender.source).takeCommand sender (.abort screen))

/-- R64. -/
def execRehearse (sender : Sender) (screen setting : Byte) (s : State) : Host.Outcome State Fault Refusal :=
  .next ((s.cellSeen sender.source).takeCommand sender (.rehearse screen setting))

/-- R97. -/
def execClipSeal (sender : Sender) (clip : Byte) (s : State) : Host.Outcome State Fault Refusal :=
  .next ((s.cellSeen sender.source).takeCommand sender (.clipSeal clip))

/-- R97. -/
def execClipDelete (sender : Sender) (clip : Byte) (s : State) : Host.Outcome State Fault Refusal :=
  .next ((s.cellSeen sender.source).takeCommand sender (.clipDelete clip))

/-- R102. -/
def execAnnounce (sender : Sender) (phrase mask priority mode : Byte) (number : Half)
    (s : State) : Host.Outcome State Fault Refusal :=
  .next ((s.cellSeen sender.source).takeCommand sender (.announce phrase mask priority mode number))

/-- R128. -/
def execSetCount (sender : Sender) (screen : Byte) (count tall : Half)
    (s : State) : Host.Outcome State Fault Refusal :=
  .next ((s.cellSeen sender.source).takeCommand sender (.setCount screen count tall))

/-- R127. -/
def execSetAdmission (sender : Sender) (screen state : Byte) (s : State) : Host.Outcome State Fault Refusal :=
  .next ((s.cellSeen sender.source).takeCommand sender (.setAdmission screen state))

/-- R150. -/
def execSetOrdering (sender : Sender) (screen state : Byte) (s : State) : Host.Outcome State Fault Refusal :=
  .next ((s.cellSeen sender.source).takeCommand sender (.setOrdering screen state))

/-- R148. -/
def execCancelOrder (sender : Sender) (number : Half) (s : State) : Host.Outcome State Fault Refusal :=
  .next ((s.cellSeen sender.source).takeCommand sender (.cancelOrder number))

/-- R87. -/
def execClearFault (sender : Sender) (output : Byte) (s : State) : Host.Outcome State Fault Refusal :=
  .next ((s.cellSeen sender.source).takeCommand sender (.clearFault output))

/-- R160. -/
def execClearCounters (sender : Sender) (s : State) : Host.Outcome State Fault Refusal :=
  .next ((s.cellSeen sender.source).takeCommand sender .clearCounters)

/-- R161. -/
def execRestartWarm (sender : Sender) (s : State) : Host.Outcome State Fault Refusal :=
  .next ((s.cellSeen sender.source).takeCommand sender .restartWarm)

/-- R96. -/
def execClipData (sender : Sender) (clip : Byte) (offset : BitVec 24) (run : List Sample16)
    (s : State) : Host.Outcome State Fault Refusal :=
  .next ((s.cellSeen sender.source).takeClipData sender clip offset run (!run.isEmpty))

end Sys2Proof.Machine
end

