-- ==== Sys2Proof/Machine/Kiosk.lean ====
section
/-! DEFINITION. The commands of the Order Router (08). One meaning a command; `exec` calls each once. -/

namespace Sys2Proof.Machine

/-- R145: the late timer of the SENT ticket of an order at a kitchen station runs out. -/
def State.lateOf (s : State) (number : Nat) (kitchen : KitchenId) : State :=
  match s.order? number with
  | none => s
  | some o =>
    match s.sentTicket o kitchen with
    | none => s
    | some t => s.lateExpires t

/-- R135: the screen and the lines, each an item code and a quantity. -/
def execOrderPlace (sender : Sender) (screen : Byte) (lines : List (Byte × Byte)) (s : State) :
    Host.Outcome State Fault Refusal :=
  .next ((s.cellSeen sender.source).takeOrderPlace sender screen lines)

/-- R133. -/
def execStationBeat (source : Byte) (s : State) : Host.Outcome State Fault Refusal :=
  .next (s.cellSeen source)

/-- R141. -/
def execBump (source : Byte) (number : Half) (kitchen : Byte) (s : State) : Host.Outcome State Fault Refusal :=
  .next ((s.cellSeen source).takeBump source number kitchen)

/-- R144. -/
def execRecallExpiry (number : Half) (s : State) : Host.Outcome State Fault Refusal :=
  .next (s.recallExpires number.toNat)

/-- R145: the ticket of this order at this kitchen station. -/
def execLateTimerExpiry (number : Half) (kitchen : KitchenId) (s : State) : Host.Outcome State Fault Refusal :=
  .next (s.lateOf number.toNat kitchen)

/-- R147. -/
def execPickup (source : Byte) (number : Half) (s : State) : Host.Outcome State Fault Refusal :=
  .next ((s.cellSeen source).takePickup source number)

end Sys2Proof.Machine
end

