-- ==== Sys2Proof/Machine/Lanes.lean ====
section
/-! DEFINITION. The commands of the Gate Counter (07). One meaning a command; `exec` calls each once. -/

namespace Sys2Proof.Machine

/-- R117. -/
def execAdmitAsk (sender : Sender) (screen vehicle : Byte) (s : State) : Host.Outcome State Fault Refusal :=
  .next ((s.cellSeen sender.source).takeAdmitAsk sender screen vehicle)

/-- R115. -/
def execLaneBeat (source : Byte) (s : State) : Host.Outcome State Fault Refusal :=
  .next (s.cellSeen source)

/-- R121. -/
def execEntered (source vehicle : Byte) (s : State) : Host.Outcome State Fault Refusal :=
  .next ((s.cellSeen source).takePassage source (some .entered) vehicle)

/-- R122. -/
def execBackedOut (source vehicle : Byte) (s : State) : Host.Outcome State Fault Refusal :=
  .next ((s.cellSeen source).takePassage source (some .backedOut) vehicle)

/-- R123. -/
def execExited (source vehicle : Byte) (s : State) : Host.Outcome State Fault Refusal :=
  .next ((s.cellSeen source).takePassage source (some .exited) vehicle)

/-- R120. -/
def execPassTimeout (lane : LaneId) (s : State) : Host.Outcome State Fault Refusal :=
  .next (s.passExpires lane)

/-- R116. -/
def execLaneSilenceExpiry (lane : LaneId) (s : State) : Host.Outcome State Fault Refusal :=
  .next (s.silenceExpires lane)

end Sys2Proof.Machine
end

