-- ==== Sys2Proof/Machine/Loop.lean ====
section
/-! DEFINITION. The loop ports (02): link states, loss of signal, line errors and the error limit; the cell that arrives at
port A (R24 to R29) and the turns of port B (R37 to R44). -/

namespace Sys2Proof.Machine

/-! ## What a port sends (R15) -/

/-- What a port sends on its outgoing lane (R15): nothing, a maintenance symbol over and over, or port B's cell. -/
inductive LaneOutput
  | nothing | hail | hailAck | idle | cell
  deriving DecidableEq, Repr

/-- R15, R37: a cell is leaving port B; the time of a discarded cell sends none of it (R39). -/
def Sending.isOut : Sending → Bool
  | .own _ | .passing _ | .passed _ _ => true
  | .idle | .discardedOwn | .discardedForward => false

/-- R15: what a port sends in the state it stands in; which cell port B sends stands in `CellProcessor.sending`. -/
def State.portSends (s : State) (p : PortId) : LaneOutput :=
  if (s.port p).held ∨ ((s.port p).state = .down ∧ (s.port p).quiet.isSome) then .nothing
  else
    match (s.port p).state with
    | .down | .hailing => .hail
    | .answering => .hailAck
    | .up =>
      match p with
      | .a => .idle
      | .b => if s.cell.sending.isOut then .cell else .idle

/-! ## Leaving a link state (R20, R21) -/

/-- R16, R19: the port takes notice of what it receives. -/
def Port.notices (p : Port) : Bool := !p.held && p.quiet.isNone

/-- The subject of LINK_DOWN (R20). -/
def subjectOf : PortId → Nat
  | .a => 1 | .b => 2

/-- R21, R39: port B leaves UP while it sends. The cell is cut short and counted. -/
def State.cutSending (s : State) : State :=
  match s.cell.sending with
  | .own _ => s.modCell fun c => { c with sending := .discardedOwn, ownDiscarded := bump16 c.ownDiscarded }
  | .passing _ =>
    (s.modCell fun c => { c with sending := .discardedForward, forwardDiscarded := bump16 c.forwardDiscarded }).modLoop
      fun l => { l with arriving := l.arriving.map fun v => { v with place := .gone } }
  | .passed _ _ =>
    s.modCell fun c => { c with sending := .discardedForward, forwardDiscarded := bump16 c.forwardDiscarded }
  | .idle | .discardedOwn | .discardedForward => s

/-- R21: port A has lost the rest of the arriving cell. A head that is leaving port B is completed in the stomped form;
any other is not sent, and nothing is delivered. -/
def State.cutArriving (s : State) : State :=
  let ended := s.modLoop fun l => { l with arriving := none }
  match s.loop.arriving, s.cell.sending with
  | some v, .passing buffered =>
    if v.place = .leaving then
      ended.modCell fun c => { c with sending := .passed (sealBytes (forwardBody v.bytes none) true) buffered }
    else ended
  | _, _ => ended

/-- R20, R21: what leaving HAILING, ANSWERING or UP brings: for port A the end of the arriving cell, for port B the end
of the cell it sends while UP. -/
def State.cutCells (s : State) (p : PortId) : State :=
  match p with
  | .a => s.cutArriving
  | .b => if s.loop.portB.state = .up then s.cutSending else s

/-- R20: LINK_DOWN raised for the state left, the port now in `new`. -/
def State.leaveLink (s : State) (p : PortId) (new : LinkState) : State :=
  let left := (s.port p).state
  ((s.cutCells p).modPort p fun v =>
      { v with state := new, lossTimer := false, linkDowns := bump16 v.linkDowns }).raise .linkDown (subjectOf p) left.code
    none

/-! ## Line errors (R18, R19) -/

/-- R19: a line error has brought the window count to the limit. The gap or the run of errors that the error began goes
on across the quiet period, whose symbols nothing notices (DEDUCED, log 42). -/
def State.dropLink (s : State) (p : PortId) : State :=
  (s.leaveLink p .down).modPort p fun v => { v with quiet := some 100, window := 0 }

/-- R18, R19: a line error; a port that is DOWN, held or under its quiet timer counts nothing. -/
def State.lineError (s : State) (p : PortId) : State :=
  if (s.port p).notices ∧ (s.port p).state ≠ .down then
    let counted := s.modPort p fun v => { v with window := bump8 v.window, lineErrors := bump16 v.lineErrors }
    if s.mgmt.site.errorLimit ≤ (counted.port p).window then counted.dropLink p else counted
  else s

/-- R18: port A leaves its state in the middle of a cell: the symbol error that the cell carries, if any, is its line
error (log 11). -/
def State.arrivingError (s : State) (p : PortId) : State :=
  match p, s.loop.arriving with
  | .a, some v => if v.symbolError then s.lineError .a else s
  | .a, none | .b, _ => s

/-- R17, R18: loss of signal; a DOWN or held port declares none (log 8), and the error of the cell it cuts short, which
comes before it, may have dropped the link already (log 12). -/
def State.lossOfSignal (s : State) (p : PortId) : State :=
  if (s.port p).held ∨ (s.port p).state = .down then s
  else
    let t := s.arrivingError p
    if (t.port p).state = .down then t else t.leaveLink p .down

/-- R18: an error in a gap of port A, counted once a gap. -/
def State.gapErrorA (s : State) : State :=
  if s.loop.gapError ∨ s.loop.portA.state = .down then s
  else (s.modLoop fun l => { l with gapError := true }).lineError .a

/-- R18: an erroneous symbol on port B, counted once a run. -/
def State.runErrorB (s : State) : State :=
  if s.loop.errorRunB ∨ s.loop.portB.state = .down then s
  else (s.modLoop fun l => { l with errorRunB := true }).lineError .b

/-- R19: the window count of both ports to 0. -/
def State.windowEnds (s : State) : State :=
  (s.modPort .a fun v => { v with window := 0 }).modPort .b fun v => { v with window := 0 }

/-- R19: the quiet timer runs out. -/
def State.quietEnds (s : State) (p : PortId) : State :=
  if (s.port p).quiet.isSome then s.modPort p fun v => { v with quiet := none, state := .hailing } else s

/-! ## Symbols (R16, R17, R18) -/

/-- R17: a received symbol cancels the loss timer. -/
def State.heard (s : State) (p : PortId) : State := s.modPort p fun v => { v with lossTimer := false }

/-- R18: a symbol that is no data ends the cell that arrives at port A early, which is a framing error. -/
def State.framing (s : State) : State :=
  if s.loop.arriving.isSome then s.cutArriving.lineError .a else s

/-- What a well-formed maintenance symbol does before its row of Table 2-2: it is heard, and ends a cell of port A or a
run of errors of port B. -/
def State.symbolIn (s : State) (p : PortId) : State :=
  match p with
  | .a => (s.heard .a).framing
  | .b => (s.heard .b).modLoop fun l => { l with errorRunB := false }

/-- Table 2-2, HAIL. -/
def State.hail (s : State) (p : PortId) : State :=
  match (s.port p).state with
  | .down | .hailing | .answering => s.modPort p fun v => { v with state := .answering }
  | .up => s.leaveLink p .answering

/-- Table 2-2, HAIL_ACK. -/
def State.hailAck (s : State) (p : PortId) : State :=
  match (s.port p).state with
  | .down => s.modPort p fun v => { v with state := .hailing }
  | .hailing | .answering => s.modPort p fun v => { v with state := .up }
  | .up => s

/-- Table 2-2, IDLE. -/
def State.idle (s : State) (p : PortId) : State :=
  match (s.port p).state with
  | .down => s.modPort p fun v => { v with state := .hailing }
  | .answering => s.modPort p fun v => { v with state := .up }
  | .hailing | .up => s

/-- R16: a maintenance symbol on a port that takes notice; the framing error it makes may drop the link first. -/
def State.maintenance (s : State) (p : PortId) (row : State → PortId → State) : State :=
  if (s.port p).notices then
    let t := s.symbolIn p
    if (t.port p).notices then row t p else t
  else s

/-- R16, R18: a data symbol at port A outside any cell (from DOWN it starts the bring-up, uncounted). The rest of a cell
whose START came unnoticed under the quiet timer is such data (DEDUCED, log 54). While a cell arrives no data symbol is
outside any cell: the event cannot come, and changes nothing, the loss timer included (DEDUCED, log 4). -/
def State.strayData (s : State) : State :=
  if s.loop.portA.notices ∧ s.loop.arriving.isNone then
    let t := s.heard .a
    if t.loop.portA.state = .down then t.modPort .a fun v => { v with state := .hailing } else t.gapErrorA
  else s

/-! ## The header (R26 to R28, R35) -/

/-- R35: a tap entry matches a header. -/
def TapEntry.matches (t : TapEntry) (dest source kind : Nat) : Bool :=
  t.valid && (t.kindAny || decide (t.kind = kind)) && decide (t.sourceLow ≤ source) && decide (source ≤ t.sourceHigh)
    && (t.destAny || decide (t.dest = dest))

/-- R35: the matching entry of the lowest index. -/
def State.tapOf (s : State) (dest source kind : Nat) : Option (Fin 32) :=
  (List.finRange 32).find? fun i => s.cell.taps[i].matches dest source kind

/-- R28, R35: the verdict on a header, with the tap entry whose DROP made it. -/
def State.judge (s : State) (bytes : List Byte) : Verdict × Option (Fin 32) :=
  if byteAt bytes 1 = s.station.toNat then (.stripped, none)
  else if 63 ≤ byteAt bytes 3 then (.orphan, none)
  else
    match s.tapOf (byteAt bytes 0) (byteAt bytes 1) (byteAt bytes 2) with
    | none => (.passed, none)
    | some i =>
      match s.cell.taps[i].action with
      | .pass => (.passed, none)
      | .copy => (.copied, none)
      | .drop => (.dropped, some i)

/-- A verdict that removes the cell (R28). -/
def Verdict.removes : Verdict → Bool
  | .stripped | .orphan | .dropped => true
  | .passed | .copied => false

/-- R26, R27, R36: a removal counts. -/
def State.countVerdict (s : State) (v : Verdict) (tap : Option (Fin 32)) : State :=
  match v, tap with
  | .stripped, _ => s.modLoop fun l => { l with stripped := bump16 l.stripped }
  | .orphan, _ => s.modLoop fun l => { l with orphans := bump16 l.orphans }
  | .dropped, some i =>
    s.modCell fun c => { c with taps := c.taps.set i { c.taps[i] with drops := bump16 c.taps[i].drops } }
  | .dropped, none | .passed, _ | .copied, _ => s

/-- R28: the header of the arriving cell is judged. -/
def State.judgeHeader (s : State) (v : Arriving) : State :=
  let (verdict, tap) := s.judge v.bytes
  (s.countVerdict verdict tap).modLoop fun l =>
    { l with
      arriving := some { v with verdict := some verdict, place := if verdict.removes then .gone else v.place } }

/-! ## The tail (R24, R25, R27, R29) -/

/-- R25: the forwarded cell has its last byte: it waits in the elastic buffer, or goes on leaving port B. -/
def CellProcessor.passOn (c : CellProcessor) (place : Place) (out : List Byte) : CellProcessor :=
  match place, c.sending with
  | .leaving, .passing buffered => { c with sending := .passed out buffered }
  | .arriving, _ | .buffered, _ => { c with buffer := c.buffer ++ [out] }
  | .leaving, _ | .gone, _ => c

/-- R24: how a cell's class counts. -/
def State.countClass (s : State) (k : CheckClass) : State :=
  match k with
  | .good => s
  | .damagedUpstream => s.modLoop fun l => { l with damagedUpstream := bump16 l.damagedUpstream }
  | .damagedHere => s.lineError .a

/-- R25, R29, R30: a cell that is forwarded, its tail here: passed on, then delivered or counted. -/
def State.finishForward (s : State) (v : Arriving) (k : CheckClass) (copied : Bool) : State :=
  let c := cellOf v.bytes
  if k = .good then
    let t := takingOf s.station.toNat copied c
    (s.modCell fun p =>
        p.passOn v.place (sealBytes (forwardBody v.bytes (markOf s.station.toNat c t)) false)).take c t
  else
    (s.modCell fun p => p.passOn v.place (sealBytes (forwardBody v.bytes none) true)).countClass k

/-- R24: the last byte of the arriving cell has arrived (log 10 for a discarded one). -/
def State.finishCell (s : State) (v : Arriving) : State :=
  let ended := s.modLoop fun l => { l with arriving := none }
  let k := classify v.bytes v.symbolError
  match v.discard, v.verdict with
  | false, some .stripped => if k = .good then ended.settle (cellOf v.bytes) else ended.countClass k
  | false, some .passed => ended.finishForward v k false
  | false, some .copied => ended.finishForward v k true
  | _, _ => ended.countClass k

/-- One data position of the arriving cell (R24: a symbol error is taken as the byte 0). -/
def Arriving.feed (v : Arriving) (x : Sym) : Arriving :=
  { v with bytes := v.bytes ++ [x.getD 0], symbolError := v.symbolError || x.isNone }

/-- A data position arrives; the header is judged at the eighth, the cell ends at the 64th. -/
def State.feed (s : State) (x : Sym) : State :=
  match s.loop.arriving with
  | none => s
  | some old =>
    let v := old.feed x
    if v.bytes.length = 8 ∧ !v.discard then s.judgeHeader v
    else if 64 ≤ v.bytes.length then s.finishCell v
    else s.modLoop fun l => { l with arriving := some v }

/-- A data position at port A, inside a cell or outside any: a code that is no symbol is an error of the gap there. -/
def State.dataIn (s : State) (x : Sym) : State :=
  if s.loop.portA.notices then
    if s.loop.arriving.isSome then (s.heard .a).feed x
    else
      match x with
      | some _ => s.strayData
      | none => (s.heard .a).gapErrorA
  else s

/-- R18: a code that is no symbol. -/
def State.symbolError (s : State) (p : PortId) : State :=
  match p with
  | .a => s.dataIn none
  | .b => if s.loop.portB.notices then (s.heard .b).runErrorB else s

/-! ## Turns of port B (R37 to R44) -/

/-- The first entry of a class that may go (R42), the entries left, and whether a held tracked entry was passed over. -/
structure Picked where
  entry : OwnCell
  left : List OwnCell
  passedOver : Bool

/-- R42: the oldest eligible entry of one class. -/
def pickEntry (free : Bool) : List OwnCell → Option Picked
  | [] => none
  | o :: os =>
    if o.kind.tracked.isNone || free then some ⟨o, os, false⟩
    else
      match pickEntry free os with
      | none => none
      | some p => some ⟨p.entry, o :: p.left, true⟩

/-- R43: the counter's value, or the next one up that no tracker entry holds. -/
def freeTag (tracker : List TrackEntry) : Nat → Half → Half
  | 0, t => t
  | fuel + 1, t => if tracker.any fun e => e.tag == t then freeTag tracker fuel (t + 1) else t

/-- R43: the tag an own cell takes at its turn. -/
def CellProcessor.tagFor (c : CellProcessor) (o : OwnCell) : Half :=
  match o.echo with
  | some t => t
  | none => freeTag c.tracker 33 c.tagCounter

/-- R43, R44: the counter and the tracker after an own cell's turn. -/
def CellProcessor.track (c : CellProcessor) (o : OwnCell) : CellProcessor :=
  let tag := c.tagFor o
  let counted : CellProcessor := if o.echo.isSome then c else { c with tagCounter := tag + 1 }
  match o.kind.tracked with
  | none => counted
  | some owner =>
    { counted with
      tracker := counted.tracker ++ [{ tag := tag, kind := o.kind, dest := o.dest, owner := owner, ref := o.ref, timer := 50 }] }

/-- R39, R42 to R44, R48: an own cell takes its turn: sent while port B is UP, discarded there otherwise. -/
def State.sendOwn (s : State) (o : OwnCell) : State :=
  let tag := s.cell.tagFor o
  let tracked := s.modCell fun c => c.track o
  let gone :=
    if s.loop.portB.state = .up then
      tracked.modCell fun c => { c with sending := .own (ownBytes s.station.toNat tag o) }
    else tracked.modCell fun c => { c with sending := .discardedOwn, ownDiscarded := bump16 c.ownDiscarded }
  if o.endsRestart then gone.warmRestart else gone

/-- R42: an entry taken from the queue, with the tracker-full count of the turn (log 14). -/
def CellProcessor.takeEntry (c : CellProcessor) (passedOver : Bool) : CellProcessor :=
  if passedOver then { c with trackerFull := bump16 c.trackerFull } else c

/-- R42: a turn of the transmit queue. Where only held tracked cells wait nothing may go, R37 gives the queue no turn, and
the tracker-full counter does not rise (DEDUCED, log 14). -/
def State.queueTurn (s : State) : State :=
  let free := decide (s.cell.tracker.length < 32)
  match pickEntry free s.cell.urgent with
  | some p => (s.modCell fun c => { c.takeEntry p.passedOver with urgent := p.left }).sendOwn p.entry
  | none =>
    match pickEntry free s.cell.normal with
    | some p =>
      (s.modCell fun c =>
          { c.takeEntry (p.passedOver || !s.cell.urgent.isEmpty) with normal := p.left }).sendOwn p.entry
    | none => s

/-- R37, R39: a passing cell takes the turn. `sent` is what then holds the link, `rest` what else changes. -/
def State.passTurn (s : State) (sent : Sending) : State :=
  if s.loop.portB.state = .up then s.modCell fun c => { c with sending := sent }
  else s.modCell fun c => { c with sending := .discardedForward, forwardDiscarded := bump16 c.forwardDiscarded }

/-- R37: the arriving cell takes the turn, cut-through; before its header is judged the link waits for it. -/
def State.arrivingTurn (s : State) (v : Arriving) : State :=
  if v.verdict.isNone then s
  else
    (s.passTurn (.passing (decide (v.place = .buffered)))).modLoop fun l =>
      { l with arriving := some { v with place := if s.loop.portB.state = .up then .leaving else .gone } }

/-- R39: the cell is passing traffic, and still arrives. -/
def Arriving.passes (v : Arriving) : Bool := !v.discard && (v.verdict == some .passed || v.verdict == some .copied)

/-- R37, R39: a turn on a free link. A passing cell of which nothing more leaves port B keeps its turn to its last byte, at
the pace at which it would have been sent (log 13). -/
def State.freeTurn (s : State) : State :=
  match s.cell.buffer, s.loop.arriving with
  | out :: rest, _ => (s.modCell fun c => { c with buffer := rest }).passTurn (.passed out true)
  | [], some v =>
    match v.place with
    | .arriving | .buffered => s.arrivingTurn v
    | .leaving => s.queueTurn
    | .gone => if v.passes then s.modCell fun c => { c with sending := .discardedForward } else s.queueTurn
  | [], none => s.queueTurn

/-- R37: port B's turn: what it was sending is finished, unless that is still arriving (log 13). -/
def State.portBTurn (s : State) : State :=
  match s.cell.sending with
  | .passing _ => s
  | .idle | .own _ | .passed _ _ | .discardedOwn | .discardedForward =>
    (s.modCell fun c => { c with sending := .idle }).freeTurn

/-! ## A cell begins (R16, R37, R38) -/

/-- R37: where a cell that begins now stands: behind an own cell or a buffered one it enters the elastic buffer. -/
def CellProcessor.placeNow (c : CellProcessor) : Place :=
  if !c.buffer.isEmpty then .buffered
  else
    match c.sending with
    | .own _ | .discardedOwn | .passing true | .passed _ true => .buffered
    | .idle | .passing false | .passed _ false | .discardedForward => .arriving

/-- R38: the elastic buffer never holds a third cell: port B's turn has long come when two wait (log 13). -/
def State.makeRoom (s : State) : State := if 2 ≤ s.cell.buffer.length then s.portBTurn else s

/-- R16: a START at port A. -/
def State.beginCell (s : State) : State :=
  if s.loop.portA.state = .up then
    let t := s.makeRoom
    t.modLoop fun l => { l with gapError := false, arriving := some { place := t.cell.placeNow } }
  else
    (s.modLoop fun l =>
        { l with
          gapError := false, discardedDown := bump16 l.discardedDown, arriving := some { discard := true } }).modPort .a
      fun v => { v with state := if v.state = .down then .hailing else v.state }

/-- R16, R18: START at port A and the data positions after it; the START ends a cell cut short, which may drop the
link first. -/
def State.cellBegins (s : State) (head : List Sym) : State :=
  if s.loop.portA.notices then
    let t := (s.heard .a).framing
    if t.loop.portA.notices then head.foldl State.dataIn t.beginCell else t
  else s

/-- R24: the rest of the arriving cell. -/
def State.cellContinues (s : State) (rest : List Sym) : State := rest.foldl State.dataIn s

end Sys2Proof.Machine
end

