-- ==== Sys2Proof/Machine/Timebase.lean ====
section
/-! DEFINITION. The Site Timebase (R12, R13): one 1 ms tick with every timer of Table 1-4. It is what a step does while no
command waits (log 5); timers that expire at one tick are taken in the order of log 6. -/

namespace Sys2Proof.Machine

/-- R13: a running timer after one tick of its kind, and whether it expires: `none` where it does not run. -/
def ticked (t : Option Nat) : Option Nat := t.map fun n => n - 1

/-- R13: the tick brings the timer to 0. -/
def expires (t : Option Nat) : Bool :=
  match t with
  | some n => decide (n ≤ 1)
  | none => false

/-! ## 1 ms -/

/-- R17: a loss timer is loaded, or expires. -/
def State.lossTick (s : State) (p : PortId) : State :=
  if (s.port p).held ∨ (s.port p).state = .down then s
  else if (s.port p).lossTimer then s.lossOfSignal p
  else s.modPort p fun v => { v with lossTimer := true }

/-- R19: a quiet timer falls, or ends. -/
def State.quietTick (s : State) (p : PortId) : State :=
  if expires (s.port p).quiet then s.quietEnds p else s.modPort p fun v => { v with quiet := ticked v.quiet }

/-- R46: the tracker's timers fall; those at 0 settle LOST in the order the entries were made. -/
def State.trackerTick (s : State) : State :=
  let due := (s.cell.tracker.filter fun e => decide (e.timer ≤ 1)).map fun e => e.tag
  let fallen := s.modCell fun c => { c with tracker := c.tracker.map fun e => { e with timer := e.timer - 1 } }
  due.foldl State.returnExpires fallen

/-- What every 1 ms tick does. -/
def State.msTick (s : State) : State :=
  (((((s.lossTick .a).lossTick .b).quietTick .a).quietTick .b)).trackerTick

/-! ## 10 ms -/

/-- R55, R67: what a 10 ms tick does for every screen: the screens by rising number, each one's clock and rest before the
next one's (DESIGN CHOICE, log 51). -/
def State.tensTick (s : State) : State := allScreens.foldl State.tenMsTick s

/-! ## 1 s -/

/-- R56: the sky age timer. -/
def State.skyTick (s : State) : State :=
  if expires s.seqr.skyTimer then s.skyExpires else s.modSeqr fun q => { q with skyTimer := ticked q.skyTimer }

/-- R73: a sound-lost delay. -/
def State.lostTick (s : State) (c : ScreenId) : State :=
  if expires s.sound.inputs[c].lostDelay then s.lostDelayExpires c
  else s.modInput c fun i => { i with lostDelay := ticked i.lostDelay }

/-- R88: a transmitter silence timer. -/
def State.txTick (s : State) (c : ScreenId) : State :=
  if expires s.sound.transmitters[c].silenceTimer then s.txSilent c
  else s.modTransmitter c fun t => { t with silenceTimer := ticked t.silenceTimer }

/-- R120: a pass timer. -/
def State.passTick (s : State) (l : LaneId) : State :=
  match s.gate.lanes[l].pending with
  | none => s
  | some p =>
    if p.passTimer ≤ 1 then s.passExpires l
    else s.modLane l fun n => { n with pending := some { p with passTimer := p.passTimer - 1 } }

/-- R116: a lane silence timer. -/
def State.laneTick (s : State) (l : LaneId) : State :=
  if expires s.gate.lanes[l].silenceTimer then s.silenceExpires l
  else s.modLane l fun n => { n with silenceTimer := ticked n.silenceTimer }

/-- What a 1 s tick does. -/
def State.secondTick (s : State) : State :=
  let sound := allScreens.foldl State.txTick (allScreens.foldl State.lostTick s.windowEnds.skyTick)
  allLanes.foldl State.laneTick (allLanes.foldl State.passTick sound)

/-! ## 1 min -/

/-- R145: the late timer of one ticket. -/
def State.lateTick (s : State) (t : TicketId) : State :=
  match s.router.tickets[t] with
  | none => s
  | some v =>
    if v.state = .sent ∧ expires v.lateTimer then s.lateExpires t
    else s.modTicket t fun v => { v with lateTimer := ticked v.lateTimer }

/-- R143, R144: the recall countdown of one order, which counts while it runs. -/
def State.recallTick (s : State) (number : Nat) : State :=
  match s.order? number with
  | none => s
  | some o =>
    if o.recallRuns then
      if expires o.recallLeft then s.recallExpires number
      else s.modOrder number fun v => { v with recallLeft := ticked v.recallLeft }
    else s

/-- What a 1 min tick does. -/
def State.minuteTick (s : State) : State :=
  let late := (List.finRange 256).foldl State.lateTick s
  (s.router.orders.map fun o => o.number).foldl State.recallTick late

/-! ## The tick -/

/-- The coarsest tick that a 1 ms tick also is (R12). -/
inductive TickKind
  | ms | tens | second | minute
  deriving DecidableEq, Repr

/-- R12: which tick the next 1 ms tick is. -/
def Timebase.kind (t : Timebase) : TickKind :=
  if t.ms < 9 then .ms else if t.tens < 99 then .tens else if t.secs < 59 then .second else .minute

/-- R12: the counters after the next 1 ms tick. -/
def Timebase.next (t : Timebase) : Timebase :=
  match t.kind with
  | .ms => { t with ms := t.ms + 1 }
  | .tens => { t with ms := 0, tens := t.tens + 1 }
  | .second => { ms := 0, tens := 0, secs := t.secs + 1 }
  | .minute => { ms := 0, tens := 0, secs := 0 }

/-- R12, R13: one 1 ms tick. -/
def State.tick (s : State) : State :=
  let ms := ({ s with time := s.time.next } : State).msTick
  match s.time.kind with
  | .ms => ms
  | .tens => ms.tensTick
  | .second => ms.tensTick.secondTick
  | .minute => ms.tensTick.secondTick.minuteTick

end Sys2Proof.Machine
end

