-- ==== Sys2Proof/Machine/Link.lean ====
section
/-! DEFINITION. The commands of the loop ports and the Cell Processor (02, 03) and the cold reset. One meaning a command; `exec` calls each once. -/

namespace Sys2Proof.Machine

/-- R162: a cold reset that ends with `strap` on STN0..STN6. -/
def execColdReset (strap : BitVec 7) (s : State) : Host.Outcome State Fault Refusal :=
  .next ({ State.cold strap with pending := s.pending })

/-- R16. -/
def execHailReceived (port : PortId) (s : State) : Host.Outcome State Fault Refusal :=
  .next (s.maintenance port State.hail)

/-- R16. -/
def execHailAckReceived (port : PortId) (s : State) : Host.Outcome State Fault Refusal :=
  .next (s.maintenance port State.hailAck)

/-- R16. -/
def execIdleReceived (port : PortId) (s : State) : Host.Outcome State Fault Refusal :=
  .next (s.maintenance port State.idle)

/-- R18: a code that is no symbol; on port B also START or data. -/
def execSymbolErrorReceived (port : PortId) (s : State) : Host.Outcome State Fault Refusal :=
  .next (s.symbolError port)

/-- R17. -/
def execLossOfSignal (port : PortId) (s : State) : Host.Outcome State Fault Refusal :=
  .next (s.lossOfSignal port)

/-- R19. -/
def execQuietPeriodEnd (port : PortId) (s : State) : Host.Outcome State Fault Refusal :=
  .next (s.quietEnds port)

/-- R19. -/
def execLineErrorWindowEnd (s : State) : Host.Outcome State Fault Refusal :=
  .next (s.windowEnds)

/-- R28: START and the cell's first data positions, the eight of the header and any that follow at once. -/
def execCellHeaderArrives (head : List Sym) (s : State) : Host.Outcome State Fault Refusal :=
  .next (s.cellBegins head)

/-- R24: the remaining data positions of the cell. -/
def execCellTailArrives (rest : List Sym) (s : State) : Host.Outcome State Fault Refusal :=
  .next (s.cellContinues rest)

/-- R37. -/
def execPortBTurn (s : State) : Host.Outcome State Fault Refusal :=
  .next (s.portBTurn)

/-- R46: the timer of the tracker entry with this tag. -/
def execReturnTimeout (tag : Half) (s : State) : Host.Outcome State Fault Refusal :=
  .next (s.returnExpires tag)

/-- R16. -/
def execDataSymbolOutsideCell (s : State) : Host.Outcome State Fault Refusal :=
  .next (s.strayData)

end Sys2Proof.Machine
end

