-- ==== Sys2Proof/Machine/Show.lean ====
section
/-! DEFINITION. The commands of the Show Sequencer (04). One meaning a command; `exec` calls each once. -/

namespace Sys2Proof.Machine

/-- R66. -/
def execPanelKey (source screen key : Byte) (s : State) : Host.Outcome State Fault Refusal :=
  .next ((s.cellSeen source).takePanelKey source screen key)

/-- R67. The screens take the tick by rising number (DESIGN CHOICE, log 51). -/
def execShowClockTick (s : State) : Host.Outcome State Fault Refusal :=
  .next (allScreens.foldl State.timebaseClock s)

/-- R67. -/
def execProgrammeClockTick (screen : ScreenId) (s : State) : Host.Outcome State Fault Refusal :=
  .next (s.programmeClock screen)

/-- R55. -/
def execRestEnd (screen : ScreenId) (s : State) : Host.Outcome State Fault Refusal :=
  .next (s.endRest screen)

/-- R56. -/
def execSkyReport (source : Byte) (lux : Half) (s : State) : Host.Outcome State Fault Refusal :=
  .next ((s.cellSeen source).takeSkyReport lux)

/-- R56. -/
def execSkyAgeExpiry (s : State) : Host.Outcome State Fault Refusal :=
  .next (s.skyExpires)

/-- R69. -/
def execProjState (source state : Byte) (s : State) : Host.Outcome State Fault Refusal :=
  .next ((s.cellSeen source).takeProjState source state)

end Sys2Proof.Machine
end

