-- ==== Sys2Proof/Machine/Writes.lean ====
section
/-! DEFINITION. The commands that write or read a management table (09 section 9.3). One meaning a command; `exec` calls each once. -/

namespace Sys2Proof.Machine

/-- R154: table code, index and entry bytes as the cell carries them. -/
def execMgmtWrite (sender : Sender) (table : Byte) (index : Half) (entry : List Byte)
    (s : State) : Host.Outcome State Fault Refusal :=
  .next ((s.cellSeen sender.source).takeWrite sender table index entry)

/-- R153. -/
def execSiteWrite (sender : Sender) (index : Half) (entry : List Byte)
    (s : State) : Host.Outcome State Fault Refusal :=
  .next ((s.cellSeen sender.source).takeWrite sender 1 index entry)

/-- R4. -/
def execScreenWrite (sender : Sender) (index : Half) (entry : List Byte)
    (s : State) : Host.Outcome State Fault Refusal :=
  .next ((s.cellSeen sender.source).takeWrite sender 2 index entry)

/-- R51. -/
def execSegmentWrite (sender : Sender) (index : Half) (entry : List Byte)
    (s : State) : Host.Outcome State Fault Refusal :=
  .next ((s.cellSeen sender.source).takeWrite sender 3 index entry)

/-- R52. -/
def execCueWrite (sender : Sender) (index : Half) (entry : List Byte)
    (s : State) : Host.Outcome State Fault Refusal :=
  .next ((s.cellSeen sender.source).takeWrite sender 4 index entry)

/-- R74. -/
def execOutputWrite (sender : Sender) (index : Half) (entry : List Byte)
    (s : State) : Host.Outcome State Fault Refusal :=
  .next ((s.cellSeen sender.source).takeWrite sender 5 index entry)

/-- R94. -/
def execClipWrite (sender : Sender) (index : Half) (entry : List Byte)
    (s : State) : Host.Outcome State Fault Refusal :=
  .next ((s.cellSeen sender.source).takeWrite sender 6 index entry)

/-- R99. -/
def execPhraseWrite (sender : Sender) (index : Half) (entry : List Byte)
    (s : State) : Host.Outcome State Fault Refusal :=
  .next ((s.cellSeen sender.source).takeWrite sender 7 index entry)

/-- R110. -/
def execEventWrite (sender : Sender) (index : Half) (entry : List Byte)
    (s : State) : Host.Outcome State Fault Refusal :=
  .next ((s.cellSeen sender.source).takeWrite sender 8 index entry)

/-- R114. -/
def execLaneWrite (sender : Sender) (index : Half) (entry : List Byte)
    (s : State) : Host.Outcome State Fault Refusal :=
  .next ((s.cellSeen sender.source).takeWrite sender 9 index entry)

/-- R130. -/
def execMenuWrite (sender : Sender) (index : Half) (entry : List Byte)
    (s : State) : Host.Outcome State Fault Refusal :=
  .next ((s.cellSeen sender.source).takeWrite sender 10 index entry)

/-- R132. -/
def execStationWrite (sender : Sender) (index : Half) (entry : List Byte)
    (s : State) : Host.Outcome State Fault Refusal :=
  .next ((s.cellSeen sender.source).takeWrite sender 11 index entry)

/-- R34. -/
def execTapWrite (sender : Sender) (index : Half) (entry : List Byte)
    (s : State) : Host.Outcome State Fault Refusal :=
  .next ((s.cellSeen sender.source).takeWrite sender 12 index entry)

/-- R92, R81. -/
def execOutputStatusRead (sender : Sender) (index : Half) (s : State) : Host.Outcome State Fault Refusal :=
  .next ((s.cellSeen sender.source).takeRead sender 21 index 3)

end Sys2Proof.Machine
end

