-- ==== Sys2Proof/Machine/Dispatch.lean ====
section
/-! DEFINITION. The one match over the commands: each arm calls its meaning. -/

namespace Sys2Proof.Machine

def exec (i : Instr) (s : State) : Host.Outcome State Fault Refusal :=
  match i with
  | .coldReset strap => Sys2Proof.Machine.execColdReset strap s
  | .hailReceived port => Sys2Proof.Machine.execHailReceived port s
  | .hailAckReceived port => Sys2Proof.Machine.execHailAckReceived port s
  | .idleReceived port => Sys2Proof.Machine.execIdleReceived port s
  | .symbolErrorReceived port => Sys2Proof.Machine.execSymbolErrorReceived port s
  | .lossOfSignal port => Sys2Proof.Machine.execLossOfSignal port s
  | .quietPeriodEnd port => Sys2Proof.Machine.execQuietPeriodEnd port s
  | .lineErrorWindowEnd => Sys2Proof.Machine.execLineErrorWindowEnd s
  | .cellHeaderArrives head => Sys2Proof.Machine.execCellHeaderArrives head s
  | .cellTailArrives rest => Sys2Proof.Machine.execCellTailArrives rest s
  | .portBTurn => Sys2Proof.Machine.execPortBTurn s
  | .returnTimeout tag => Sys2Proof.Machine.execReturnTimeout tag s
  | .mgmtWrite sender table index entry => Sys2Proof.Machine.execMgmtWrite sender table index entry s
  | .siteWrite sender index entry => Sys2Proof.Machine.execSiteWrite sender index entry s
  | .screenWrite sender index entry => Sys2Proof.Machine.execScreenWrite sender index entry s
  | .segmentWrite sender index entry => Sys2Proof.Machine.execSegmentWrite sender index entry s
  | .cueWrite sender index entry => Sys2Proof.Machine.execCueWrite sender index entry s
  | .outputWrite sender index entry => Sys2Proof.Machine.execOutputWrite sender index entry s
  | .clipWrite sender index entry => Sys2Proof.Machine.execClipWrite sender index entry s
  | .phraseWrite sender index entry => Sys2Proof.Machine.execPhraseWrite sender index entry s
  | .eventWrite sender index entry => Sys2Proof.Machine.execEventWrite sender index entry s
  | .laneWrite sender index entry => Sys2Proof.Machine.execLaneWrite sender index entry s
  | .menuWrite sender index entry => Sys2Proof.Machine.execMenuWrite sender index entry s
  | .stationWrite sender index entry => Sys2Proof.Machine.execStationWrite sender index entry s
  | .tapWrite sender index entry => Sys2Proof.Machine.execTapWrite sender index entry s
  | .outputStatusRead sender index => Sys2Proof.Machine.execOutputStatusRead sender index s
  | .start sender screen => Sys2Proof.Machine.execStart sender screen s
  | .go sender screen => Sys2Proof.Machine.execGo sender screen s
  | .hold sender screen => Sys2Proof.Machine.execHold sender screen s
  | .abort sender screen => Sys2Proof.Machine.execAbort sender screen s
  | .rehearse sender screen setting => Sys2Proof.Machine.execRehearse sender screen setting s
  | .panelKey source screen key => Sys2Proof.Machine.execPanelKey source screen key s
  | .clipSeal sender clip => Sys2Proof.Machine.execClipSeal sender clip s
  | .clipDelete sender clip => Sys2Proof.Machine.execClipDelete sender clip s
  | .announce sender phrase mask priority mode number => Sys2Proof.Machine.execAnnounce sender phrase mask priority mode number s
  | .setCount sender screen count tall => Sys2Proof.Machine.execSetCount sender screen count tall s
  | .setAdmission sender screen state => Sys2Proof.Machine.execSetAdmission sender screen state s
  | .setOrdering sender screen state => Sys2Proof.Machine.execSetOrdering sender screen state s
  | .cancelOrder sender number => Sys2Proof.Machine.execCancelOrder sender number s
  | .clearFault sender output => Sys2Proof.Machine.execClearFault sender output s
  | .clearCounters sender => Sys2Proof.Machine.execClearCounters sender s
  | .restartWarm sender => Sys2Proof.Machine.execRestartWarm sender s
  | .clipData sender clip offset run => Sys2Proof.Machine.execClipData sender clip offset run s
  | .showClockTick => Sys2Proof.Machine.execShowClockTick s
  | .programmeClockTick screen => Sys2Proof.Machine.execProgrammeClockTick screen s
  | .restEnd screen => Sys2Proof.Machine.execRestEnd screen s
  | .skyReport source lux => Sys2Proof.Machine.execSkyReport source lux s
  | .skyAgeExpiry => Sys2Proof.Machine.execSkyAgeExpiry s
  | .projState source state => Sys2Proof.Machine.execProjState source state s
  | .programmeFrame input leftClocks rightClocks gapNs frame => Sys2Proof.Machine.execProgrammeFrame input leftClocks rightClocks gapNs frame s
  | .frameMissed input => Sys2Proof.Machine.execFrameMissed input s
  | .soundLostDelayExpiry input => Sys2Proof.Machine.execSoundLostDelayExpiry input s
  | .samplePeriod => Sys2Proof.Machine.execSamplePeriod s
  | .slewStep line => Sys2Proof.Machine.execSlewStep line s
  | .levelBlockEnd output => Sys2Proof.Machine.execLevelBlockEnd output s
  | .txStatus source carrier flags => Sys2Proof.Machine.execTxStatus source carrier flags s
  | .txSilenceExpiry output => Sys2Proof.Machine.execTxSilenceExpiry output s
  | .fillCompletion => Sys2Proof.Machine.execFillCompletion s
  | .entryStart output => Sys2Proof.Machine.execEntryStart output s
  | .entryEnd output => Sys2Proof.Machine.execEntryEnd output s
  | .admitAsk sender screen vehicle => Sys2Proof.Machine.execAdmitAsk sender screen vehicle s
  | .laneBeat source => Sys2Proof.Machine.execLaneBeat source s
  | .entered source vehicle => Sys2Proof.Machine.execEntered source vehicle s
  | .backedOut source vehicle => Sys2Proof.Machine.execBackedOut source vehicle s
  | .exited source vehicle => Sys2Proof.Machine.execExited source vehicle s
  | .passTimeout lane => Sys2Proof.Machine.execPassTimeout lane s
  | .laneSilenceExpiry lane => Sys2Proof.Machine.execLaneSilenceExpiry lane s
  | .orderPlace sender screen lines => Sys2Proof.Machine.execOrderPlace sender screen lines s
  | .stationBeat source => Sys2Proof.Machine.execStationBeat source s
  | .bump source number kitchen => Sys2Proof.Machine.execBump source number kitchen s
  | .recallExpiry number => Sys2Proof.Machine.execRecallExpiry number s
  | .lateTimerExpiry number kitchen => Sys2Proof.Machine.execLateTimerExpiry number kitchen s
  | .pickup source number => Sys2Proof.Machine.execPickup source number s
  | .dataSymbolOutsideCell => Sys2Proof.Machine.execDataSymbolOutsideCell s

end Sys2Proof.Machine
end

