-- ==== Sys2Proof/Safety.lean ====
section
/-! DEFINITION. The words that claims about the part use: what a safe state is, what an effect on one block leaves as it is
in the others, and what an answered management cell leaves. -/

namespace Sys2Proof.Machine

/-! ## What every step keeps -/

/-- 01, note after R11, with R5, R7, R127, R150 and Table 1-1: a disabled screen is IDLE, an IDLE screen is DARK, a DARK
screen's admission and ordering are CLOSED, and a hold reason is present exactly in HELD. -/
structure Screen.coherent (c : Screen) : Prop where
  disabledIdle : c.config.enabled = false → c.seq.state = .idle
  idleDark : c.seq.state = .idle → c.seq.shown = .dark
  darkClosed : c.seq.shown = .dark → c.field.admission = .closed ∧ c.ordering = .closed
  heldReason : c.seq.holdReason.isSome ↔ c.seq.state = .held

/-- Every screen record is coherent. -/
def State.screensCoherent (s : State) : Prop := ∀ c : ScreenId, s.screens[c].coherent

/-- R40, R41: the transmit queue holds at most 16 entries. -/
def CellProcessor.queueFits (c : CellProcessor) : Prop := c.queued ≤ 16

/-- R43, R44: the return tracker holds at most 32 entries, no two with one tag. -/
def CellProcessor.trackerFits (c : CellProcessor) : Prop :=
  c.tracker.length ≤ 32 ∧ c.tracker.Pairwise fun e f => e.tag ≠ f.tag

/-- R93, R76: clip memory and the delay lines are in their canonical form. -/
def State.storesFit (s : State) : Prop :=
  Memory.wf 0 s.ann.memory ∧ ∀ c : ScreenId, Memory.wf zeroFrame s.sound.lines[c].frames

/-- R103: a queue holds at most 8 entries, and its waiting ones stand in descending priority. -/
def AnnQueue.fits (q : AnnQueue) : Prop := q.size ≤ 8 ∧ q.waiting.Pairwise fun d e => e.priority ≤ d.priority

/-- R103: every announcement queue fits. -/
def Composer.queuesFit (a : Composer) : Prop := ∀ o : OutputId, a.queues[o].fits

/-- The lanes whose pending admission names a screen. -/
def State.lanesPending (s : State) (c : ScreenId) : List LaneId :=
  allLanes.filter fun l =>
    match s.gate.lanes[l].pending with
    | some p => decide (p.screen = c)
    | none => false

/-- Those of them whose vehicle is TALL. -/
def State.lanesTallPending (s : State) (c : ScreenId) : List LaneId :=
  allLanes.filter fun l =>
    match s.gate.lanes[l].pending with
    | some p => decide (p.screen = c) && decide (p.vehicle = .tall)
    | none => false

/-- R113: each screen's P and Pt count the lanes whose pending admission names it. -/
def State.pendingCounted (s : State) : Prop :=
  ∀ c : ScreenId,
    s.screens[c].field.pending = (s.lanesPending c).length ∧
      s.screens[c].field.tallPending = (s.lanesTallPending c).length

/-- Table 3-2, R43: a queued cell of a tracked kind carries no tag of another cell, so that it takes one from the counter. -/
def CellProcessor.tagsFit (c : CellProcessor) : Prop :=
  ∀ o ∈ c.urgent ++ c.normal, o.kind.tracked.isSome → o.echo = none

/-- Table 1-1: O stays within 4095 and Ot within O. -/
def State.countsFit (s : State) : Prop :=
  ∀ c : ScreenId, s.screens[c].field.occupancy ≤ 4095 ∧ s.screens[c].field.tall ≤ s.screens[c].field.occupancy

/-- Every store, queue, tracker and count is within its bounds. -/
structure State.fits (s : State) : Prop where
  stores : s.storesFit
  queue : s.cell.queueFits
  tracker : s.cell.trackerFits
  tags : s.cell.tagsFit
  announcements : s.ann.queuesFit
  pending : s.pendingCounted
  counts : s.countsFit

/-- R4: the marks of a screen are in order, or their window is off. -/
def ScreenConfig.marksStand (g : ScreenConfig) : Prop := g.low < g.high ∨ (g.high = 0 ∧ g.low = 0)

/-- R4, R12, R18, R19, R51, R75, R76, R94, R151: the tick counters, the window counts and their limit, the marks, the
segments, the delay lines and their targets, the clips' regions and the next order number are in their ranges. -/
structure State.inRange (s : State) : Prop where
  ticks : s.time.ms ≤ 9 ∧ s.time.tens ≤ 99 ∧ s.time.secs ≤ 59
  errorLimit : s.mgmt.site.errorLimit ≤ 255
  windows : ∀ p : PortId, (s.port p).window ≤ 254
  marks : ∀ c : ScreenId, s.screens[c].config.marksStand
  segments : ∀ c : ScreenId, s.screens[c].seq.segBase + s.screens[c].seq.segLimit ≤ 256
  lines : ∀ c : ScreenId, s.sound.lines[c].write ≤ 9599 ∧ s.sound.lines[c].read ≤ 9599
  delays : ∀ o : OutputId, s.sound.config[o].delayTarget ≤ 9599
  clips : ∀ k : ClipId, s.ann.clips[k].start + s.ann.clips[k].length ≤ 8388608
  nextNumber : 1 ≤ s.router.nextNumber ∧ s.router.nextNumber ≤ 999

/-! ## What stays -/

/-- Composer `b` is `a` but for its queues, their joins, the uses of its clips and its counters; queues that fit still
do. -/
structure ComposerKept (a b : Composer) : Prop where
  rest : b =
    { a with
      clips := b.clips, queues := b.queues, joins := b.joins, skippedItems := b.skippedItems
      emptyRenders := b.emptyRenders, discards := b.discards, preemptions := b.preemptions, suppressed := b.suppressed }
  clips : ∀ c : ClipId, b.clips[c] = { a.clips[c] with uses := b.clips[c].uses }
  fits : a.queuesFit → b.queuesFit

/-- Cell Processor `d` is `c` but for its transmit queue and the queue-drop counters; a queue that fits still does. -/
structure CellKept (c d : CellProcessor) : Prop where
  rest : d = { c with urgent := d.urgent, normal := d.normal, queueDrops := d.queueDrops }
  fits : c.queueFits → d.queueFits

/-- Order Router `r'` is `r` but for its tickets, the work of its kitchen stations, the call activity of its orders and
the counters of its traffic. -/
structure RouterKept (r r' : Router) : Prop where
  rest : r' =
    { r with
      kitchens := r'.kitchens, orders := r'.orders, tickets := r'.tickets, serials := r'.serials
      replyDropped := r'.replyDropped, ticketFailures := r'.ticketFailures, staleOutcomes := r'.staleOutcomes
      boardDropped := r'.boardDropped, unansweredVoids := r'.unansweredVoids }
  kitchens : ∀ k : KitchenId,
    r'.kitchens[k] =
      { r.kitchens[k] with
        state := r'.kitchens[k].state, sent := r'.kitchens[k].sent, failRun := r'.kitchens[k].failRun
        backlog := r'.kitchens[k].backlog }
  orders : (r'.orders.map fun o => { o with callActive := false }) = r.orders.map fun o => { o with callActive := false }

/-- What sending cells, raising events, announcing, and dispatching tickets leave as it is. -/
structure Kept (s t : State) : Prop where
  pending : t.pending = s.pending
  station : t.station = s.station
  time : t.time = s.time
  loop : t.loop = s.loop
  seqr : t.seqr = s.seqr
  sound : t.sound = s.sound
  gate : t.gate = s.gate
  screens : ∀ c : ScreenId, t.screens[c] = { s.screens[c] with heldCalls := t.screens[c].heldCalls }
  mgmt : t.mgmt = { s.mgmt with notices := t.mgmt.notices }
  cell : CellKept s.cell t.cell
  ann : ComposerKept s.ann t.ann
  router : RouterKept s.router t.router

/-! ## Cells -/

/-- R35: a tap entry matches a header's destination, source and kind. -/
structure TapEntry.selects (t : TapEntry) (dest source kind : Byte) : Prop where
  valid : t.valid = true
  kind : t.kindAny = true ∨ t.kind = kind.toNat
  source : t.sourceLow ≤ source.toNat ∧ source.toNat ≤ t.sourceHigh
  dest : t.destAny = true ∨ t.dest = dest.toNat

/-! ## Management cells -/

/-- A cell's source is the station of no lane and of no kitchen station, so that its delivery alone changes nothing
(R115, R133). -/
structure State.stranger (s : State) (source : Byte) : Prop where
  noLane : ∀ l : LaneId, s.gate.lanes[l].station ≠ source.toNat
  noKitchen : ∀ k : KitchenId, s.router.kitchens[k].loopStation ≠ source.toNat

/-- The transmit queue has room for `n` cells (R41). -/
def State.hasRoom (s : State) (n : Nat) : Prop := s.cell.urgent.length + s.cell.normal.length + n ≤ 16

/-- The part is free to act on a management cell of its console: no restart is under way, the console's station is no
lane and no kitchen station, and the transmit queue has room for `n` cells. -/
structure State.readyFor (s : State) (n : Nat) (m : Sender) : Prop where
  console : m.source.toNat = s.mgmt.site.console
  noRestart : s.mgmt.restart = false
  stranger : s.stranger m.source
  room : s.hasRoom n

/-- The MGMT_REPLY of a payload (R155). -/
def mgmtReplyTo (m : Sender) (payload : List Byte) : OwnCell :=
  { kind := .mgmtReply, dest := m.source.toNat, payload := payload, echo := some m.tag }

/-- `s` with one management cell counted and its MGMT_REPLY at the back of the URGENT class (R155, R159). -/
def State.answered (s : State) (m : Sender) (payload : List Byte) : State :=
  { s with
    freeCount := s.freeCount + 1
    mgmt := { s.mgmt with taken := bump16 s.mgmt.taken }
    cell := { s.cell with urgent := s.cell.urgent ++ [mgmtReplyTo m payload] } }

/-- `s` with one management cell counted and refused, and the MGMT_REPLY at the back of the URGENT class (R155, R159);
nothing else is changed (R154). -/
def State.turnedAway (s : State) (m : Sender) (payload : List Byte) : State :=
  { s with
    freeCount := s.freeCount + 1
    mgmt := { s.mgmt with taken := bump16 s.mgmt.taken, refusals := bump16 s.mgmt.refusals }
    cell := { s.cell with urgent := s.cell.urgent ++ [mgmtReplyTo m payload] } }

/-- The payload of a reply to a write: reply code, table code, index (09 section 9.7; DONE 0, RANGE 1, OVERLAP 2,
IN_USE 3, STATE 4, BUSY 5, NOT_CONSOLE 6, UNKNOWN 7). -/
def writeReply (code table : Nat) (index : Half) : List Byte := le8 code ++ le8 table ++ le16 index.toNat

/-- The payload of a reply to a command; no rule gives its index bytes a value (log 22), so claims hold for any. -/
def commandReply (code command : Nat) (low high : Byte) : List Byte := le8 code ++ le8 command ++ [low, high]

/-- The number of two bytes, least significant first (09 section 9.7). -/
def twoBytes (low high : Byte) : Nat := low.toNat + 256 * high.toNat

/-- The number of three bytes, least significant first. -/
def threeBytes (low mid high : Byte) : Nat := low.toNat + 256 * mid.toNat + 65536 * high.toNat

/-- A byte read as yes / no where its rule refuses no code: 1 is yes, 0 is no, and another code is either (log 21). -/
def readsAs (b : Byte) (flag : Bool) : Prop := (b = 0 → flag = false) ∧ (b = 1 → flag = true)

/-- A management cell's sender and the table or command code that its reply echoes (R155). -/
def managementCell : Instr → Option (Sender × Byte)
  | .mgmtWrite m table _ _ => some (m, table)
  | .siteWrite m _ _ => some (m, 1)
  | .screenWrite m _ _ => some (m, 2)
  | .segmentWrite m _ _ => some (m, 3)
  | .cueWrite m _ _ => some (m, 4)
  | .outputWrite m _ _ => some (m, 5)
  | .clipWrite m _ _ => some (m, 6)
  | .phraseWrite m _ _ => some (m, 7)
  | .eventWrite m _ _ => some (m, 8)
  | .laneWrite m _ _ => some (m, 9)
  | .menuWrite m _ _ => some (m, 10)
  | .stationWrite m _ _ => some (m, 11)
  | .tapWrite m _ _ => some (m, 12)
  | .outputStatusRead m _ => some (m, 21)
  | .start m _ => some (m, 1)
  | .go m _ => some (m, 2)
  | .hold m _ => some (m, 3)
  | .abort m _ => some (m, 4)
  | .rehearse m _ _ => some (m, 5)
  | .clipSeal m _ => some (m, 10)
  | .clipDelete m _ => some (m, 11)
  | .announce m _ _ _ _ _ => some (m, 12)
  | .setCount m _ _ _ => some (m, 20)
  | .setAdmission m _ _ => some (m, 21)
  | .setOrdering m _ _ => some (m, 22)
  | .cancelOrder m _ => some (m, 23)
  | .clearFault m _ => some (m, 30)
  | .clearCounters m => some (m, 40)
  | .restartWarm m => some (m, 41)
  | .clipData m _ _ _ => some (m, 6)
  | .coldReset _ | .hailReceived _ | .hailAckReceived _ | .idleReceived _ | .symbolErrorReceived _
  | .lossOfSignal _ | .quietPeriodEnd _ | .lineErrorWindowEnd | .cellHeaderArrives _ | .cellTailArrives _
  | .portBTurn | .returnTimeout _ | .panelKey _ _ _ | .showClockTick | .programmeClockTick _ | .restEnd _
  | .skyReport _ _ | .skyAgeExpiry | .projState _ _ | .programmeFrame _ _ _ _ _ | .frameMissed _
  | .soundLostDelayExpiry _ | .samplePeriod | .slewStep _ | .levelBlockEnd _ | .txStatus _ _ _
  | .txSilenceExpiry _ | .fillCompletion | .entryStart _ | .entryEnd _ | .admitAsk _ _ _ | .laneBeat _
  | .entered _ _ | .backedOut _ _ | .exited _ _ | .passTimeout _ | .laneSilenceExpiry _ | .orderPlace _ _ _
  | .stationBeat _ | .bump _ _ _ | .recallExpiry _ | .lateTimerExpiry _ _ | .pickup _ _
  | .dataSymbolOutsideCell => none

/-! ## Show programmes -/

/-- The current cue of a screen waits for a GO that is not there. -/
structure State.waitsForGo (s : State) (c : ScreenId) : Prop where
  trigger : (s.currentCue c).trigger = .go
  noPending : s.screens[c].seq.goPending = false

/-- A screen's sequencer is RUNNING, its cue does not rest and it does not rehearse. -/
structure State.runsFreely (s : State) (c : ScreenId) : Prop where
  running : s.screens[c].seq.state = .running
  noRest : s.screens[c].seq.resting = false
  noRehearsal : s.screens[c].seq.rehearsal = false

/-! ## Stations -/

/-- A lane's station sends the cell; no other lane and no kitchen station has it (R114, R132). -/
structure State.fromLane (s : State) (source : Byte) (l : LaneId) : Prop where
  used : source ≠ 0
  lane : s.gate.lanes[l].station = source.toNat
  only : ∀ j, j ≠ l → s.gate.lanes[j].station ≠ source.toNat
  noKitchen : ∀ k : KitchenId, s.router.kitchens[k].loopStation ≠ source.toNat

/-- A kitchen station sends the cell; no other kitchen station and no lane has it. -/
structure State.fromKitchen (s : State) (source : Byte) (k : KitchenId) : Prop where
  used : source ≠ 0
  kitchen : s.router.kitchens[k].loopStation = source.toNat
  only : ∀ j, j ≠ k → s.router.kitchens[j].loopStation ≠ source.toNat
  noLane : ∀ l : LaneId, s.gate.lanes[l].station ≠ source.toNat

/-- R115: a lane after a cell of its station: ACTIVE, its silence timer loaded. -/
def Lane.heard (n : Lane) : Lane :=
  { n with state := .active, silenceTimer := if n.silenceLimit = 0 then none else some n.silenceLimit }

/-! ## Tickets -/

/-- R139, 09 section 9.7: the TICKET cell of ticket `x` as station `k` is sent it next. -/
def State.nextTicket (s : State) (k : KitchenId) (x : TicketId) (v : Ticket) : OwnCell :=
  { kind := .ticket, dest := s.router.kitchens[k].loopStation, ref := .ticket x (s.router.serials[x] + 1)
    payload := le16 v.order ++
      le8 (match s.order? v.order with
        | some o => screenNumber o.screen
        | none => 0) ++
      le8 (k.val + 1) ++ flagByte v.rush ++ le8 v.lines.length ++ lineBytes v.lines }

/-- R138: a dispatch tried for station `k` sends nothing. -/
def State.sendsNone (s : State) (k : KitchenId) : Prop :=
  let station := s.router.kitchens[k]
  station.backlog = [] ∨ station.state ≠ .present ∨ station.limit ≤ station.sent

/-- R138: a dispatch tried for station `k` sends ticket `x` at the head of its backlog, and no other. -/
structure State.sendsOne (s : State) (k : KitchenId) (x : TicketId) (v : Ticket) : Prop where
  present : s.router.kitchens[k].state = .present
  room : s.router.kitchens[k].sent < s.router.kitchens[k].limit
  backlog : ∃ rest, s.router.kitchens[k].backlog = x :: rest ∧
    (rest = [] ∨ s.router.kitchens[k].limit ≤ s.router.kitchens[k].sent + 1)
  ticket : s.router.tickets[x] = some v
  kitchen : v.kitchen = k

/-- R138, R139: `s` with ticket `x` at the head of station `k`'s backlog sent. -/
def State.withSent (s : State) (k : KitchenId) (x : TicketId) (v : Ticket) : State :=
  let station := s.router.kitchens[k]
  { s with
    router :=
      { s.router with
        kitchens := s.router.kitchens.set k { station with sent := station.sent + 1, backlog := station.backlog.tail }
        tickets := s.router.tickets.set x
          (some { v with state := .sent, attempts := 0, returned := false, lateTimer := some station.lateLimit })
        serials := s.router.serials.set x (s.router.serials[x] + 1) }
    cell := { s.cell with normal := s.cell.normal ++ [s.nextTicket k x v] } }

/-! ## Calls -/

/-- An output's queue holds no entry. -/
def AnnQueue.empty (q : AnnQueue) : Prop := q.playing = none ∧ q.waiting = []

/-- R98, R101 to R103: the Composer with the call of an order, of the one clip `k`, alone in an output's empty queue. The
join number comes from the counter of all queues (log 30). -/
def Composer.withCall (a : Composer) (k : ClipId) (number : Nat) (o : OutputId) : Composer :=
  { a with
    clips := a.clips.set k { a.clips[k] with uses := a.clips[k].uses + 1 }
    queues := a.queues.set o
      { playing := none
        waiting :=
          [{ origin := .orderCall, priority := 1, mode := .over, items := [.clip k], order := some number, next := 0
             offset := 0, join := a.joins }] }
    joins := a.joins + 1 }

/-- R102, R107, R109, R142: from `s` to `t` the Composer takes the ORDER_CALL request of order `o`, here for a call phrase
of one READY clip and empty queues. A walk-up's call goes to the PA. A screen's call is suppressed while it is held, held
in a FEATURE that holds calls, and else placed on the screen's output; the PA has it too where the PA-call flag is on.
The call is then active. -/
def State.called (s t : State) (o : Order) (active : Bool) : Prop :=
  ∀ k : ClipId, s.ann.phrases[s.mgmt.site.callPhrase] = [.clip k] → s.ann.clips[k].state = .ready →
    s.ann.clips[k].uses < 254 →
    (o.screen = none → s.ann.queues[(4 : OutputId)].empty →
      active = true ∧ t.screens = s.screens ∧ t.ann = s.ann.withCall k o.number 4) ∧
    (∀ c : ScreenId, o.screen = some c → s.ann.queues[outputOf c].empty →
      (s.mgmt.site.paCall = true → s.ann.queues[(4 : OutputId)].empty) →
      let v := s.screens[c]
      let withPa (a : Composer) : Composer := if s.mgmt.site.paCall = true then a.withCall k o.number 4 else a
      let holds := v.config.callPolicy = .holdInFeature ∧ v.seq.shown = .feature
      active = true ∧
      (o.number ∈ v.heldCalls → t.screens = s.screens ∧
        t.ann = withPa
          { s.ann with suppressed :=
              s.ann.suppressed.set (outputOf c) (min (s.ann.suppressed[outputOf c] + 1) 65535) }) ∧
      (o.number ∉ v.heldCalls → holds →
        t.screens = s.screens.set c { v with heldCalls := v.heldCalls ++ [o.number] } ∧ t.ann = withPa s.ann) ∧
      (o.number ∉ v.heldCalls → ¬ holds →
        t.screens = s.screens ∧ t.ann = withPa (s.ann.withCall k o.number (outputOf c))))

/-! ## Counts and delay lines -/

/-- R124, R125: counts with their near-full and full flags judged for them: near-full by the marks, while their window is
on; full exactly while A is not above 0. -/
def FieldCounts.flagged (f : FieldCounts) (g : ScreenConfig) : FieldCounts :=
  { f with
    nearFull :=
      if g.high = 0 ∧ g.low = 0 then f.nearFull
      else if g.high ≤ f.occupancy then true
      else if f.occupancy ≤ g.low then false
      else f.nearFull
    full := decide ((g.capacity : Int) - f.occupancy - g.reserved - f.pending ≤ 0) }

/-- R76: delay line `k` is `l` with one more frame: it stands at the position after the write position, which moves there,
and the read position gives way when it is met. -/
structure DelayLine.gains (l k : DelayLine) (f : Frame) : Prop where
  write : k.write = (l.write + 1) % 9600
  read : k.read = if (l.write + 1) % 9600 = l.read then (l.read + 1) % 9600 else l.read
  phase : k.phase = l.phase
  frames : ∀ p, memRead zeroFrame k.frames p = if p = k.write then f else memRead zeroFrame l.frames p

/-! ## Notices -/

/-- An event as the console is told of it (R158, Table 9-2): its code, its subject, its snapshot value, and the show clock
that goes with it, if one does. -/
structure Told where
  code : Fin 16
  subject : Nat
  snapshot : Nat
  clock : Option Nat
  deriving DecidableEq, Repr

/-- R158, 09 section 9.7: a cell is the NOTICE of an event to the console of `s`; the clock bytes of an absent clock may
hold anything (log 22). -/
def State.isNotice (s : State) (e : Told) (o : OwnCell) : Prop :=
  ∃ b0 b1 b2 : Byte, o =
    { kind := .notice, dest := s.mgmt.site.console
      payload := le8 e.code.val ++ flagByte e.clock.isSome ++ le16 e.subject ++ le32 e.snapshot ++
        (match e.clock with
        | some n => le24 n
        | none => [b0, b1, b2]) }

/-- R110, R158: from `s` to `t` the console is told of these events, in this order: one NOTICE, at the back of the NORMAL
class and counted, for each whose entry of the event table asks for one. The transmit queue is taken to have room. -/
def State.tells (s t : State) (es : List Told) : Prop :=
  ∃ cells : List OwnCell, List.Forall₂ s.isNotice (es.filter fun e => s.ann.events[e.code].notice) cells ∧
    t.cell.normal = s.cell.normal ++ cells ∧
    t.mgmt.notices = if cells = [] then s.mgmt.notices else min (s.mgmt.notices + cells.length) 65535

/-- R124, R125, Table 9-2: the events of a screen whose field flags are not in `t` what they were in `s`, near-full before
full: FIELD_NEAR_FULL (1), FIELD_REOPEN (2), FIELD_FULL (0). -/
def State.fieldTold (s t : State) (c : ScreenId) : List Told :=
  let old := s.screens[c].field
  let new := t.screens[c].field
  let told (code : Fin 16) : Told := ⟨code, c.val + 1, new.occupancy, some s.screens[c].seq.clock⟩
  (if old.nearFull = false ∧ new.nearFull = true then [told 1]
   else if old.nearFull = true ∧ new.nearFull = false then [told 2]
   else []) ++ (if old.full = false ∧ new.full = true then [told 0] else [])

/-- R116, Table 9-2: COUNT_UNCERTAIN (3) of a screen whose uncertain flag is set, if it was clear in `s`. -/
def State.uncertainTold (s : State) (c : ScreenId) : List Told :=
  if s.screens[c].field.uncertain = true then []
  else [⟨3, c.val + 1, s.screens[c].field.occupancy, some s.screens[c].seq.clock⟩]

/-! ## What stays beside the named fields -/

/-- `t` is `s` but for its traffic: the transmit queue and its counters, announcements, call activity, notices, draws and
the screen records. -/
def State.sameButTraffic (s t : State) : Prop :=
  t =
    { s with
      freeCount := t.freeCount, screens := t.screens
      cell := { s.cell with urgent := t.cell.urgent, normal := t.cell.normal, queueDrops := t.cell.queueDrops }
      ann := t.ann, router := { s.router with orders := t.router.orders }
      mgmt := { s.mgmt with taken := t.mgmt.taken, notices := t.mgmt.notices } }

end Sys2Proof.Machine
end

