-- ==== Sys2Proof/Certificates/Slice0/Obligations.lean ====
section
/-! DEFINITION. The statements for the provers. A statement names what it needs of the state before, and says what the
command leaves; where it gives the whole next state, everything it does not name is as it was. -/

open Sys2Proof Sys2Proof.Machine

/-! ## Running (R12; 95) -/

/-- A step runs the command at the front of the queue on the state without it. -/
def Obligations.StepRunsFrontCommand : Prop :=
  ∀ (s : State) (c : Instr) (rest : List Instr), s.pending = c :: rest → step s = exec c { s with pending := rest }

/-- Every command of the table completes in every state, and none touches the queue of waiting commands. -/
def Obligations.EveryCommandCompletes : Prop :=
  ∀ (c : Instr) (s : State), ∃ t, exec c s = .next t ∧ t.pending = s.pending

/-- R12: on an empty queue a step is one 1 ms tick (DESIGN CHOICE, log 5): the counters, in their ranges, go on by 1
ms modulo one minute and stay in their ranges. R13, Table 1-4: a tick lowers each running timer of its kind by 1 and
ends one that it brings to 0. Every tick: the quiet timers, the loss timers (R17) and the return tracker (R46). A 10
ms tick: the show clocks (R67) and the rests, here with cues that wait for a GO. A 1 s tick: the windows (R19), the
sky age, the sound-lost delays, the silence timers and the pass timers. A 1 min tick: the late timers and the recall
countdowns, here with no show and no tracked cell. The order of timers that end at one tick is the model's choice
(DESIGN CHOICE, log 6). -/
def Obligations.EmptyQueueTicks : Prop :=
  ∀ s : State, s.pending = [] → s.time.ms ≤ 9 → s.time.tens ≤ 99 → s.time.secs ≤ 59 →
    ∃ t, step s = .next t ∧ t.pending = [] ∧ t.station = s.station ∧
      t.time.ms ≤ 9 ∧ t.time.tens ≤ 99 ∧ t.time.secs ≤ 59 ∧
      t.time.ms + 10 * t.time.tens + 1000 * t.time.secs =
        (s.time.ms + 10 * s.time.tens + 1000 * s.time.secs + 1) % 60000 ∧
      (∀ p : PortId,
        (∀ n, (s.port p).quiet = some n →
          (t.port p).quiet = (if n ≤ 1 then none else some (n - 1)) ∧ (n ≤ 1 → (t.port p).state = .hailing)) ∧
        ((s.port p).quiet = none → (s.port p).held = false → (s.port p).state ≠ .down →
          if (s.port p).lossTimer = true then (t.port p).state = .down ∧ (t.port p).lossTimer = false
          else (t.port p).state = (s.port p).state ∧ (t.port p).lossTimer = true)) ∧
      (s.cell.trackerFits →
        t.cell.tracker =
          (s.cell.tracker.filter fun e => decide (2 ≤ e.timer)).map fun e => { e with timer := e.timer - 1 }) ∧
      (s.time.ms = 9 → s.time.tens < 99 → (∀ c : ScreenId, s.waitsForGo c) →
        ∀ c : ScreenId, t.screens[c].seq =
          { s.screens[c].seq with
            resting := false
            clock :=
              if s.screens[c].seq.state = .running ∧ s.screens[c].config.clockSource = .timebase ∧
                  s.screens[c].seq.clock < 16777215 then s.screens[c].seq.clock + 1
              else s.screens[c].seq.clock }) ∧
      (s.time.ms = 9 → s.time.tens = 99 →
        let lowered (n : Nat) : Option Nat := if n ≤ 1 then none else some (n - 1)
        (∀ p : PortId, (t.port p).window = 0) ∧
        (∀ n, s.seqr.skyTimer = some n → t.seqr.skyTimer = lowered n ∧ (n ≤ 1 → t.seqr.lux = none)) ∧
        (∀ (c : ScreenId) (n : Nat), s.sound.inputs[c].lostDelay = some n →
          t.sound.inputs[c].lostDelay = lowered n ∧ (n ≤ 1 → t.screens[c].sound.lost = true)) ∧
        (∀ (c : ScreenId) (n : Nat), s.sound.transmitters[c].silenceTimer = some n →
          t.sound.transmitters[c].silenceTimer = lowered n) ∧
        (∀ (l : LaneId) (n : Nat), s.gate.lanes[l].silenceTimer = some n →
          t.gate.lanes[l].silenceTimer = lowered n ∧ (n ≤ 1 → t.gate.lanes[l].state = .silent)) ∧
        ∀ (l : LaneId) (q : PendingAdmission), s.gate.lanes[l].pending = some q →
          (∀ n, s.gate.lanes[l].silenceTimer = some n → 2 ≤ n) →
          t.gate.lanes[l].pending =
            if q.passTimer ≤ 1 then none else some { q with passTimer := q.passTimer - 1 }) ∧
      (s.time = ⟨9, 99, 59⟩ → s.cell.tracker = [] → (∀ c : ScreenId, s.screens[c].seq.state = .idle) →
        (∀ (x : TicketId) (v : Ticket) (n : Nat), s.router.tickets[x] = some v → v.state = .sent →
          v.lateTimer = some n → (∀ o ∈ s.router.orders, x ∈ o.tickets → o.state ≠ .ready) →
          t.router.tickets[x] = some { v with lateTimer := if n ≤ 1 then none else some (n - 1) }) ∧
        ((s.router.orders.Pairwise fun o w => o.number ≠ w.number) →
          ∀ o ∈ s.router.orders, ∀ n, o.state = .ready → o.callActive = false → o.recallLeft = some n → 2 ≤ n →
            ∃ w, t.order? o.number = some w ∧ w.state = .ready ∧ w.callCount = o.callCount ∧
              w.recallLeft = some (n - 1)))

/-! ## Cold reset (R2, R14, R90, R162) -/

/-- R2, Table 1-2: the screen records after a cold reset, and A = 0. -/
def Obligations.ColdResetScreens : Prop :=
  ∀ (strap : BitVec 7) (s : State), ∃ t, exec (.coldReset strap) s = .next t ∧ t.station = strap ∧
    ∀ c : ScreenId,
      t.screens[c].config =
        { enabled := false, clockSource := .timebase, projector := 0, holdOnFailure := false, panel := 0
          capacity := 0, reserved := 0, tallQuota := 0, high := 0, low := 0, callPolicy := .callAnytime } ∧
      t.screens[c].seq.shown = .dark ∧ t.screens[c].seq.state = .idle ∧ t.screens[c].seq.holdReason = none ∧
      t.screens[c].seq.cueIndex = 0 ∧ t.screens[c].seq.goPending = false ∧ t.screens[c].seq.rehearsal = false ∧
      t.screens[c].seq.clock = 0 ∧ t.screens[c].seq.projState = .unknown ∧
      t.screens[c].sound = { locked := false, lost := false, cut := false } ∧
      t.screens[c].field =
        { occupancy := 0, tall := 0, pending := 0, tallPending := 0, admission := .closed, nearFull := false
          full := false, uncertain := false, tailgates := 0, underflows := 0, expiries := 0 } ∧
      t.screens[c].ordering = .closed ∧ t.screens[c].heldCalls = [] ∧ t.availability c = 0

/-- R14, R162: the ports after a cold reset, HAILING for a strap in 1..120 and held in DOWN for any other, with empty
windows and no timer; the queue, the tracker and the buffer are empty, the tag counter 0, the console station 1, the
restart flag clear.
R34, R50, R90, R93, R99, R110, R113, R130, R131, R151, with Tables 3-1, 4-1, 5-1, 6-1, 7-1, 8-1, 8-2 and 9-1: every
table and every block at its cold values, every counter 0. -/
def Obligations.ColdResetPorts : Prop :=
  ∀ (strap : BitVec 7) (s : State), ∃ t, exec (.coldReset strap) s = .next t ∧
    (∀ p : PortId,
      (t.port p).window = 0 ∧ (t.port p).lossTimer = false ∧ (t.port p).quiet = none ∧
        (if 1 ≤ strap.toNat ∧ strap.toNat ≤ 120 then (t.port p).state = .hailing ∧ (t.port p).held = false
         else (t.port p).state = .down ∧ (t.port p).held = true)) ∧
    t.cell.urgent = [] ∧ t.cell.normal = [] ∧ t.cell.tracker = [] ∧ t.cell.buffer = [] ∧ t.cell.tagCounter = 0 ∧
    t.mgmt.site.console = 1 ∧ t.mgmt.restart = false ∧
    (∀ page : Fin 8, ∀ n ∈ t.counterPage page, n = 0) ∧
    (∀ i : Fin 32,
      t.cell.taps[i].valid = false ∧ t.cell.taps[i].kindAny = true ∧ t.cell.taps[i].sourceLow = 1 ∧
        t.cell.taps[i].sourceHigh = 120 ∧ t.cell.taps[i].destAny = true ∧ t.cell.taps[i].action = .pass ∧
        t.cell.taps[i].drops = 0) ∧
    (∀ c : ScreenId,
      t.screens[c].seq.segBase = 0 ∧ t.screens[c].seq.segLimit = 0 ∧ t.screens[c].seq.afterRef = 0 ∧
        t.screens[c].seq.frameCount = 0 ∧ t.screens[c].seq.resting = false ∧ t.screens[c].seq.pausedByHold = false) ∧
    (∀ i : Fin 256,
      t.seqr.cues[i].trigger = .follow ∧ t.seqr.cues[i].action = .endShow ∧ t.seqr.cues[i].label = 0 ∧
        t.seqr.loopCounters[i] = none) ∧
    t.seqr.lux = none ∧ t.seqr.skyTimer = none ∧
    (∀ o : OutputId,
      t.sound.config[o] =
          { gainTarget := 0, annGain := 0, duckLevel := 0, duckRate := 64, ceiling := 0, delayTarget := 0
            darkRemap := .mute, paSource := none, txStation := 0, tuneChannel := 1, autocut := 0
            silenceThreshold := 0, deadAirBlocks := 500, txSilenceLimit := 0 } ∧
        t.sound.outputs[o].gain = 0 ∧ t.sound.outputs[o].duck = 4096 ∧ t.sound.outputs[o].clamps = 0 ∧
        t.sound.outputs[o].clipped = false ∧ t.sound.outputs[o].blockPos = 0 ∧ t.sound.outputs[o].peak = 0 ∧
        t.sound.outputs[o].silentRun = 0 ∧ t.sound.outputs[o].deadAir = false) ∧
    (∀ c : ScreenId,
      t.sound.transmitters[c].sticky = 0 ∧ t.sound.transmitters[c].carrier = .unknown ∧
        t.sound.transmitters[c].silenceTimer = none ∧ t.sound.inputs[c].run = 0 ∧ t.sound.inputs[c].fresh = true ∧
        t.sound.inputs[c].lostDelay = none ∧ t.sound.lines[c].write = 0 ∧ t.sound.lines[c].read = 0 ∧
        t.sound.lines[c].phase = 0 ∧ ∀ a, memRead zeroFrame t.sound.lines[c].frames a = ⟨0, 0⟩) ∧
    (∀ k : ClipId, t.ann.clips[k] = { start := 0, length := 0, state := .empty, uses := 0 }) ∧
    t.ann.fillOrder = [] ∧ (∀ p : PhraseId, t.ann.phrases[p] = []) ∧
    (∀ i : Fin 16,
      t.ann.events[i] = { phrase := none, mask := 0, priority := 0, mode := .over, notice := false }) ∧
    (∀ o : OutputId, t.ann.queues[o] = { playing := none, waiting := [] }) ∧
    (∀ l : LaneId,
      t.gate.lanes[l] =
        { station := 0, role := .entry, home := 0, silenceLimit := 0, passTimeout := 30, state := .unseen
          silenceTimer := none, pending := none }) ∧
    (∀ i : Fin 256,
      t.router.menu[i] = { available := false, primary := 0, alternate := none, portions := none } ∧
        t.router.tickets[i] = none ∧ t.router.serials[i] = 0) ∧
    (∀ k : KitchenId,
      t.router.kitchens[k] =
        { loopStation := 0, limit := 4, lateLimit := 10, state := .unseen, sent := 0, failRun := 0, backlog := [] }) ∧
    t.router.orders = [] ∧ t.router.nextNumber = 1 ∧
    t.mgmt.site =
      { console := 1, board := 0, counter := 0, walkUp := false, paCall := false, callPhrase := 0, maxCalls := 3
        recallInterval := 5, dusk := 20, errorLimit := 16 } ∧
    t.time = { ms := 0, tens := 0, secs := 0 }

/-! ## Loop ports (02) -/

/-- Table 2-2: the state that a maintenance symbol leaves. R15: what the port sends in it: HAIL in DOWN and HAILING,
HAIL_ACK in ANSWERING; in UP, port A IDLE, and port B the cell that is leaving, or IDLE. -/
def Obligations.MaintenanceSymbols : Prop :=
  ∀ (s : State) (p : PortId), (s.port p).held = false → (s.port p).quiet = none →
    (p = .a → s.loop.arriving = none) →
    let whileUp : LaneOutput :=
      match p with
      | .a => .idle
      | .b =>
        match s.cell.sending with
        | .own _ | .passing _ | .passed _ _ => .cell
        | .idle | .discardedOwn | .discardedForward => .idle
    (∃ t, exec (.hailReceived p) s = .next t ∧ (t.port p).state = .answering ∧ (t.port p).lossTimer = false ∧
      (t.port p).linkDowns =
        (if (s.port p).state = .up then min ((s.port p).linkDowns + 1) 65535 else (s.port p).linkDowns) ∧
      (t.port p).window = (s.port p).window ∧ (∀ q, q ≠ p → t.port q = s.port q) ∧ t.portSends p = .hailAck) ∧
    (∃ t, exec (.hailAckReceived p) s = .next t ∧
      (t.port p).state = (if (s.port p).state = .down then .hailing else .up) ∧ (t.port p).lossTimer = false ∧
      (∀ q, q ≠ p → t.port q = s.port q) ∧ t = { s with loop := t.loop } ∧ t.loop.arriving = s.loop.arriving ∧
      t.portSends p = (if (s.port p).state = .down then .hail else whileUp)) ∧
    (∃ t, exec (.idleReceived p) s = .next t ∧
      (t.port p).state =
        (match (s.port p).state with
        | .down => .hailing
        | .hailing => .hailing
        | .answering => .up
        | .up => .up) ∧
      (t.port p).lossTimer = false ∧ (∀ q, q ≠ p → t.port q = s.port q) ∧ t = { s with loop := t.loop } ∧
      t.loop.arriving = s.loop.arriving ∧
      t.portSends p =
        (match (s.port p).state with
        | .down => .hail
        | .hailing => .hail
        | .answering => whileUp
        | .up => whileUp))

/-- R14, R16, R19: a port that is held or under its quiet timer takes no notice of any symbol; R14, R17: a DOWN or held
port declares no loss of signal. R15: a port that is held, or DOWN under its quiet timer, sends nothing. -/
def Obligations.DeafPortsStayAsTheyAre : Prop :=
  ∀ (s : State) (p : PortId),
    ((s.port p).held = true ∨ (s.port p).quiet.isSome →
      exec (.hailReceived p) s = .next s ∧ exec (.hailAckReceived p) s = .next s ∧
      exec (.idleReceived p) s = .next s ∧ exec (.symbolErrorReceived p) s = .next s ∧
      (p = .a →
        (∀ head, exec (.cellHeaderArrives head) s = .next s) ∧ (∀ rest, exec (.cellTailArrives rest) s = .next s) ∧
          exec .dataSymbolOutsideCell s = .next s)) ∧
    ((s.port p).held = true ∨ (s.port p).state = .down → exec (.lossOfSignal p) s = .next s) ∧
    ((s.port p).held = true ∨ ((s.port p).state = .down ∧ (s.port p).quiet.isSome) → s.portSends p = .nothing)

/-- R16, R20, R21, R39: a HAIL at port B in UP; the cell it was sending, if any, is cut short and counted once. -/
def Obligations.HailCutsPortB : Prop :=
  ∀ s : State, s.loop.portB.held = false → s.loop.portB.quiet = none → s.loop.portB.state = .up →
    ∃ t, exec (.hailReceived .b) s = .next t ∧ t.loop.portB.state = .answering ∧ t.loop.portA = s.loop.portA ∧
      (match s.cell.sending with
      | .own _ =>
        t.cell.sending = .discardedOwn ∧ t.cell.ownDiscarded = min (s.cell.ownDiscarded + 1) 65535 ∧
          t.cell.forwardDiscarded = s.cell.forwardDiscarded
      | .passing _ =>
        t.cell.sending = .discardedForward ∧ t.cell.forwardDiscarded = min (s.cell.forwardDiscarded + 1) 65535 ∧
          t.cell.ownDiscarded = s.cell.ownDiscarded
      | .passed _ _ =>
        t.cell.sending = .discardedForward ∧ t.cell.forwardDiscarded = min (s.cell.forwardDiscarded + 1) 65535 ∧
          t.cell.ownDiscarded = s.cell.ownDiscarded
      | .idle | .discardedOwn | .discardedForward =>
        t.cell.sending = s.cell.sending ∧ t.cell.forwardDiscarded = s.cell.forwardDiscarded ∧
          t.cell.ownDiscarded = s.cell.ownDiscarded) ∧
      t.cell.tracker = s.cell.tracker ∧ t.cell.buffer = s.cell.buffer ∧ t.screens.map (·.seq) = s.screens.map (·.seq)

/-- R20, R110, R158, Table 9-2: the notice of LINK_DOWN: event code 15, clock absent, the port as subject, the state
left as snapshot; the clock bytes of an absent clock may hold anything (log 22). -/
def Obligations.LossOfSignalRaisesLinkDown : Prop :=
  ∀ (s : State) (p : PortId), (s.port p).held = false → (s.port p).state ≠ .down → s.loop.arriving = none →
    s.cell.sending = .idle → s.ann.events[(15 : Fin 16)].phrase = none →
    s.ann.events[(15 : Fin 16)].notice = true → s.hasRoom 1 →
    ∃ (t : State) (b0 b1 b2 : Byte), exec (.lossOfSignal p) s = .next t ∧
      (t.port p).state = .down ∧ (t.port p).lossTimer = false ∧ (t.port p).quiet = (s.port p).quiet ∧
      (t.port p).linkDowns = min ((s.port p).linkDowns + 1) 65535 ∧ (∀ q, q ≠ p → t.port q = s.port q) ∧
      t.cell = { s.cell with normal := s.cell.normal ++
        [{ kind := .notice, dest := s.mgmt.site.console
           payload := [15, 0, (match p with | .a => 1 | .b => 2), 0,
             (match (s.port p).state with | .down => 0 | .hailing => 1 | .answering => 2 | .up => 3), 0, 0, 0,
             b0, b1, b2] }] } ∧
      t.mgmt = { s.mgmt with notices := min (s.mgmt.notices + 1) 65535 } ∧
      t = { s with freeCount := s.freeCount + 1, loop := t.loop, cell := t.cell, mgmt := t.mgmt }

/-- R16, R18, R19: line errors. On port B a run of erroneous symbols is one; the one that reaches the limit drops the
link and silences the port for 100 ms. On port A between two cells a data symbol starts the bring-up from DOWN,
uncounted; in another state the first error of a gap is one line error, here below the limit, and the next ones of it
are none. While a cell arrives no data symbol is outside any cell, and the event changes nothing (the model's choice,
log 4). The windows end together, and a quiet period ends in HAILING. R15: the dropped port sends nothing, and after
the quiet period HAIL. R17, R18: a symbol error in the cell that a loss of signal cuts short is its one line error,
and without one the cut counts none (the model's choices, logs 11 and 12). R21: a cell that a loss of signal or a
maintenance symbol cuts short while its head leaves port B goes out whole, zeros for what was not received, under the
stomped check, and is delivered to no block; the maintenance symbol's framing error is one line error. -/
def Obligations.LineErrors : Prop :=
  (∀ s : State, s.loop.portB.held = false → s.loop.portB.quiet = none → s.loop.portB.state ≠ .down →
    s.loop.errorRunB = false → s.loop.portB.window < 255 →
    ∃ t, exec (.symbolErrorReceived .b) s = .next t ∧
      t.loop.portB.lineErrors = min (s.loop.portB.lineErrors + 1) 65535 ∧
      t.loop.portA = s.loop.portA ∧
      (if s.loop.portB.window + 1 < s.mgmt.site.errorLimit then
        t.loop.portB.state = s.loop.portB.state ∧ t.loop.portB.window = s.loop.portB.window + 1 ∧
          t = { s with loop := t.loop } ∧ exec (.symbolErrorReceived .b) t = .next t
      else
        t.loop.portB.state = .down ∧ t.loop.portB.window = 0 ∧ t.loop.portB.quiet = some 100 ∧
          t.portSends .b = .nothing ∧
          t.loop.portB.linkDowns = min (s.loop.portB.linkDowns + 1) 65535)) ∧
  (∀ s : State, s.loop.portA.held = false → s.loop.portA.quiet = none → s.loop.arriving = none →
    (s.loop.portA.state = .down →
      exec .dataSymbolOutsideCell s = .next
        { s with loop := { s.loop with portA := { s.loop.portA with state := .hailing, lossTimer := false } } }) ∧
    (s.loop.portA.state ≠ .down → s.loop.gapError = false → s.loop.portA.window + 1 < s.mgmt.site.errorLimit →
      s.loop.portA.window < 255 →
      ∃ t, t = { s with loop := { s.loop with
          gapError := true
          portA := { s.loop.portA with
            lossTimer := false, window := s.loop.portA.window + 1
            lineErrors := min (s.loop.portA.lineErrors + 1) 65535 } } } ∧
        exec .dataSymbolOutsideCell s = .next t ∧ exec (.symbolErrorReceived .a) s = .next t ∧
        exec .dataSymbolOutsideCell t = .next t ∧ exec (.symbolErrorReceived .a) t = .next t)) ∧
  (∀ (s : State) (v : Arriving), s.loop.arriving = some v → exec .dataSymbolOutsideCell s = .next s) ∧
  (∀ s : State,
    exec .lineErrorWindowEnd s = .next
      { s with loop := { s.loop with
          portA := { s.loop.portA with window := 0 }, portB := { s.loop.portB with window := 0 } } } ∧
    ∀ p : PortId, (s.port p).quiet.isSome →
      ∃ t, exec (.quietPeriodEnd p) s = .next t ∧ t = { s with loop := t.loop } ∧
        t.port p = { s.port p with quiet := none, state := .hailing } ∧ (∀ q, q ≠ p → t.port q = s.port q) ∧
        t.loop.arriving = s.loop.arriving ∧ ((s.port p).held = false → t.portSends p = .hail)) ∧
  (∀ (s : State) (v : Arriving), s.loop.portA.held = false → s.loop.portA.quiet = none →
    s.loop.portA.state ≠ .down → s.loop.arriving = some v → s.loop.portA.window < 255 →
    ∃ t, exec (.lossOfSignal .a) s = .next t ∧ t.loop.portA.state = .down ∧ t.loop.portA.lossTimer = false ∧
      t.loop.portA.linkDowns = min (s.loop.portA.linkDowns + 1) 65535 ∧ t.loop.arriving = none ∧
      t.loop.portB = s.loop.portB ∧
      (if v.symbolError = true then
        t.loop.portA.lineErrors = min (s.loop.portA.lineErrors + 1) 65535 ∧
          (if s.loop.portA.window + 1 < s.mgmt.site.errorLimit then
            t.loop.portA.window = s.loop.portA.window + 1 ∧ t.loop.portA.quiet = none
          else t.loop.portA.window = 0 ∧ t.loop.portA.quiet = some 100)
      else
        t.loop.portA.lineErrors = s.loop.portA.lineErrors ∧ t.loop.portA.window = s.loop.portA.window ∧
          t.loop.portA.quiet = none)) ∧
  (∀ (s : State) (v : Arriving) (buffered : Bool), s.loop.portA.held = false → s.loop.portA.quiet = none →
    s.loop.portA.state = .up → s.loop.arriving = some v → v.place = .leaving → 8 ≤ v.bytes.length →
    v.bytes.length ≤ 63 → s.cell.sending = .passing buffered → s.loop.portA.window < 255 →
    let received := (v.bytes ++ List.replicate 60 0).take 60
    let body := received.set 3 (received.getD 3 0 + 1)
    let completed (t : State) : Prop :=
      t.cell.sending = .passed (body ++ le32 (checkWord body ^^^ 0xFFFFFFFF)) buffered ∧ t.loop.arriving = none ∧
        t.cell.buffer = s.cell.buffer ∧ t.cell.tracker = s.cell.tracker ∧ t.loop.portB = s.loop.portB ∧
        t.gate = s.gate ∧ t.sound = s.sound ∧ t.seqr = s.seqr ∧
        t.router.tickets = s.router.tickets ∧ t.router.kitchens = s.router.kitchens ∧
        ∀ c : ScreenId, t.screens[c].seq = s.screens[c].seq ∧ t.screens[c].field = s.screens[c].field
    (∃ t, exec (.lossOfSignal .a) s = .next t ∧ completed t ∧ t.loop.portA.state = .down) ∧
    ∀ i : Instr, i = .hailReceived .a ∨ i = .hailAckReceived .a ∨ i = .idleReceived .a →
      ∃ t, exec i s = .next t ∧ completed t ∧
        t.loop.portA.lineErrors = min (s.loop.portA.lineErrors + 1) 65535 ∧
        (if s.loop.portA.window + 1 < s.mgmt.site.errorLimit then
          t.loop.portA.window = s.loop.portA.window + 1 ∧ t.loop.portA.quiet = none ∧
            t.loop.portA.state = (if i = .hailReceived .a then .answering else .up)
        else t.loop.portA.window = 0 ∧ t.loop.portA.quiet = some 100 ∧ t.loop.portA.state = .down))

/-! ## Cells (02, 03) -/

/-- R16, R26, R27, R28, R35, R36: the header of a cell at port A in UP. R16, R33: in another state the cell is discarded and
counted, and nothing of it is judged or placed. -/
def Obligations.HeaderJudged : Prop :=
  (∀ (s : State) (head : List Byte), s.loop.portA.held = false → s.loop.portA.quiet = none →
    s.loop.portA.state = .up → s.loop.arriving = none → s.cell.buffer.length ≤ 1 → 8 ≤ head.length →
    head.length ≤ 63 →
    ∃ (t : State) (v : Arriving), exec (.cellHeaderArrives (head.map some)) s = .next t ∧
      t.loop.arriving = some v ∧ v.bytes = head ∧ v.discard = false ∧ v.symbolError = false ∧
      t.loop.portA = { s.loop.portA with lossTimer := false } ∧ t.cell.sending = s.cell.sending ∧
      t.cell.buffer = s.cell.buffer ∧ t.mgmt = s.mgmt ∧ t.screens = s.screens ∧
      (if head.getD 1 0 = s.station.zeroExtend 8 then
        v.verdict = some .stripped ∧ v.place = .gone ∧ t.loop.stripped = min (s.loop.stripped + 1) 65535 ∧
          t.loop.orphans = s.loop.orphans ∧ t.cell = s.cell
      else if 63 ≤ (head.getD 3 0).toNat then
        v.verdict = some .orphan ∧ v.place = .gone ∧ t.loop.orphans = min (s.loop.orphans + 1) 65535 ∧
          t.loop.stripped = s.loop.stripped ∧ t.cell = s.cell
      else
        t.loop.stripped = s.loop.stripped ∧ t.loop.orphans = s.loop.orphans ∧
        ∀ chosen : Option (Fin 32),
          (∀ i : Fin 32, chosen = some i ↔
            (s.cell.taps[i].selects (head.getD 0 0) (head.getD 1 0) (head.getD 2 0) ∧
              ∀ j < i, ¬ s.cell.taps[j].selects (head.getD 0 0) (head.getD 1 0) (head.getD 2 0))) →
          match chosen with
          | none => v.verdict = some .passed ∧ v.place ≠ .gone ∧ t.cell = s.cell
          | some i =>
            match s.cell.taps[i].action with
            | .pass => v.verdict = some .passed ∧ v.place ≠ .gone ∧ t.cell = s.cell
            | .copy => v.verdict = some .copied ∧ v.place ≠ .gone ∧ t.cell = s.cell
            | .drop =>
              v.verdict = some .dropped ∧ v.place = .gone ∧
                t.cell.taps[i] = { s.cell.taps[i] with drops := min (s.cell.taps[i].drops + 1) 65535 } ∧
                ∀ j, j ≠ i → t.cell.taps[j] = s.cell.taps[j])) ∧
  (∀ (s : State) (head : List Byte), s.loop.portA.held = false → s.loop.portA.quiet = none →
    s.loop.portA.state ≠ .up → s.loop.arriving = none → head.length ≤ 63 →
    exec (.cellHeaderArrives (head.map some)) s = .next
      { s with loop := { s.loop with
          portA := { s.loop.portA with
            lossTimer := false, state := if s.loop.portA.state = .down then .hailing else s.loop.portA.state }
          gapError := false
          discardedDown := min (s.loop.discardedDown + 1) 65535
          arriving := some { bytes := head, symbolError := false, discard := true, verdict := none, place := .gone } } })

/-- R24, R25, R28, R35, R37: a cell passes through cut-through. It is for another station and no tap entry is valid. Its
outgoing bytes are the received ones with hops plus 1 and the check word computed again, in the stomped form exactly
when the cell arrived damaged. -/
def Obligations.PassingCellForwarded : Prop :=
  ∀ (s : State) (head rest : List Byte), s.loop.portA.held = false → s.loop.portA.quiet = none →
    s.loop.portA.state = .up → s.loop.arriving = none → s.loop.portB.state = .up → s.cell.sending = .idle →
    s.cell.buffer = [] → (∀ i : Fin 32, s.cell.taps[i].valid = false) → 8 ≤ head.length → rest ≠ [] →
    head.length + rest.length = 64 → head.getD 1 0 ≠ s.station.zeroExtend 8 → (head.getD 3 0).toNat < 63 →
    head.getD 0 0 ≠ s.station.zeroExtend 8 → head.getD 0 0 ≠ 0 →
    s.loop.portA.window + 1 < s.mgmt.site.errorLimit → s.loop.portA.window < 255 →
    ∃ (t1 t2 : State), exec (.cellHeaderArrives (head.map some)) s = .next t1 ∧ exec .portBTurn t1 = .next t2 ∧
      t2.cell.sending = .passing false ∧
      let body := ((head ++ rest).take 60).set 3 (head.getD 3 0 + 1)
      let received := checkField (head ++ rest)
      let word := checkWord ((head ++ rest).take 60)
      exec (.cellTailArrives (rest.map some)) t2 = .next
        (if received = word then
          { s with
            loop := { s.loop with portA := { s.loop.portA with lossTimer := false }, gapError := false }
            cell := { s.cell with sending := .passed (body ++ le32 (checkWord body)) false } }
        else if received = word ^^^ 0xFFFFFFFF then
          { s with
            loop := { s.loop with
              portA := { s.loop.portA with lossTimer := false }, gapError := false
              damagedUpstream := min (s.loop.damagedUpstream + 1) 65535 }
            cell := { s.cell with sending := .passed (body ++ le32 (checkWord body ^^^ 0xFFFFFFFF)) false } }
        else
          { s with
            loop := { s.loop with
              portA := { s.loop.portA with
                lossTimer := false, window := s.loop.portA.window + 1
                lineErrors := min (s.loop.portA.lineErrors + 1) 65535 }
              gapError := false }
            cell := { s.cell with sending := .passed (body ++ le32 (checkWord body ^^^ 0xFFFFFFFF)) false } })

/-- R29, R30: a good STATION_BEAT or LANE_BEAT addressed to the part is taken as its tail arrives: it leaves with
ACCEPTED and the part's station as acceptor.
The taking is a part of the tail's step (the model's choice, log 3). -/
def Obligations.TakenCellMarked : Prop :=
  ∀ (s : State) (v : Arriving) (rest : List Byte), s.loop.portA.held = false → s.loop.portA.quiet = none →
    s.loop.arriving = some v → v.discard = false → v.symbolError = false → v.verdict = some .passed →
    v.place = .leaving → s.cell.sending = .passing false → 8 ≤ v.bytes.length → rest ≠ [] →
    v.bytes.length + rest.length = 64 →
    let bytes := v.bytes ++ rest
    let body := (((bytes.take 60).set 3 (bytes.getD 3 0 + 1)).set 58 (bytes.getD 58 0 ||| 1)).set 59
      (s.station.zeroExtend 8)
    bytes.getD 0 0 = s.station.zeroExtend 8 → (bytes.getD 2 0 = 0x35 ∨ bytes.getD 2 0 = 0x23) →
    1 ≤ (bytes.getD 1 0).toNat → (bytes.getD 1 0).toNat ≤ 120 → bytes.getD 6 0 = 0 → s.stranger (bytes.getD 1 0) →
    checkField bytes = checkWord (bytes.take 60) →
    exec (.cellTailArrives (rest.map some)) s = .next
      { s with
        loop := { s.loop with portA := { s.loop.portA with lossTimer := false }, arriving := none }
        cell := { s.cell with sending := .passed (body ++ le32 (checkWord body)) false } }

/-- R27, R45, R47, R89: a good TX_CMD of the part's own comes back and settles its tracker entry. R140: a TICKET that
comes back ACCEPTED for its present send sets its station's failure run to 0. R46, R47: a return timeout settles its
entry LOST; for a TICKET_VOID and a TX_CMD the owner counts it. R68: for a PROJ_CMD the event PROJ_UNANSWERED tells
the console. R139, R140: for a TICKET whose send is out of date the outcome is stale. A failed send of a PRESENT
station's ticket is sent again, and the third failure returns it to the backlog behind the tickets already returned,
makes the station ABSENT and tells of it. A failed send of an ABSENT station's ticket returns it, its attempts as they
are (the model's choice, log 50). -/
def Obligations.ReturnsSettle : Prop :=
  (∀ (s : State) (v : Arriving) (rest : List Byte) (e : TrackEntry) (c : ScreenId), s.loop.portA.held = false →
    s.loop.portA.quiet = none → s.loop.arriving = some v → v.discard = false → v.symbolError = false →
    v.verdict = some .stripped → 8 ≤ v.bytes.length → rest ≠ [] → v.bytes.length + rest.length = 64 →
    let bytes := v.bytes ++ rest
    checkField bytes = checkWord (bytes.take 60) → bytes.getD 2 0 = 0x50 → e ∈ s.cell.tracker → s.cell.trackerFits →
    e.tag.toNat = twoBytes (bytes.getD 4 0) (bytes.getD 5 0) → e.kind = .txCmd → e.ref = .output c →
    ∃ t, exec (.cellTailArrives (rest.map some)) s = .next t ∧ t.loop.arriving = none ∧
      t.cell.tracker = s.cell.tracker.erase e ∧ t.cell.lateReturns = s.cell.lateReturns ∧
      t.sound.outputs = s.sound.outputs ∧ t.screens = s.screens ∧
      (if (bytes.getD 58 0).getLsbD 0 then
        t.cell.delivered = min (s.cell.delivered + 1) 65535 ∧ t.cell.unaccepted = s.cell.unaccepted ∧
          t.sound = s.sound ∧
          t.cell.acceptorMismatch =
            (if (bytes.getD 59 0).toNat = e.dest then s.cell.acceptorMismatch
             else min (s.cell.acceptorMismatch + 1) 65535)
      else
        t.cell.unaccepted = min (s.cell.unaccepted + 1) 65535 ∧ t.cell.delivered = s.cell.delivered ∧
          t.sound.transmitters[c] = { s.sound.transmitters[c] with
            unanswered := min (s.sound.transmitters[c].unanswered + 1) 65535 } ∧
          ∀ d, d ≠ c → t.sound.transmitters[d] = s.sound.transmitters[d])) ∧
  (∀ (s : State) (v : Arriving) (rest : List Byte) (e : TrackEntry) (x : TicketId) (w : Ticket),
    s.loop.portA.held = false → s.loop.portA.quiet = none → s.loop.arriving = some v → v.discard = false →
    v.symbolError = false → v.verdict = some .stripped → 8 ≤ v.bytes.length → rest ≠ [] →
    v.bytes.length + rest.length = 64 →
    let bytes := v.bytes ++ rest
    let station := s.router.kitchens[w.kitchen]
    checkField bytes = checkWord (bytes.take 60) → bytes.getD 2 0 = 0x32 → e ∈ s.cell.tracker → s.cell.trackerFits →
    e.tag.toNat = twoBytes (bytes.getD 4 0) (bytes.getD 5 0) → e.kind = .ticket →
    e.ref = .ticket x s.router.serials[x] → s.router.tickets[x] = some w → w.state = .sent →
    (bytes.getD 58 0).getLsbD 0 = true →
    ∃ t, exec (.cellTailArrives (rest.map some)) s = .next t ∧ t.loop.arriving = none ∧
      t.cell.tracker = s.cell.tracker.erase e ∧ t.cell.delivered = min (s.cell.delivered + 1) 65535 ∧
      t.cell.unaccepted = s.cell.unaccepted ∧ t.cell.lateReturns = s.cell.lateReturns ∧
      t.cell.acceptorMismatch =
        (if (bytes.getD 59 0).toNat = e.dest then s.cell.acceptorMismatch
         else min (s.cell.acceptorMismatch + 1) 65535) ∧
      t = { s with
        loop := t.loop, cell := t.cell
        router := { s.router with kitchens := s.router.kitchens.set w.kitchen { station with failRun := 0 } } }) ∧
  (∀ (s : State) (e : TrackEntry), s.cell.trackerFits → e ∈ s.cell.tracker →
    ∃ t, exec (.returnTimeout e.tag) s = .next t ∧ t.cell.tracker = s.cell.tracker.erase e ∧
      t.cell.lost = min (s.cell.lost + 1) 65535 ∧ t.cell.delivered = s.cell.delivered ∧
      t.cell.unaccepted = s.cell.unaccepted ∧ t.loop = s.loop ∧ t.gate = s.gate ∧
      (e.kind = .ticketVoid →
        t = { s with
          cell := { s.cell with tracker := s.cell.tracker.erase e, lost := min (s.cell.lost + 1) 65535 }
          router := { s.router with unansweredVoids := min (s.router.unansweredVoids + 1) 65535 } }) ∧
      (∀ c, e.kind = .txCmd → e.ref = .output c →
        t.sound.transmitters[c].unanswered = min (s.sound.transmitters[c].unanswered + 1) 65535)) ∧
  (∀ (s : State) (e : TrackEntry) (c : ScreenId), s.cell.trackerFits → e ∈ s.cell.tracker → e.kind = .projCmd →
    e.ref = .screen c → s.hasRoom 1 →
    ∃ t, exec (.returnTimeout e.tag) s = .next t ∧ t.screens[c].seq = s.screens[c].seq ∧ t.sound = s.sound ∧
      s.tells t [⟨10, c.val + 1, s.screens[c].config.projector, some s.screens[c].seq.clock⟩]) ∧
  (∀ (s : State) (e : TrackEntry) (x : TicketId) (serial : Byte), s.cell.trackerFits → e ∈ s.cell.tracker →
    e.kind = .ticket → e.ref = .ticket x serial →
    ((∀ v, s.router.tickets[x] = some v → v.state = .sent → s.router.serials[x] ≠ serial) →
      exec (.returnTimeout e.tag) s = .next
        { s with
          cell := { s.cell with tracker := s.cell.tracker.erase e, lost := min (s.cell.lost + 1) 65535 }
          router := { s.router with staleOutcomes := min (s.router.staleOutcomes + 1) 65535 } }) ∧
    (∀ v : Ticket, s.router.tickets[x] = some v → v.state = .sent → s.router.serials[x] = serial → s.hasRoom 1 →
      let k := v.kitchen
      let station := s.router.kitchens[k]
      let failures := min (station.failRun + 1) 255
      let isReturned (y : TicketId) : Prop := ∃ w, s.router.tickets[y] = some w ∧ w.returned = true
      (station.state = .present → v.attempts + 1 < 3 →
        exec (.returnTimeout e.tag) s = .next
          { s with
            cell :=
              { s.cell with
                tracker := s.cell.tracker.erase e, lost := min (s.cell.lost + 1) 65535
                normal := s.cell.normal ++
                  [{ kind := .ticket, dest := station.loopStation, ref := .ticket x (serial + 1)
                     payload := le16 v.order ++
                       le8 (match s.order? v.order with
                         | some o => screenNumber o.screen
                         | none => 0) ++
                       le8 (k.val + 1) ++ flagByte v.rush ++ le8 v.lines.length ++ lineBytes v.lines }] }
            router :=
              { s.router with
                ticketFailures := min (s.router.ticketFailures + 1) 65535
                kitchens := s.router.kitchens.set k { station with failRun := failures }
                tickets := s.router.tickets.set x (some { v with attempts := v.attempts + 1 })
                serials := s.router.serials.set x (serial + 1) } }) ∧
      (∀ ahead rest : List TicketId, station.backlog = ahead ++ rest → (∀ y ∈ ahead, isReturned y) →
        (∀ y ys, rest = y :: ys → ¬ isReturned y) →
        (station.state = .present → 3 ≤ v.attempts + 1 →
          ∃ t, exec (.returnTimeout e.tag) s = .next t ∧
            t.router =
              { s.router with
                ticketFailures := min (s.router.ticketFailures + 1) 65535
                kitchens := s.router.kitchens.set k
                  { station with
                    failRun := failures, sent := station.sent - 1, state := .absent, backlog := ahead ++ x :: rest }
                tickets := s.router.tickets.set x
                  (some { v with attempts := v.attempts + 1, state := .backlog, returned := true
                                 lateTimer := none })
                orders := t.router.orders } ∧
            s.tells t [⟨13, k.val + 1, failures, none⟩] ∧ t.screens = s.screens ∧ t.sound = s.sound) ∧
        (station.state = .absent →
          exec (.returnTimeout e.tag) s = .next
            { s with
              cell := { s.cell with tracker := s.cell.tracker.erase e, lost := min (s.cell.lost + 1) 65535 }
              router :=
                { s.router with
                  ticketFailures := min (s.router.ticketFailures + 1) 65535
                  kitchens := s.router.kitchens.set k
                    { station with failRun := failures, sent := station.sent - 1, backlog := ahead ++ x :: rest }
                  tickets := s.router.tickets.set x
                    (some { v with state := .backlog, returned := true, lateTimer := none }) } }))))

/-- R37, R39, R40, R42, R43, R44: a turn of port B. The cell that still arrives keeps the link; the front of the elastic
buffer goes next; with no passing traffic a reply at the front of the URGENT class goes; with nothing to send the link
falls idle. A tracked cell at the front with a free tracker entry takes the counter's value as its tag, or the next one
up when a tracker entry holds that value; its entry's timer is 50. With the tracker full it keeps its place, and an
untracked cell behind it goes. R39: a passing cell of which nothing more leaves port B keeps its turn to its last byte.
The model's choices: a turn while a passing cell that has the link still arrives changes nothing (DESIGN CHOICE, log 13);
the tracker-full counter rises once where a cell goes, and not where only held cells wait (DEDUCED, log 14). -/
def Obligations.PortBTurns : Prop :=
  (∀ s : State,
    (∀ b, s.cell.sending = .passing b → exec .portBTurn s = .next s) ∧
    ((∀ b, s.cell.sending ≠ .passing b) →
      (∀ out waiting, s.cell.buffer = out :: waiting →
        exec .portBTurn s = .next
          { s with cell :=
              if s.loop.portB.state = .up then { s.cell with buffer := waiting, sending := .passed out true }
              else
                { s.cell with
                  buffer := waiting, sending := .discardedForward
                  forwardDiscarded := min (s.cell.forwardDiscarded + 1) 65535 } }) ∧
      (s.cell.buffer = [] → s.loop.arriving = none →
        (∀ (o : OwnCell) (os : List OwnCell) (tag : Half), s.cell.urgent = o :: os →
          o.kind = .mgmtReply ∨ o.kind = .admitReply → o.echo = some tag → o.endsRestart = false →
          exec .portBTurn s = .next
            { s with cell :=
                if s.loop.portB.state = .up then
                  { s.cell with urgent := os, sending := .own (ownBytes s.station.toNat tag o) }
                else
                  { s.cell with
                    urgent := os, sending := .discardedOwn
                    ownDiscarded := min (s.cell.ownDiscarded + 1) 65535 } }) ∧
        (s.cell.urgent = [] → s.cell.normal = [] →
          exec .portBTurn s = .next { s with cell := { s.cell with sending := .idle } })))) ∧
  (∀ (s : State) (o : OwnCell) (os : List OwnCell) (owner : Owner), (∀ b, s.cell.sending ≠ .passing b) →
    s.cell.buffer = [] → s.loop.arriving = none → s.cell.urgent = o :: os → o.kind.tracked = some owner →
    o.echo = none → o.endsRestart = false → s.loop.portB.state = .up →
    (∀ tag : Half, s.cell.tracker.length < 32 →
      (tag = s.cell.tagCounter ∨
        (tag = s.cell.tagCounter + 1 ∧ ∃ e ∈ s.cell.tracker, e.tag = s.cell.tagCounter)) →
      (∀ e ∈ s.cell.tracker, e.tag ≠ tag) →
      exec .portBTurn s = .next
        { s with cell :=
            { s.cell with
              urgent := os, tagCounter := tag + 1, sending := .own (ownBytes s.station.toNat tag o)
              tracker := s.cell.tracker ++
                [{ tag := tag, kind := o.kind, dest := o.dest, owner := owner, ref := o.ref, timer := 50 }] } }) ∧
    (∀ (r : OwnCell) (rs : List OwnCell) (tag : Half), 32 ≤ s.cell.tracker.length → os = r :: rs →
      r.kind.tracked = none → r.echo = some tag → r.endsRestart = false →
      exec .portBTurn s = .next
        { s with cell :=
            { s.cell with
              urgent := o :: rs, trackerFull := min (s.cell.trackerFull + 1) 65535
              sending := .own (ownBytes s.station.toNat tag r) } })) ∧
  (∀ (s : State) (o : OwnCell) (owner : Owner), (∀ b, s.cell.sending ≠ .passing b) → s.cell.buffer = [] →
    s.loop.arriving = none → s.cell.urgent = [o] → s.cell.normal = [] → o.kind.tracked = some owner →
    32 ≤ s.cell.tracker.length →
    exec .portBTurn s = .next { s with cell := { s.cell with sending := .idle } }) ∧
  (∀ (s : State) (v : Arriving), s.cell.sending = .discardedForward → s.cell.buffer = [] →
    s.loop.arriving = some v → v.discard = false → v.place = .gone →
    v.verdict = some .passed ∨ v.verdict = some .copied → exec .portBTurn s = .next s)

/-- R22, R23, R25, R40: the bytes of an own cell: destination, source, kind, hops 0, tag, length, flags, payload filled
with zeros, no mark, and a correct check word. -/
def Obligations.OwnCellBytes : Prop :=
  ∀ (station : BitVec 7) (tag : Half) (o : OwnCell), o.payload.length ≤ 50 →
    let b := ownBytes station.toNat tag o
    b.length = 64 ∧ b.getD 0 0 = BitVec.ofNat 8 o.dest ∧ b.getD 1 0 = station.zeroExtend 8 ∧
      (b.getD 2 0).toNat = o.kind.code ∧ b.getD 3 0 = 0 ∧ twoBytes (b.getD 4 0) (b.getD 5 0) = tag.toNat ∧
      (b.getD 6 0).toNat = o.payload.length ∧ b.getD 7 0 = (if o.kind.isUrgent then 1 else 0) ∧
      (b.drop 8).take 50 = o.payload ++ List.replicate (50 - o.payload.length) 0 ∧ b.getD 58 0 = 0 ∧
      b.getD 59 0 = 0 ∧ checkField b = checkWord (b.take 60) ∧ classify b false = .good

/-- R161, R48, R3, R50, R91, R111, R113: the warm restart takes effect at the turn of its DONE, sent or discarded.
The blocks restart in one step (log 35). -/
def Obligations.WarmRestartTakesEffect : Prop :=
  ∀ (s : State) (o : OwnCell) (os : List OwnCell), (∀ b, s.cell.sending ≠ .passing b) → s.cell.buffer = [] →
    s.loop.arriving = none → s.cell.urgent = o :: os → o.kind = .mgmtReply → o.endsRestart = true →
    ∃ t, exec .portBTurn s = .next t ∧
      t.cell.urgent = [] ∧ t.cell.normal = [] ∧ t.cell.tracker = [] ∧ t.cell.taps = s.cell.taps ∧
      t.mgmt = { s.mgmt with restart := false } ∧ t.time = s.time ∧ t.loop = s.loop ∧ t.seqr = s.seqr ∧
      (∀ c : ScreenId,
        t.screens[c].config = s.screens[c].config ∧ t.screens[c].field = s.screens[c].field ∧
          t.screens[c].sound = s.screens[c].sound ∧ t.screens[c].ordering = s.screens[c].ordering ∧
          t.screens[c].seq =
            (if s.screens[c].seq.state = .running then
              { s.screens[c].seq with state := .held, holdReason := some .restart }
            else s.screens[c].seq) ∧
          t.sound.lines[c].frames = [] ∧
          (s.sound.config[outputOf c].delayTarget ≤ 9599 → s.sound.lines[c].write ≤ 9599 →
            (t.sound.lines[c].write + 9600 - t.sound.lines[c].read) % 9600 =
              s.sound.config[outputOf c].delayTarget)) ∧
      (∀ o : OutputId, t.sound.outputs[o] = { s.sound.outputs[o] with duck := 4096 } ∧
        t.ann.queues[o].playing = none) ∧
      (∀ l : LaneId,
        t.gate.lanes[l].pending =
            s.gate.lanes[l].pending.map (fun p => { p with passTimer := s.gate.lanes[l].passTimeout }) ∧
          (s.gate.lanes[l].silenceTimer = none → t.gate.lanes[l].silenceTimer = none) ∧
          (s.gate.lanes[l].silenceTimer.isSome → s.gate.lanes[l].silenceLimit ≠ 0 →
            t.gate.lanes[l].silenceTimer = some s.gate.lanes[l].silenceLimit)) ∧
      t.router.orders.map (·.number) = s.router.orders.map (·.number) ∧ t.router.tickets = s.router.tickets ∧
      t.router.kitchens = s.router.kitchens

/-! ## Management cells (09) -/

/-- R154, R155, R159: a cell from another station is answered NOT_CONSOLE and counted so; while a warm restart waits, a cell
of the console is answered BUSY and counted as a refusal. Nothing else is changed. -/
def Obligations.NotConsoleOrBusy : Prop :=
  ∀ (c : Instr) (s : State) (m : Sender) (echo : Byte), managementCell c = some (m, echo) → s.stranger m.source →
    s.hasRoom 1 →
    (m.source.toNat ≠ s.mgmt.site.console →
      ∃ low high : Byte, exec c s = .next
        { s with
          freeCount := s.freeCount + 1
          mgmt :=
            { s.mgmt with
              taken := min (s.mgmt.taken + 1) 65535, notConsole := min (s.mgmt.notConsole + 1) 65535 }
          cell := { s.cell with urgent := s.cell.urgent ++ [mgmtReplyTo m [6, echo, low, high]] } }) ∧
    (m.source.toNat = s.mgmt.site.console → s.mgmt.restart = true →
      ∃ low high : Byte, exec c s = .next (s.turnedAway m [5, echo, low, high]))

/-- R41, R155: the reply to a SITE write at a full transmit queue. It displaces the newest NORMAL entry, here a NOTICE;
with all sixteen URGENT it is dropped and counted, and the write stands. -/
def Obligations.ReplyAtFullQueue : Prop :=
  ∀ (s : State) (m : Sender) (console board counter phrase : Byte), s.readyFor 0 m →
    s.cell.urgent.length + s.cell.normal.length = 16 → 1 ≤ console.toNat → console.toNat ≤ 120 →
    board.toNat ≤ 120 → counter.toNat ≤ 120 → phrase.toNat ≤ 63 →
    let written : Management :=
      { s.mgmt with
        taken := min (s.mgmt.taken + 1) 65535
        site :=
          { console := console.toNat, board := board.toNat, counter := counter.toNat, walkUp := true, paCall := false
            callPhrase := Fin.ofNat 64 phrase.toNat, maxCalls := 3, recallInterval := 5, dusk := 20
            errorLimit := 16 } }
    (∀ (ns : List OwnCell) (o : OwnCell), s.cell.normal = ns ++ [o] → o.kind = .notice →
      exec (.siteWrite m 0 [console, board, counter, 1, 0, phrase, 3, 5, 20, 0, 16]) s = .next
        { s with
          freeCount := s.freeCount + 1, mgmt := written
          cell :=
            { s.cell with
              urgent := s.cell.urgent ++ [mgmtReplyTo m (writeReply 0 1 0)], normal := ns
              queueDrops := s.cell.queueDrops.set 4 (min (s.cell.queueDrops[4] + 1) 65535) } }) ∧
    (s.cell.normal = [] →
      exec (.siteWrite m 0 [console, board, counter, 1, 0, phrase, 3, 5, 20, 0, 16]) s = .next
        { s with
          freeCount := s.freeCount + 1, mgmt := written
          cell := { s.cell with queueDrops := s.cell.queueDrops.set 3 (min (s.cell.queueDrops[3] + 1) 65535) } })

/-- R154, R4, R34, R51, R52, R74, R94, R99, R110, R114, R130, R132, R153: a MGMT_WRITE is the write of the table it names; a
code that is no writable table is answered UNKNOWN, an entry of another length than the table's RANGE, and then an index
outside the table's UNKNOWN. -/
def Obligations.WritesNameATable : Prop :=
  ∀ (s : State) (m : Sender) (table : Byte) (index : Half) (entry : List Byte),
    (exec (.mgmtWrite m 1 index entry) s = exec (.siteWrite m index entry) s ∧
      exec (.mgmtWrite m 2 index entry) s = exec (.screenWrite m index entry) s ∧
      exec (.mgmtWrite m 3 index entry) s = exec (.segmentWrite m index entry) s ∧
      exec (.mgmtWrite m 4 index entry) s = exec (.cueWrite m index entry) s ∧
      exec (.mgmtWrite m 5 index entry) s = exec (.outputWrite m index entry) s ∧
      exec (.mgmtWrite m 6 index entry) s = exec (.clipWrite m index entry) s ∧
      exec (.mgmtWrite m 7 index entry) s = exec (.phraseWrite m index entry) s ∧
      exec (.mgmtWrite m 8 index entry) s = exec (.eventWrite m index entry) s ∧
      exec (.mgmtWrite m 9 index entry) s = exec (.laneWrite m index entry) s ∧
      exec (.mgmtWrite m 10 index entry) s = exec (.menuWrite m index entry) s ∧
      exec (.mgmtWrite m 11 index entry) s = exec (.stationWrite m index entry) s ∧
      exec (.mgmtWrite m 12 index entry) s = exec (.tapWrite m index entry) s) ∧
    (s.readyFor 1 m →
      (table.toNat = 0 ∨ 12 < table.toNat →
        exec (.mgmtWrite m table index entry) s = .next (s.turnedAway m (writeReply 7 table.toNat index))) ∧
      (∀ row ∈
        ([(1, 11, 0, 0), (2, 16, 1, 4), (3, 3, 1, 4), (4, 13, 0, 255), (5, 24, 1, 5), (6, 6, 0, 63)
          , (7, 1 + 3 * (entry.getD 0 0).toNat, 0, 63), (8, 5, 0, 15), (9, 5, 1, 8), (10, 5, 0, 255), (11, 3, 1, 8)
          , (12, 8, 0, 31)] : List (Nat × Nat × Nat × Nat)),
        table.toNat = row.1 →
        (entry.length ≠ row.2.1 →
          exec (.mgmtWrite m table index entry) s = .next (s.turnedAway m (writeReply 1 table.toNat index))) ∧
        (entry.length = row.2.1 → index.toNat < row.2.2.1 ∨ row.2.2.2 < index.toNat →
          exec (.mgmtWrite m table index entry) s = .next (s.turnedAway m (writeReply 7 table.toNat index)))))

/-- R153, Table 9-1: a SITE write, its quantities clamped. -/
def Obligations.SiteWrite : Prop :=
  ∀ (s : State) (m : Sender) (b0 b1 b2 b3 b4 b5 b6 b7 b8 b9 b10 : Byte), s.readyFor 1 m →
    exec (.siteWrite m 0 [b0, b1, b2, b3, b4, b5, b6, b7, b8, b9, b10]) s = .next
      (if 1 ≤ b0.toNat ∧ b0.toNat ≤ 120 ∧ b1.toNat ≤ 120 ∧ b2.toNat ≤ 120 ∧ b3.toNat ≤ 1 ∧ b4.toNat ≤ 1 ∧
          b5.toNat ≤ 63 then
        ({ s with mgmt := { s.mgmt with site :=
            { console := b0.toNat, board := b1.toNat, counter := b2.toNat, walkUp := decide (b3 = 1)
              paCall := decide (b4 = 1), callPhrase := Fin.ofNat 64 b5.toNat
              maxCalls := max 1 (min 5 b6.toNat), recallInterval := max 1 (min 15 b7.toNat)
              dusk := twoBytes b8 b9, errorLimit := max 1 b10.toNat } } } : State).answered m (writeReply 0 1 0)
      else s.turnedAway m (writeReply 1 1 0))

/-- R4, R5, R6, R124, R125: a SCREEN write. An entry with a value outside its field's, or with marks that are neither in
order nor both 0, is refused RANGE; one that would change a field of R5 while the sequencer is not IDLE, IN_USE. A write
that passes stores the clamped fields; the near-full flag follows the marks and the full flag A, each judged again when
a field it depends on changes (which changes those are: the model's choice, DEDUCED, log 20). A policy that turns to
CALL_ANYTIME releases the held calls, here one call of a one-clip call phrase to an empty queue (R6, R108; after the
flags: the model's choice, log 43), and no other write moves a held call. -/
def Obligations.ScreenWrite : Prop :=
  ∀ (s : State) (m : Sender) (c : ScreenId) (source : ClockSource) (policy : CallPolicy)
    (b0 b1 b2 b3 b4 b5 b6 b7 b8 b9 b10 b11 b12 b13 b14 b15 : Byte), s.readyFor 3 m →
    let index : Half := BitVec.ofNat 16 (c.val + 1)
    let write : Instr :=
      .screenWrite m index [b0, b1, b2, b3, b4, b5, b6, b7, b8, b9, b10, b11, b12, b13, b14, b15]
    let high := min 2000 (twoBytes b11 b12)
    let low := min 2000 (twoBytes b13 b14)
    let old := s.screens[c].config
    let new : ScreenConfig :=
      { enabled := decide (b0 = 1), holdOnFailure := decide (b1 = 1), clockSource := source, projector := b3.toNat
        panel := b4.toNat, capacity := min 2000 (twoBytes b5 b6), reserved := min 2000 (twoBytes b7 b8)
        tallQuota := min 500 (twoBytes b9 b10), high := high, low := low, callPolicy := policy }
    let fits := b0.toNat ≤ 1 ∧ b1.toNat ≤ 1 ∧ b2.toNat ≤ 1 ∧ b3.toNat ≤ 120 ∧ b4.toNat ≤ 120 ∧ b15.toNat ≤ 1 ∧
      (low < high ∨ (high = 0 ∧ low = 0))
    let changesShow := old.enabled ≠ new.enabled ∨ old.clockSource ≠ new.clockSource ∨ old.projector ≠ new.projector
    (¬ fits → exec write s = .next (s.turnedAway m (writeReply 1 2 index))) ∧
    (fits → source.code = b2.toNat → policy.code = b15.toNat → s.screens[c].seq.state ≠ .idle → changesShow →
      exec write s = .next (s.turnedAway m (writeReply 3 2 index))) ∧
    (fits → source.code = b2.toNat → policy.code = b15.toNat → s.screens[c].seq.state = .idle ∨ ¬ changesShow →
      ∃ t, exec write s = .next t ∧ t.screens[c].config = new ∧
        t.screens[c].field =
          { s.screens[c].field with
            nearFull :=
              if high = 0 ∧ low = 0 then false
              else if old.high = high ∧ old.low = low then s.screens[c].field.nearFull
              else if high ≤ s.screens[c].field.occupancy then true
              else if s.screens[c].field.occupancy ≤ low then false
              else s.screens[c].field.nearFull
            full :=
              if old.capacity = new.capacity ∧ old.reserved = new.reserved then s.screens[c].field.full
              else decide
                ((new.capacity : Int) - s.screens[c].field.occupancy - new.reserved - s.screens[c].field.pending ≤ 0) } ∧
        (∀ d, d ≠ c → t.screens[d].config = s.screens[d].config ∧ t.screens[d].field = s.screens[d].field) ∧
        (∀ d : ScreenId, t.screens[d].seq = s.screens[d].seq ∧ t.screens[d].sound = s.screens[d].sound ∧
          t.screens[d].ordering = s.screens[d].ordering) ∧
        t.cell.urgent = s.cell.urgent ++ [mgmtReplyTo m (writeReply 0 2 index)] ∧ s.sameButTraffic t ∧
        t.mgmt.taken = min (s.mgmt.taken + 1) 65535) ∧
    (fits → source.code = b2.toNat → policy.code = b15.toNat → s.screens[c].seq.state = .idle ∨ ¬ changesShow →
      ∃ t, exec write s = .next t ∧ (∀ d : ScreenId, d ≠ c → t.screens[d].heldCalls = s.screens[d].heldCalls) ∧
        (¬ (old.callPolicy = .holdInFeature ∧ policy = .callAnytime) →
          t.screens[c].heldCalls = s.screens[c].heldCalls) ∧
        (∀ (number : Nat) (k : ClipId), old.callPolicy = .holdInFeature → policy = .callAnytime →
          old.capacity = new.capacity → old.reserved = new.reserved → old.high = high → old.low = low →
          s.screens[c].heldCalls = [number] → s.ann.queues[outputOf c] = { playing := none, waiting := [] } →
          s.ann.phrases[s.mgmt.site.callPhrase] = [.clip k] → s.ann.clips[k].state = .ready →
          s.ann.clips[k].uses < 255 →
          t.screens[c].heldCalls = [] ∧
            t.ann =
              { s.ann with
                clips := s.ann.clips.set k { s.ann.clips[k] with uses := s.ann.clips[k].uses + 1 }
                joins := s.ann.joins + 1
                queues := s.ann.queues.set (outputOf c)
                  { playing := none
                    waiting :=
                      [{ origin := .orderCall, priority := 1, mode := .over, items := [.clip k], order := some number
                         next := 0, offset := 0, join := s.ann.joins }] } }))

/-- R51: a SEGMENT write, its checks in order. -/
def Obligations.SegmentWrite : Prop :=
  ∀ (s : State) (m : Sender) (c : ScreenId) (b0 b1 b2 : Byte), s.readyFor 1 m →
    let index : Half := BitVec.ofNat 16 (c.val + 1)
    let base := b0.toNat
    let limit := twoBytes b1 b2
    let overlap := ∃ d, d ≠ c ∧ ∃ e < base + limit, base ≤ e ∧ s.screens[d].seq.segBase ≤ e ∧
      e < s.screens[d].seq.segBase + s.screens[d].seq.segLimit
    (256 < base + limit →
      exec (.segmentWrite m index [b0, b1, b2]) s = .next (s.turnedAway m (writeReply 1 3 index))) ∧
    (base + limit ≤ 256 → s.screens[c].seq.state ≠ .idle →
      exec (.segmentWrite m index [b0, b1, b2]) s = .next (s.turnedAway m (writeReply 3 3 index))) ∧
    (base + limit ≤ 256 → s.screens[c].seq.state = .idle → overlap →
      exec (.segmentWrite m index [b0, b1, b2]) s = .next (s.turnedAway m (writeReply 2 3 index))) ∧
    (base + limit ≤ 256 → s.screens[c].seq.state = .idle → ¬ overlap →
      exec (.segmentWrite m index [b0, b1, b2]) s = .next
        ((s.modSeq c fun r => { r with segBase := base, segLimit := limit }).answered m (writeReply 0 3 index)))

/-- R52, R53: a CUE write, its checks in order; an argument an action does not use is stored as written. -/
def Obligations.CueWrite : Prop :=
  ∀ (s : State) (m : Sender) (i : Fin 256) (trigger : TriggerKind) (action : ActionKind)
    (b0 b1 b2 b3 b4 b5 b6 b7 b8 b9 b10 b11 b12 : Byte), s.readyFor 1 m →
    let index : Half := BitVec.ofNat 16 i.val
    let write : Instr := .cueWrite m index [b0, b1, b2, b3, b4, b5, b6, b7, b8, b9, b10, b11, b12]
    let gain := min 8191 (twoBytes b5 b6)
    let fits : Prop :=
      match action with
      | .segment => b5.toNat ≤ 4
      | .proj => 1 ≤ b5.toNat ∧ b5.toNat ≤ 8
      | .announce => b5.toNat ≤ 63 ∧ 1 ≤ b6.toNat ∧ b6.toNat ≤ 31 ∧ b8.toNat ≤ 1 ∧ b9.toNat ≤ 2
      | .level => True
      | .admission => b5.toNat ≤ 1
      | .orders => b5.toNat ≤ 2
      | .loop => b5.toNat < i.val
      | .endShow => True
    let args : Vector Byte 6 :=
      match action with
      | .announce => #v[b5, b6, if b7.toNat ≤ 3 then b7 else 3, b8, b9, b10]
      | .level => #v[BitVec.ofNat 8 gain, BitVec.ofNat 8 (gain / 256), b7, b8, b9, b10]
      | .segment | .proj | .admission | .orders | .loop | .endShow => #v[b5, b6, b7, b8, b9, b10]
    let protectedEntry := ∃ c : ScreenId, s.screens[c].seq.state ≠ .idle ∧ s.screens[c].seq.segBase ≤ i.val ∧
      i.val < s.screens[c].seq.segBase + s.screens[c].seq.segLimit ∧
      i.val ≤ s.screens[c].seq.segBase + s.screens[c].seq.cueIndex
    (4 < b0.toNat ∨ 7 < b4.toNat → exec write s = .next (s.turnedAway m (writeReply 1 4 index))) ∧
    (trigger.code = b0.toNat → action.code = b4.toNat →
      (¬ fits → exec write s = .next (s.turnedAway m (writeReply 1 4 index))) ∧
      (fits → protectedEntry → exec write s = .next (s.turnedAway m (writeReply 3 4 index))) ∧
      (fits → ¬ protectedEntry →
        exec write s = .next
          (({ s with seqr :=
              { s.seqr with
                cues := s.seqr.cues.set i
                  { trigger := trigger, time := threeBytes b1 b2 b3, action := action, args := args
                    label := BitVec.ofNat 16 (twoBytes b11 b12) }
                loopCounters := s.seqr.loopCounters.set i none } } : State).answered m (writeReply 0 4 index))))

/-- R74, R75, R88: an OUTPUT write; on outputs 1 to 4 it loads or cancels the transmitter silence timer. -/
def Obligations.OutputWrite : Prop :=
  ∀ (s : State) (m : Sender) (o : OutputId) (remap : DarkRemap) (pa : Option ScreenId)
    (b0 b1 b2 b3 b4 b5 b6 b7 b8 b9 b10 b11 b12 b13 b14 b15 b16 b17 b18 b19 b20 b21 b22 b23 : Byte), s.readyFor 1 m →
    let index : Half := BitVec.ofNat 16 (o.val + 1)
    let write : Instr :=
      .outputWrite m index
        [b0, b1, b2, b3, b4, b5, b6, b7, b8, b9, b10, b11, b12, b13, b14, b15, b16, b17, b18, b19, b20, b21, b22, b23]
    let new : OutputConfig :=
      { gainTarget := min 8191 (twoBytes b0 b1), annGain := min 8191 (twoBytes b2 b3)
        duckLevel := min 4096 (twoBytes b4 b5), duckRate := max 1 (min 4096 (twoBytes b6 b7))
        ceiling := min 8388607 (threeBytes b8 b9 b10), delayTarget := min 9599 (twoBytes b11 b12), darkRemap := remap
        paSource := pa, txStation := b15.toNat, tuneChannel := max 1 b16.toNat
        autocut := BitVec.ofNat 3 b17.toNat, silenceThreshold := min 8388607 (threeBytes b18 b19 b20)
        deadAirBlocks := max 1 (min 6000 (twoBytes b21 b22)), txSilenceLimit := min 30 b23.toNat }
    let written : State := { s with sound := { s.sound with config := s.sound.config.set o new } }
    (2 < b13.toNat ∨ 4 < b14.toNat ∨ 120 < b15.toNat ∨ 7 < b17.toNat →
      exec write s = .next (s.turnedAway m (writeReply 1 5 index))) ∧
    (remap.code = b13.toNat → screenNumber pa = b14.toNat → b15.toNat ≤ 120 → b17.toNat ≤ 7 →
      (∀ c : ScreenId, o = outputOf c →
        exec write s = .next
          ((written.modTransmitter c fun x =>
              { x with silenceTimer := if new.txStation = 0 ∨ new.txSilenceLimit = 0 then none
                                       else some new.txSilenceLimit }).answered m (writeReply 0 5 index))) ∧
      (o = paOutput → exec write s = .next (written.answered m (writeReply 0 5 index))))

/-- R94: a CLIP write, its checks in order. -/
def Obligations.ClipWrite : Prop :=
  ∀ (s : State) (m : Sender) (k : ClipId) (b0 b1 b2 b3 b4 b5 : Byte), s.readyFor 1 m →
    let index : Half := BitVec.ofNat 16 k.val
    let start := threeBytes b0 b1 b2
    let length := threeBytes b3 b4 b5
    let fits := start ≤ 8388607 ∧ 1 ≤ length ∧ length ≤ 2880000 ∧ start + length ≤ 8388608
    let overlap := ∃ j : ClipId, s.ann.clips[j].state ≠ .empty ∧ ∃ a < start + length, start ≤ a ∧
      s.ann.clips[j].start ≤ a ∧ a < s.ann.clips[j].start + s.ann.clips[j].length
    (¬ fits →
      exec (.clipWrite m index [b0, b1, b2, b3, b4, b5]) s = .next (s.turnedAway m (writeReply 1 6 index))) ∧
    (fits → s.ann.clips[k].state ≠ .empty →
      exec (.clipWrite m index [b0, b1, b2, b3, b4, b5]) s = .next (s.turnedAway m (writeReply 3 6 index))) ∧
    (fits → s.ann.clips[k].state = .empty → overlap →
      exec (.clipWrite m index [b0, b1, b2, b3, b4, b5]) s = .next (s.turnedAway m (writeReply 2 6 index))) ∧
    (fits → s.ann.clips[k].state = .empty → ¬ overlap →
      exec (.clipWrite m index [b0, b1, b2, b3, b4, b5]) s = .next
        (({ s with ann :=
            { s.ann with
              clips := s.ann.clips.set k { s.ann.clips[k] with start := start, length := length, state := .clearing }
              fillOrder := s.ann.fillOrder ++ [k] } } : State).answered m (writeReply 0 6 index)))

/-- R99, R110: PHRASE and EVENT writes. A phrase is its count of parts and three bytes a part; one of more than 8
parts, of an unlisted kind, or that could render to more than 16 items is refused RANGE, and a GAP time is clamped to
1..2000. An event's notice byte with an unlisted code reads as either (the model's choice, log 21). -/
def Obligations.PhraseAndEventWrite : Prop :=
  (∀ (s : State) (m : Sender) (p : PhraseId) (parts : List Part), s.readyFor 1 m → parts.length ≤ 8 →
    (∀ ms, Part.gap ms ∈ parts → 1 ≤ ms ∧ ms ≤ 2000) →
    let index : Half := BitVec.ofNat 16 p.val
    let code : Part → List Byte
      | .clip k => [0, BitVec.ofNat 8 k.val, 0]
      | .number b => [1, BitVec.ofNat 8 b.val, 0]
      | .gap ms => [2, BitVec.ofNat 8 ms, BitVec.ofNat 8 (ms / 256)]
    let items : Part → Nat
      | .clip _ | .gap _ => 1
      | .number _ => 4
    exec (.phraseWrite m index (BitVec.ofNat 8 parts.length :: parts.flatMap code)) s = .next
      (if (parts.map items).sum ≤ 16 then
        ({ s with ann := { s.ann with phrases := s.ann.phrases.set p parts } } : State).answered m (writeReply 0 7 index)
      else s.turnedAway m (writeReply 1 7 index))) ∧
  (∀ (s : State) (m : Sender) (p : PhraseId) (kind low high : Byte), s.readyFor 1 m →
    2 < kind.toNat ∨ (kind = 0 ∧ 63 < twoBytes low high) ∨ (kind = 1 ∧ 35 < twoBytes low high) →
    exec (.phraseWrite m (BitVec.ofNat 16 p.val) [1, kind, low, high]) s = .next
      (s.turnedAway m (writeReply 1 7 (BitVec.ofNat 16 p.val)))) ∧
  (∀ (s : State) (m : Sender) (p : PhraseId) (count : Byte) (parts : List Byte), s.readyFor 1 m → 8 < count.toNat →
    parts.length = 3 * count.toNat →
    exec (.phraseWrite m (BitVec.ofNat 16 p.val) (count :: parts)) s = .next
      (s.turnedAway m (writeReply 1 7 (BitVec.ofNat 16 p.val)))) ∧
  (∀ (s : State) (m : Sender) (p : PhraseId) (low high : Byte), s.readyFor 1 m →
    exec (.phraseWrite m (BitVec.ofNat 16 p.val) [1, 2, low, high]) s = .next
      (({ s with ann :=
          { s.ann with phrases := s.ann.phrases.set p [.gap (max 1 (min 2000 (twoBytes low high)))] } } : State).answered
        m (writeReply 0 7 (BitVec.ofNat 16 p.val)))) ∧
  (∀ (s : State) (m : Sender) (i : Fin 16) (phrase mask priority mode notice : Byte), s.readyFor 1 m →
    let index : Half := BitVec.ofNat 16 i.val
    let write : Instr := .eventWrite m index [phrase, mask, priority, mode, notice]
    ((63 < phrase.toNat ∧ phrase ≠ 255) ∨ 31 < mask.toNat ∨ 1 < mode.toNat →
      exec write s = .next (s.turnedAway m (writeReply 1 8 index))) ∧
    (phrase.toNat ≤ 63 ∨ phrase = 255 → mask.toNat ≤ 31 → mode.toNat ≤ 1 →
      ∃ flag, readsAs notice flag ∧ exec write s = .next
        (({ s with
            freeCount := s.freeCount + 1
            ann :=
              { s.ann with
                events := s.ann.events.set i
                  { phrase := if phrase = 255 then none else some (Fin.ofNat 64 phrase.toNat)
                    mask := BitVec.ofNat 5 mask.toNat, priority := min 3 priority.toNat
                    mode := if mode = 0 then .over else .replace, notice := flag } } } : State).answered m
          (writeReply 0 8 index))))

/-- R114: a LANE write, its checks in order; it starts the lane afresh as UNSEEN. -/
def Obligations.LaneWrite : Prop :=
  ∀ (s : State) (m : Sender) (l : LaneId) (station role home silence pass : Byte), s.readyFor 1 m →
    let index : Half := BitVec.ofNat 16 (l.val + 1)
    let write : Instr := .laneWrite m index [station, role, home, silence, pass]
    let fits := station.toNat ≤ 120 ∧ role.toNat ≤ 1 ∧ 1 ≤ home.toNat ∧ home.toNat ≤ 4
    let taken := station ≠ 0 ∧ ∃ j, j ≠ l ∧ s.gate.lanes[j].station = station.toNat
    (¬ fits → exec write s = .next (s.turnedAway m (writeReply 1 9 index))) ∧
    (fits → taken → exec write s = .next (s.turnedAway m (writeReply 2 9 index))) ∧
    (fits → ¬ taken → s.gate.lanes[l].pending.isSome →
      exec write s = .next (s.turnedAway m (writeReply 3 9 index))) ∧
    (fits → ¬ taken → s.gate.lanes[l].pending = none →
      exec write s = .next
        ((s.modLane l fun n =>
            { n with
              station := station.toNat, role := if role = 0 then .entry else .exit
              home := Fin.ofNat 4 (home.toNat - 1), silenceLimit := min 30 silence.toNat
              passTimeout := max 10 (min 120 pass.toNat), state := .unseen, silenceTimer := none }).answered m
          (writeReply 0 9 index)))

/-- R130, R132, R138, R139: MENU and STATION writes. The MENU write is stated of MGMT_WRITE too. A new loop station is
UNSEEN. A raised limit tries dispatch: the head ticket of a PRESENT station with room, here its only one, is SENT and
its TICKET cell queued; a station that is not PRESENT, or has no room yet, sends nothing. A menu's available byte with
an unlisted code reads as either (the model's choice, log 21). -/
def Obligations.MenuAndStationWrite : Prop :=
  (∀ (s : State) (m : Sender) (i : Fin 256) (available primary alternate low high : Byte), s.readyFor 1 m →
    let index : Half := BitVec.ofNat 16 i.val
    ∀ write ∈ ([.menuWrite m index [available, primary, alternate, low, high]
        , .mgmtWrite m 10 index [available, primary, alternate, low, high]] : List Instr),
    (primary = 0 ∨ 8 < primary.toNat ∨ 8 < alternate.toNat →
      exec write s = .next (s.turnedAway m (writeReply 1 10 index))) ∧
    (1 ≤ primary.toNat → primary.toNat ≤ 8 → alternate.toNat ≤ 8 →
      ∃ flag, readsAs available flag ∧ exec write s = .next
        (({ s with
            freeCount := s.freeCount + 1
            router :=
              { s.router with
                menu := s.router.menu.set i
                  { available := flag, primary := Fin.ofNat 8 (primary.toNat - 1)
                    alternate := if alternate = 0 then none else some (Fin.ofNat 8 (alternate.toNat - 1))
                    portions :=
                      if twoBytes low high = 65535 then none
                      else some (min 9999 (twoBytes low high)) } } } : State).answered m (writeReply 0 10 index)))) ∧
  (∀ (s : State) (m : Sender) (k : KitchenId) (station b1 b2 : Byte), s.readyFor 1 m →
    let index : Half := BitVec.ofNat 16 (k.val + 1)
    let write : Instr := .stationWrite m index [station, b1, b2]
    let old := s.router.kitchens[k]
    let limit := max 1 (min 16 b1.toNat)
    let taken := station ≠ 0 ∧ ∃ j, j ≠ k ∧ s.router.kitchens[j].loopStation = station.toNat
    let inUse := (station.toNat ≠ old.loopStation ∧ 0 < old.sent) ∨ limit < old.sent
    let new : State := s.modKitchen k fun v =>
      { v with
        loopStation := station.toNat, limit := limit, lateLimit := max 1 (min 30 b2.toNat)
        state := if v.loopStation = station.toNat then v.state else .unseen
        failRun := if v.loopStation = station.toNat then v.failRun else 0 }
    (120 < station.toNat → exec write s = .next (s.turnedAway m (writeReply 1 11 index))) ∧
    (station.toNat ≤ 120 → taken → exec write s = .next (s.turnedAway m (writeReply 2 11 index))) ∧
    (station.toNat ≤ 120 → ¬ taken → inUse → exec write s = .next (s.turnedAway m (writeReply 3 11 index))) ∧
    (station.toNat ≤ 120 → ¬ taken → ¬ inUse → limit ≤ old.limit ∨ old.backlog = [] →
      exec write s = .next (new.answered m (writeReply 0 11 index))) ∧
    (station.toNat ≤ 120 → ¬ taken → ¬ inUse → old.limit < limit →
      ∃ t, exec write s = .next t ∧
        Kept { new with mgmt := { s.mgmt with taken := min (s.mgmt.taken + 1) 65535 } } t ∧
        t.cell.urgent = s.cell.urgent ++ [mgmtReplyTo m (writeReply 0 11 index)]) ∧
    (station.toNat ≤ 120 → ¬ taken → ¬ inUse → old.limit < limit →
      station.toNat ≠ old.loopStation ∨ old.state ≠ .present ∨ limit ≤ old.sent →
      exec write s = .next (new.answered m (writeReply 0 11 index))) ∧
    (∀ (x : TicketId) (v : Ticket), station.toNat ≤ 120 → ¬ taken → station.toNat = old.loopStation →
      old.state = .present → old.limit < limit → old.sent < limit → old.backlog = [x] →
      s.router.tickets[x] = some v → v.kitchen = k → s.hasRoom 2 →
      exec write s = .next
        (({ s with
            router :=
              { s.router with
                kitchens := s.router.kitchens.set k
                  { old with
                    limit := limit, lateLimit := max 1 (min 30 b2.toNat), sent := old.sent + 1, backlog := [] }
                tickets := s.router.tickets.set x
                  (some { v with state := .sent, attempts := 0, returned := false
                                 lateTimer := some (max 1 (min 30 b2.toNat)) })
                serials := s.router.serials.set x (s.router.serials[x] + 1) }
            cell :=
              { s.cell with normal := s.cell.normal ++
                [{ kind := .ticket, dest := station.toNat, ref := .ticket x (s.router.serials[x] + 1)
                   payload := le16 v.order ++
                     le8 (match s.order? v.order with
                       | some o => screenNumber o.screen
                       | none => 0) ++
                     le8 (k.val + 1) ++ flagByte v.rush ++ le8 v.lines.length ++ lineBytes v.lines }] } } :
            State).answered m (writeReply 0 11 index))))

/-- R34: a TAP write; the entry's drop counter starts at 0. The valid and ANY bytes with an unlisted code read as either
(log 21), and a destination beyond 120 is refused where ANY does not stand (log 23). -/
def Obligations.TapWrite : Prop :=
  ∀ (s : State) (m : Sender) (i : Fin 32) (action : TapAction) (b0 b1 b2 b3 b4 b5 b6 b7 : Byte), s.readyFor 1 m →
    let index : Half := BitVec.ofNat 16 i.val
    let write : Instr := .tapWrite m index [b0, b1, b2, b3, b4, b5, b6, b7]
    let fits := 1 ≤ b3.toNat ∧ b3.toNat ≤ b4.toNat ∧ b4.toNat ≤ 120 ∧ (b6 = 1 ∨ b5.toNat ≤ 120)
    (2 < b7.toNat ∨ b3 = 0 ∨ b4.toNat < b3.toNat ∨ 120 < b4.toNat ∨ (b6 = 0 ∧ 120 < b5.toNat) →
      ∃ draws, exec write s = .next (({ s with freeCount := draws } : State).turnedAway m (writeReply 1 12 index))) ∧
    (action.code = b7.toNat → fits →
      ∃ valid kindAny destAny, readsAs b0 valid ∧ readsAs b2 kindAny ∧ readsAs b6 destAny ∧ exec write s = .next
        (({ s with
            freeCount := s.freeCount + 3
            cell :=
              { s.cell with
                taps := s.cell.taps.set i
                  { valid := valid, kind := b1.toNat, kindAny := kindAny, sourceLow := b3.toNat
                    sourceHigh := b4.toNat, dest := b5.toNat, destAny := destAny, action := action
                    drops := 0 } } } : State).answered m
          (writeReply 0 12 index)))

/-- R81, R92, R156: a read of OUTPUT_STATUS of outputs 1 to 4 answers the entry and then clears CLIPPED; of the bytes of
output 5 that no rule gives a value nothing is said (log 22). An index outside 1..5 is answered UNKNOWN. -/
def Obligations.OutputStatusRead : Prop :=
  ∀ (s : State) (m : Sender) (index : Half), s.readyFor 1 m →
    let playing (o : OutputId) : Byte :=
      match s.ann.queues[o].playing with
      | none => 0
      | some e => if e.mode = .over then 1 else 2
    let bit (n : Byte) (b : Bool) : Byte := if b then n else 0
    (index = 0 ∨ 5 < index.toNat →
      exec (.outputStatusRead m index) s = .next (s.turnedAway m (writeReply 7 21 index))) ∧
    (∀ c : ScreenId, index.toNat = c.val + 1 →
      let v := s.sound.outputs[outputOf c]
      let x := s.sound.transmitters[c]
      let carrier : Byte :=
        match x.carrier with
        | .unknown => 0
        | .on => 1
        | .off => 2
      exec (.outputStatusRead m index) s = .next
        ((s.modOutput (outputOf c) fun w => { w with clipped := false }).answered m
          (writeReply 0 21 index ++ le16 s.sound.lines[c].delay ++ le16 v.gain ++ le16 v.duck ++
            ([playing (outputOf c), bit 1 v.clipped + bit 2 v.deadAir + bit 4 s.screens[c].sound.cut
              , x.sticky.zeroExtend 8, carrier, bit 1 s.screens[c].sound.locked
              , bit 1 s.screens[c].sound.lost] : List Byte)))) ∧
    (index = 5 →
      let v := s.sound.outputs[paOutput]
      ∃ d0 d1 sticky carrier lock lost : Byte, exec (.outputStatusRead m index) s = .next
        ((s.modOutput paOutput fun w => { w with clipped := false }).answered m
          (writeReply 0 21 index ++ [d0, d1] ++ le16 v.gain ++ le16 v.duck ++
            ([playing paOutput, bit 1 v.clipped + bit 2 v.deadAir, sticky, carrier, lock, lost] : List Byte))))

/-! ## The operator's commands (04, 09) -/

/-- R54, R55, R58, R62, R157: START, accepted on an enabled IDLE screen only: an empty segment ends at once; a first cue that
waits for a GO leaves the sequencer RUNNING on it; a FOLLOW cue that sets PRESHOW fires and the next one waits. -/
def Obligations.StartCommand : Prop :=
  ∀ (s : State) (m : Sender) (c : ScreenId), s.readyFor 2 m →
    let screen : Byte := BitVec.ofNat 8 (c.val + 1)
    let r := s.screens[c].seq
    let ready := s.screens[c].config.enabled = true ∧ r.state = .idle ∧ r.shown = .dark
    let unloaded : Vector (Option Nat) 256 := Vector.ofFn fun i : Fin 256 =>
      if r.segBase ≤ i.val ∧ i.val < r.segBase + r.segLimit then none else s.seqr.loopCounters[i]
    let begun : ShowRecord :=
      { r with
        holdReason := none, cueIndex := 0, goPending := false, rehearsal := false, clock := 0, afterRef := 0
        frameCount := 0, resting := false, pausedByHold := false }
    (∀ b : Byte, b = 0 ∨ 4 < b.toNat →
      ∃ low high, exec (.start m b) s = .next (s.turnedAway m (commandReply 1 1 low high))) ∧
    (s.screens[c].config.enabled = false ∨ r.state ≠ .idle →
      ∃ low high, exec (.start m screen) s = .next (s.turnedAway m (commandReply 4 1 low high))) ∧
    (ready → r.segLimit = 0 →
      ∃ low high, exec (.start m screen) s = .next
        ((s.modSeq c fun _ => { begun with state := .idle }).answered m (commandReply 0 1 low high))) ∧
    (ready → 1 ≤ r.segLimit → s.seqr.cues[(Fin.ofNat 256 r.segBase : Fin 256)].trigger = .go →
      ∃ low high, exec (.start m screen) s = .next
        (({ s.modSeq c fun _ => { begun with state := .running } with
            seqr := { s.seqr with loopCounters := unloaded } } : State).answered m (commandReply 0 1 low high))) ∧
    (ready → 2 ≤ r.segLimit → r.segBase + r.segLimit ≤ 256 →
      s.seqr.cues[(Fin.ofNat 256 r.segBase : Fin 256)].trigger = .follow →
      s.seqr.cues[(Fin.ofNat 256 r.segBase : Fin 256)].action = .segment →
      s.seqr.cues[(Fin.ofNat 256 r.segBase : Fin 256)].args[0] = 1 →
      s.seqr.cues[(Fin.ofNat 256 (r.segBase + 1) : Fin 256)].trigger = .go →
      ∃ t low high, exec (.start m screen) s = .next t ∧
        t.screens[c].seq = { begun with state := .running, shown := .preshow, cueIndex := 1 } ∧
        (∀ d : ScreenId, d ≠ c → t.screens[d].seq = s.screens[d].seq) ∧
        (∀ d : ScreenId, t.screens[d].config = s.screens[d].config ∧ t.screens[d].field = s.screens[d].field ∧
          t.screens[d].sound = s.screens[d].sound ∧ t.screens[d].ordering = s.screens[d].ordering) ∧
        t.cell.urgent = s.cell.urgent ++ [mgmtReplyTo m (commandReply 0 1 low high)] ∧
        t.seqr = { s.seqr with loopCounters := unloaded } ∧ ({ s with seqr := t.seqr } : State).sameButTraffic t)

/-- R63, R70, R55, R58, R60, R62, R157: GO. It is refused in IDLE. From HELD it resumes, with PLAY where a failure hold had
paused the projector. It fires a GO cue, here one that sets a level, and moves on; behind the last cue the screen ends.
It stays pending where the cue rests, and at a CLOCK cue before its time. At a DUSK cue that waits for the dusk it is
used up and the cue fires (R56). A PLAY that the part sends by itself has argument 0 (the model's choice, log 44). -/
def Obligations.GoCommand : Prop :=
  ∀ (s : State) (m : Sender) (c : ScreenId), s.readyFor 2 m →
    let screen : Byte := BitVec.ofNat 8 (c.val + 1)
    let r := s.screens[c].seq
    let cue := s.currentCue c
    let level : State := s.modOutputConfig (outputOf c) fun g =>
      { g with gainTarget := cue.args[0].toNat + 256 * cue.args[1].toNat }
    (∀ b : Byte, b = 0 ∨ 4 < b.toNat →
      ∃ low high, exec (.go m b) s = .next (s.turnedAway m (commandReply 1 2 low high))) ∧
    (r.state = .idle →
      ∃ low high, exec (.go m screen) s = .next (s.turnedAway m (commandReply 4 2 low high))) ∧
    (r.state = .held → s.waitsForGo c →
      ∃ low high, exec (.go m screen) s = .next
        (if r.pausedByHold = true then
          (if s.screens[c].config.projector = 0 then
            ({ s.modSeq c fun v =>
                  { v with state := .running, holdReason := none, resting := false, pausedByHold := false } with
                seqr := { s.seqr with skippedProj := min (s.seqr.skippedProj + 1) 65535 } } : State)
          else
            { s.modSeq c fun v =>
                { v with state := .running, holdReason := none, resting := false, pausedByHold := false } with
              cell := { s.cell with urgent := s.cell.urgent ++
                [{ kind := .projCmd, dest := s.screens[c].config.projector, payload := [1, 0], ref := .screen c }] } }).answered
            m (commandReply 0 2 low high)
        else
          (s.modSeq c fun v => { v with state := .running, holdReason := none, resting := false }).answered m
            (commandReply 0 2 low high))) ∧
    (s.runsFreely c → s.waitsForGo c → cue.action = .level → r.segBase + r.segLimit ≤ 256 →
      (r.cueIndex + 1 < r.segLimit →
        s.seqr.cues[(Fin.ofNat 256 (r.segBase + (r.cueIndex + 1)) : Fin 256)].trigger = .go →
        ∃ low high, exec (.go m screen) s = .next
          ((level.modSeq c fun v => { v with afterRef := v.clock, cueIndex := v.cueIndex + 1 }).answered m
            (commandReply 0 2 low high))) ∧
      (r.cueIndex + 1 = r.segLimit →
        ∃ t low high, exec (.go m screen) s = .next t ∧ t.screens[c].seq.state = .idle ∧
          t.screens[c].seq.shown = .dark ∧ t.screens[c].seq.cueIndex = r.cueIndex ∧
          t.sound = level.sound ∧
          t.cell.urgent = s.cell.urgent ++ [mgmtReplyTo m (commandReply 0 2 low high)] ∧
          (∀ d : ScreenId, d ≠ c → t.screens[d].seq = s.screens[d].seq ∧ t.screens[d].field = s.screens[d].field) ∧
          ({ s with sound := t.sound } : State).sameButTraffic t)) ∧
    (r.state = .running → r.resting = true ∨ (cue.trigger = .clock ∧ r.clock < cue.time) →
      ∃ low high, exec (.go m screen) s = .next
        ((s.modSeq c fun v => { v with goPending := true }).answered m (commandReply 0 2 low high))) ∧
    (s.runsFreely c → cue.trigger = .dusk → cue.action = .level → r.segBase + r.segLimit ≤ 256 →
      (∀ lux, s.seqr.lux = some lux → s.mgmt.site.dusk < lux) → r.cueIndex + 1 < r.segLimit →
      s.seqr.cues[(Fin.ofNat 256 (r.segBase + (r.cueIndex + 1)) : Fin 256)].trigger = .go →
      ∃ low high, exec (.go m screen) s = .next
        ((level.modSeq c fun v =>
            { v with goPending := false, afterRef := v.clock, cueIndex := v.cueIndex + 1 }).answered m
          (commandReply 0 2 low high)))

/-- R64, R65, R62, R10, R68, R157: HOLD, REHEARSE and ABORT. ABORT ends the show in IDLE and DARK, with admission and
ordering CLOSED, and sends STOP to the screen's projector, with argument 0 (the model's choice, log 44). -/
def Obligations.HoldRehearseAbort : Prop :=
  ∀ (s : State) (m : Sender) (c : ScreenId), s.readyFor 3 m →
    let screen : Byte := BitVec.ofNat 8 (c.val + 1)
    let r := s.screens[c].seq
    (∀ b setting : Byte, b = 0 ∨ 4 < b.toNat →
      ∃ low high, exec (.hold m b) s = .next (s.turnedAway m (commandReply 1 3 low high)) ∧
        exec (.abort m b) s = .next (s.turnedAway m (commandReply 1 4 low high)) ∧
        exec (.rehearse m b setting) s = .next (s.turnedAway m (commandReply 1 5 low high))) ∧
    (∀ setting : Byte, 1 < setting.toNat →
      ∃ low high, exec (.rehearse m screen setting) s = .next (s.turnedAway m (commandReply 1 5 low high))) ∧
    (r.state = .idle →
      ∃ low high, exec (.hold m screen) s = .next (s.turnedAway m (commandReply 4 3 low high)) ∧
        exec (.abort m screen) s = .next (s.turnedAway m (commandReply 4 4 low high)) ∧
        exec (.rehearse m screen 0) s = .next (s.turnedAway m (commandReply 4 5 low high)) ∧
        exec (.rehearse m screen 1) s = .next (s.turnedAway m (commandReply 4 5 low high))) ∧
    (r.state ≠ .idle →
      (∃ low high, exec (.hold m screen) s = .next
        ((if r.state = .running then s.modSeq c fun v => { v with state := .held, holdReason := some .operator }
          else s).answered m (commandReply 0 3 low high)) ∧
        exec (.rehearse m screen 0) s = .next
          ((s.modSeq c fun v => { v with rehearsal := false }).answered m (commandReply 0 5 low high)) ∧
        exec (.rehearse m screen 1) s = .next
          ((s.modSeq c fun v => { v with rehearsal := true }).answered m (commandReply 0 5 low high))) ∧
      ∃ t low high, exec (.abort m screen) s = .next t ∧
        t.screens[c].seq =
          { r with
            state := .idle, shown := .dark, holdReason := none, goPending := false, rehearsal := false
            resting := false, pausedByHold := false } ∧
        t.screens[c].field.occupancy = s.screens[c].field.occupancy ∧
        (r.shown ≠ .dark → t.screens[c].field.admission = .closed ∧ t.screens[c].ordering = .closed) ∧
        (∀ d : ScreenId, d ≠ c → t.screens[d].seq = s.screens[d].seq ∧ t.screens[d].field = s.screens[d].field ∧
          t.screens[d].ordering = s.screens[d].ordering) ∧
        t.cell.urgent =
          s.cell.urgent ++
            (if s.screens[c].config.projector = 0 then []
             else [{ kind := .projCmd, dest := s.screens[c].config.projector, payload := [3, 0], ref := .screen c }]) ++
            [mgmtReplyTo m (commandReply 0 4 low high)] ∧
        t.seqr.skippedProj =
          (if s.screens[c].config.projector = 0 then min (s.seqr.skippedProj + 1) 65535 else s.seqr.skippedProj) ∧
        ({ s with seqr := { s.seqr with skippedProj := t.seqr.skippedProj } } : State).sameButTraffic t)

/-- R66: PANEL_KEY. A key of another station than the screen's panel, of a screen outside 1..4, or of an unlisted code is
ignored and counted; HOLD and GO keys act as the commands do, without a reply; a refused one is counted. -/
def Obligations.PanelKeys : Prop :=
  ∀ (s : State) (source key : Byte) (c : ScreenId), s.stranger source →
    let screen : Byte := BitVec.ofNat 8 (c.val + 1)
    let r := s.screens[c].seq
    let ignored : State := s.modSeqr fun q => { q with ignoredKeys := min (q.ignoredKeys + 1) 65535 }
    let refused : State := s.modSeqr fun q => { q with refusedKeys := min (q.refusedKeys + 1) 65535 }
    let fromPanel := s.screens[c].config.panel ≠ 0 ∧ s.screens[c].config.panel = source.toNat
    (∀ b : Byte, b = 0 ∨ 4 < b.toNat → exec (.panelKey source b key) s = .next ignored) ∧
    (key = 0 ∨ 4 < key.toNat → exec (.panelKey source screen key) s = .next ignored) ∧
    (¬ fromPanel → exec (.panelKey source screen key) s = .next ignored) ∧
    (fromPanel → r.state = .idle →
      exec (.panelKey source screen 2) s = .next refused ∧ exec (.panelKey source screen 3) s = .next refused ∧
        exec (.panelKey source screen 4) s = .next refused) ∧
    (fromPanel → r.state ≠ .idle → exec (.panelKey source screen 1) s = .next refused) ∧
    (fromPanel → r.state = .running →
      exec (.panelKey source screen 3) s = .next
        (s.modSeq c fun v => { v with state := .held, holdReason := some .operator })) ∧
    (fromPanel → r.state = .held → s.waitsForGo c → r.pausedByHold = false →
      exec (.panelKey source screen 2) s = .next
        (s.modSeq c fun v => { v with state := .running, holdReason := none, resting := false }))

/-! ## Clocks, the sky and projectors (04) -/

/-- R55, R67, R57, R58, R60: the show clocks. On SHOW_CLOCK_TICK every RUNNING screen on the TIMEBASE gains 1, here
with a cue that waits for a GO; a PROGRAMME screen gains 1 on its own tick while its input is LOCKED. A CLOCK cue
whose time has come fires, here one that sets a level, and counts as late past its time. The end of a rest tests the
cue once: a cue that waits stays, and one whose trigger holds fires, here one that sets a level, by FOLLOW, by a CLOCK
time that has come, or by a GO that is pending. That a CLOCK cue is late where the clock stands beyond its time as it
fires, and that a rest which ends in HELD tests nothing, are the model's choices (DEDUCED, logs 18 and 41). An expiry
whose timer does not run, or an event that cannot come yet, changes nothing (the model's choice, log 4). -/
def Obligations.ShowClocks : Prop :=
  (∀ s : State, (∀ c : ScreenId, s.waitsForGo c) →
    exec .showClockTick s = .next
      { s with screens := Vector.ofFn fun c : ScreenId =>
          if s.screens[c].seq.state = .running ∧ s.screens[c].config.clockSource = .timebase ∧
              s.screens[c].seq.clock < 16777215 then
            { s.screens[c] with seq := { s.screens[c].seq with clock := s.screens[c].seq.clock + 1 } }
          else s.screens[c] }) ∧
  (∀ (s : State) (c : ScreenId),
    let r := s.screens[c].seq
    let cue := s.currentCue c
    let counts := r.state = .running ∧ s.screens[c].config.clockSource = .programme ∧ s.screens[c].sound.locked = true
    (¬ counts → exec (.programmeClockTick c) s = .next s) ∧
    (counts → s.waitsForGo c →
      exec (.programmeClockTick c) s = .next
        (s.modSeq c fun v =>
          { v with frameCount := 0, clock := if v.clock < 16777215 then v.clock + 1 else v.clock })) ∧
    (counts → s.runsFreely c → r.clock < 16777215 → cue.trigger = .clock → cue.time ≤ r.clock + 1 →
      cue.action = .level → r.cueIndex + 1 < r.segLimit → r.goPending = false →
      s.seqr.cues[(Fin.ofNat 256 (r.segBase + (r.cueIndex + 1)) : Fin 256)].trigger = .go →
      exec (.programmeClockTick c) s = .next
        (((s.modSeq c fun v =>
            { v with frameCount := 0, clock := v.clock + 1, afterRef := v.clock + 1, cueIndex := v.cueIndex + 1 }).modOutputConfig
          (outputOf c) fun g => { g with gainTarget := cue.args[0].toNat + 256 * cue.args[1].toNat }).modSeqr fun q =>
            { q with lateCues := if cue.time < r.clock + 1 then min (q.lateCues + 1) 65535 else q.lateCues })) ∧
    (r.resting = false → exec (.restEnd c) s = .next s) ∧
    (r.resting = true → r.state ≠ .running ∨ s.waitsForGo c →
      exec (.restEnd c) s = .next (s.modSeq c fun v => { v with resting := false })) ∧
    (r.resting = true → r.state = .running → r.rehearsal = false → cue.action = .level →
      r.cueIndex + 1 < r.segLimit →
      s.seqr.cues[(Fin.ofNat 256 (r.segBase + (r.cueIndex + 1)) : Fin 256)].trigger = .go →
      (r.goPending = false ∧ (cue.trigger = .follow ∨ (cue.trigger = .clock ∧ cue.time ≤ r.clock))) ∨
        (r.goPending = true ∧ cue.trigger = .go) →
      exec (.restEnd c) s = .next
        (((s.modSeq c fun v =>
            { v with
              resting := false, goPending := false, afterRef := v.clock, cueIndex := v.cueIndex + 1 }).modOutputConfig
          (outputOf c) fun g => { g with gainTarget := cue.args[0].toNat + 256 * cue.args[1].toNat }).modSeqr fun q =>
            { q with lateCues :=
                if cue.trigger = .clock ∧ cue.time < r.clock then min (q.lateCues + 1) 65535 else q.lateCues })))

/-- R56, R69: the sky and projectors. A SKY_REPORT sets the lux and its age timer and tests every screen's cue; a DUSK cue
fires at or below the dusk threshold, here one that sets a level. A PROJ_STATE sets the state of every screen with that
projector; one that turns to FAULT holds such a RUNNING show with hold on failure; one that no screen matches is
counted.
An expiry whose timer does not run, or an event that cannot come yet, changes nothing (the model's choice, log 4). -/
def Obligations.SkyAndProjectors : Prop :=
  (∀ (s : State) (source : Byte) (lux : Half), s.stranger source →
    let told : State := s.modSeqr fun q => { q with lux := some lux.toNat, skyTimer := some 60 }
    ((∀ c : ScreenId, s.screens[c].seq.state = .running → s.screens[c].seq.resting = false → s.waitsForGo c) →
      exec (.skyReport source lux) s = .next told) ∧
    (∀ c : ScreenId, s.runsFreely c → (s.currentCue c).trigger = .dusk → s.screens[c].seq.goPending = false →
      (s.currentCue c).action = .level → s.screens[c].seq.cueIndex + 1 < s.screens[c].seq.segLimit →
      s.seqr.cues[(Fin.ofNat 256 (s.screens[c].seq.segBase + (s.screens[c].seq.cueIndex + 1)) : Fin 256)].trigger = .go →
      (∀ d, d ≠ c → s.screens[d].seq.state ≠ .running) →
      exec (.skyReport source lux) s = .next
        (if lux.toNat ≤ s.mgmt.site.dusk then
          (told.modSeq c fun v => { v with afterRef := v.clock, cueIndex := v.cueIndex + 1 }).modOutputConfig (outputOf c)
            fun g =>
              { g with gainTarget := (s.currentCue c).args[0].toNat + 256 * (s.currentCue c).args[1].toNat }
        else told))) ∧
  (∀ s : State,
    exec .skyAgeExpiry s = .next
      (if s.seqr.skyTimer.isSome then s.modSeqr fun q => { q with lux := none, skyTimer := none } else s)) ∧
  (∀ (s : State) (source state : Byte), s.stranger source →
    let has (c : ScreenId) : Prop := s.screens[c].config.projector ≠ 0 ∧ s.screens[c].config.projector = source.toNat
    (state = 0 ∨ 4 < state.toNat ∨ (∀ c, ¬ has c) →
      exec (.projState source state) s = .next
        (s.modSeqr fun q => { q with unmatchedProj := min (q.unmatchedProj + 1) 65535 })) ∧
    (∀ p : ProjState, p ≠ .unknown → p.code = state.toNat → (∃ c, has c) →
      ∃ t, exec (.projState source state) s = .next t ∧ t = { s with screens := t.screens } ∧
        ∀ c : ScreenId,
          (¬ has c → t.screens[c] = s.screens[c]) ∧
          (has c → t.screens[c] =
            { s.screens[c] with seq :=
                if p = .fault ∧ s.screens[c].seq.projState ≠ .fault ∧ s.screens[c].config.holdOnFailure = true ∧
                    s.screens[c].seq.state = .running then
                  { s.screens[c].seq with projState := p, state := .held, holdReason := some .projFault }
                else { s.screens[c].seq with projState := p } })))

/-! ## Announcements (06) -/

/-- R97: CLIP_SEAL and CLIP_DELETE. A clip outside 0..63 is refused RANGE, a seal in another state than LOADING STATE, a
delete of a clip with uses IN_USE. -/
def Obligations.ClipSealAndDelete : Prop :=
  ∀ (s : State) (m : Sender) (k : ClipId), s.readyFor 1 m →
    let clip : Byte := BitVec.ofNat 8 k.val
    (∀ b : Byte, 63 < b.toNat →
      ∃ low high, exec (.clipSeal m b) s = .next (s.turnedAway m (commandReply 1 10 low high)) ∧
        exec (.clipDelete m b) s = .next (s.turnedAway m (commandReply 1 11 low high))) ∧
    (∃ low high, exec (.clipSeal m clip) s = .next
      (if s.ann.clips[k].state = .loading then
        (s.modClip k fun v => { v with state := .ready }).answered m (commandReply 0 10 low high)
      else s.turnedAway m (commandReply 4 10 low high))) ∧
    (∃ low high, exec (.clipDelete m clip) s = .next
      (if s.ann.clips[k].uses = 0 then
        ({ s with ann :=
            { s.ann with
              clips := s.ann.clips.set k { s.ann.clips[k] with state := .empty }
              fillOrder := s.ann.fillOrder.filter fun j => decide (j ≠ k) } } : State).answered m
          (commandReply 0 11 low high)
      else s.turnedAway m (commandReply 3 11 low high)))

/-- R95, R96: a CLIP_DATA cell writes its samples to a clip that is LOADING, from its offset on; the end of a fill leaves the
clip's whole region 0 and the clip LOADING.
An expiry whose timer does not run, or an event that cannot come yet, changes nothing (the model's choice, log 4). -/
def Obligations.ClipLoading : Prop :=
  (∀ (s : State) (m : Sender) (k : ClipId) (offset : BitVec 24) (run : List Sample16), s.readyFor 1 m → s.storesFit →
    s.ann.clips[k].start + s.ann.clips[k].length ≤ 8388608 →
    let clip : Byte := BitVec.ofNat 8 k.val
    let index : Half := BitVec.ofNat 16 k.val
    let first := s.ann.clips[k].start + offset.toNat
    let send : Instr := .clipData m clip offset run
    (run = [] → exec send s = .next (s.turnedAway m (writeReply 1 6 index))) ∧
    (run ≠ [] →
      match s.ann.clips[k].state with
      | .clearing => exec send s = .next (s.turnedAway m (writeReply 5 6 index))
      | .empty | .ready => exec send s = .next (s.turnedAway m (writeReply 4 6 index))
      | .loading =>
        if s.ann.clips[k].length < offset.toNat + run.length then
          exec send s = .next (s.turnedAway m (writeReply 1 6 index))
        else
          ∃ memory : List (Nat × Sample16),
            exec send s = .next
              (({ s with ann := { s.ann with memory := memory } } : State).answered m (writeReply 0 6 index)) ∧
            (∀ j < run.length, clipRead memory (first + j) = run.getD j 0) ∧
            ∀ a, a < first ∨ first + run.length ≤ a → clipRead memory a = clipRead s.ann.memory a)) ∧
  (∀ (s : State) (m : Sender) (clip : Byte) (offset : BitVec 24) (run : List Sample16), s.readyFor 1 m →
    63 < clip.toNat →
    exec (.clipData m clip offset run) s = .next (s.turnedAway m (writeReply 1 6 (clip.zeroExtend 16)))) ∧
  (∀ s : State,
    (s.ann.fillOrder = [] → exec .fillCompletion s = .next s) ∧
    (∀ k rest, s.ann.fillOrder = k :: rest →
      ∃ memory : List (Nat × Sample16),
        exec .fillCompletion s = .next
          { s with ann :=
              { s.ann with
                memory := memory, fillOrder := rest
                clips := s.ann.clips.set k { s.ann.clips[k] with state := .loading } } } ∧
        ∀ a, clipRead memory a =
          if s.ann.clips[k].start ≤ a ∧ a < s.ann.clips[k].start + s.ann.clips[k].length then 0
          else clipRead s.ann.memory a))

/-- R98, R101, R102, R103, R105: the command ANNOUNCE for one output with one clip as its phrase. The rendered entry joins
the output's queue, empty but for an entry that may play, and preempts a playing one of lower priority if its own is 3; a
clip that is not READY or has 255 uses is left out, and an empty rendering is counted.
Two clauses are the model's choices: a preempting entry plays at once, in the same step (DEDUCED, log 37), and an entry's
join is the next number of the one counter (DESIGN CHOICE, log 30). -/
def Obligations.AnnounceCommand : Prop :=
  ∀ (s : State) (m : Sender) (p : PhraseId) (k : ClipId) (o : OutputId) (priority : Byte) (mode : AnnMode)
    (number : Half), s.readyFor 1 m →
    let phrase : Byte := BitVec.ofNat 8 p.val
    let modeByte : Byte := BitVec.ofNat 8 mode.code
    let mask : Byte := BitVec.ofNat 8 (2 ^ o.val)
    let entry : QueueEntry :=
      { origin := .console, priority := min 3 priority.toNat, mode := mode, items := [.clip k], order := none, next := 0
        offset := 0, join := s.ann.joins }
    (∀ b0 b1 b3 : Byte, 63 < b0.toNat ∨ b1 = 0 ∨ 31 < b1.toNat ∨ 1 < b3.toNat →
      ∃ low high, exec (.announce m b0 b1 priority b3 number) s = .next
        (s.turnedAway m (commandReply 1 12 low high))) ∧
    (s.ann.phrases[p] = [.clip k] →
      (s.ann.clips[k].state ≠ .ready ∨ 255 ≤ s.ann.clips[k].uses →
        ∃ low high, exec (.announce m phrase mask priority modeByte number) s = .next
          ((s.modAnn fun a =>
              { a with
                skippedItems := min (a.skippedItems + 1) 65535
                emptyRenders := min (a.emptyRenders + 1) 65535 }).answered m (commandReply 0 12 low high))) ∧
      (s.ann.clips[k].state = .ready → s.ann.clips[k].uses < 255 → s.ann.queues[o].waiting = [] →
        ∃ low high, exec (.announce m phrase mask priority modeByte number) s = .next
          ((s.modAnn fun a =>
              let used : Composer :=
                { a with
                  clips := a.clips.set k { a.clips[k] with uses := a.clips[k].uses + 1 }, joins := a.joins + 1 }
              match a.queues[o].playing with
              | none => { used with queues := a.queues.set o { playing := none, waiting := [entry] } }
              | some e =>
                if 3 ≤ priority.toNat ∧ e.priority < 3 then
                  { used with
                    queues := a.queues.set o
                      { playing := some entry, waiting := [{ e with next := 0, offset := 0 }] }
                    preemptions := a.preemptions.set o (min (a.preemptions[o] + 1) 65535) }
                else { used with queues := a.queues.set o { playing := some e, waiting := [entry] } }).answered m
            (commandReply 0 12 low high))))

/-- R98, R104, R106: ENTRY_START and ENTRY_END. An uncut output with nothing playing starts its first waiting entry; the
playing entry, here of one clip and no order, ends, releases its use and the next one starts.
An expiry whose timer does not run, or an event that cannot come yet, changes nothing (the model's choice, log 4). -/
def Obligations.EntryStartAndEnd : Prop :=
  ∀ (s : State) (o : OutputId),
    (s.ann.queues[o].playing.isSome ∨ s.ann.queues[o].waiting = [] ∨
        (∃ c : ScreenId, o = outputOf c ∧ s.screens[c].sound.cut = true) →
      exec (.entryStart o) s = .next s) ∧
    ((∀ c : ScreenId, o = outputOf c → s.screens[c].sound.cut = false) →
      ∀ e es, s.ann.queues[o].playing = none → s.ann.queues[o].waiting = e :: es →
        exec (.entryStart o) s = .next
          { s with ann := { s.ann with queues := s.ann.queues.set o { playing := some e, waiting := es } } }) ∧
    (s.ann.queues[o].playing = none → exec (.entryEnd o) s = .next s) ∧
    (∀ (p : QueueEntry) (k : ClipId), s.ann.queues[o].playing = some p → p.items = [.clip k] → p.order = none →
      (∀ c : ScreenId, o = outputOf c → s.screens[c].heldCalls = [] ∧ s.screens[c].sound.cut = false) →
      exec (.entryEnd o) s = .next
        { s with ann :=
            { s.ann with
              clips := s.ann.clips.set k { s.ann.clips[k] with uses := s.ann.clips[k].uses - 1 }
              queues := s.ann.queues.set o
                (match s.ann.queues[o].waiting with
                | [] => { playing := none, waiting := [] }
                | e :: es => { playing := some e, waiting := es }) } })

/-! ## Field, ordering and site commands (07, 08, 09) -/

/-- R124, R125, R128: SET_COUNT sets both counts, clamped, clears the uncertain flag and moves the near-full and full flags.
The flags' moves are told to the console. -/
def Obligations.SetCount : Prop :=
  ∀ (s : State) (m : Sender) (c : ScreenId) (count tall : Half), s.readyFor 3 m →
    let screen : Byte := BitVec.ofNat 8 (c.val + 1)
    let g := s.screens[c].config
    let f := s.screens[c].field
    let o := min 4095 count.toNat
    (∀ b : Byte, b = 0 ∨ 4 < b.toNat →
      ∃ low high, exec (.setCount m b count tall) s = .next (s.turnedAway m (commandReply 1 20 low high))) ∧
    (g.low < g.high ∨ (g.high = 0 ∧ g.low = 0) →
      ∃ t low high, exec (.setCount m screen count tall) s = .next t ∧
        t.screens[c].field =
          ({ f with occupancy := o, tall := min o tall.toNat, uncertain := false } : FieldCounts).flagged g ∧
        t.screens[c].config = g ∧ t.screens[c].seq = s.screens[c].seq ∧
        (∀ d, d ≠ c → t.screens[d] = s.screens[d]) ∧
        t.cell.urgent = s.cell.urgent ++ [mgmtReplyTo m (commandReply 0 20 low high)] ∧ s.sameButTraffic t ∧
        s.tells t (s.fieldTold t c))

/-- R127, R150: SET_ADMISSION and SET_ORDERING; neither opens a DARK screen. -/
def Obligations.SetAdmissionAndOrdering : Prop :=
  ∀ (s : State) (m : Sender) (c : ScreenId), s.readyFor 1 m →
    let screen : Byte := BitVec.ofNat 8 (c.val + 1)
    let dark := s.screens[c].seq.shown = .dark
    (∀ b state : Byte, b = 0 ∨ 4 < b.toNat →
      ∃ low high, exec (.setAdmission m b state) s = .next (s.turnedAway m (commandReply 1 21 low high)) ∧
        exec (.setOrdering m b state) s = .next (s.turnedAway m (commandReply 1 22 low high))) ∧
    (∀ state : Byte,
      (1 < state.toNat →
        ∃ low high, exec (.setAdmission m screen state) s = .next (s.turnedAway m (commandReply 1 21 low high))) ∧
      (2 < state.toNat →
        ∃ low high, exec (.setOrdering m screen state) s = .next (s.turnedAway m (commandReply 1 22 low high)))) ∧
    (∀ a : Admission, ∃ low high,
      exec (.setAdmission m screen (BitVec.ofNat 8 a.code)) s = .next
        (if a = .opened ∧ dark then s.turnedAway m (commandReply 4 21 low high)
         else (s.modField c fun f => { f with admission := a }).answered m (commandReply 0 21 low high))) ∧
    (∀ o : OrderingState, ∃ low high,
      exec (.setOrdering m screen (BitVec.ofNat 8 o.code)) s = .next
        (if o ≠ .closed ∧ dark then s.turnedAway m (commandReply 4 22 low high)
         else (s.modScreen c fun v => { v with ordering := o }).answered m (commandReply 0 22 low high)))

/-- R109, R146, R148: CANCEL_ORDER. A number that no live order holds is refused RANGE. Else the order and its tickets
are freed and its calls withdrawn, and the command is answered DONE. A ticket in BACKLOG leaves it and gives its
portions back, saturating at 9999. R138, R149: a SENT ticket gives its place at the station back, a TICKET_VOID tells
the station, and a dispatch is tried there, which sends nothing or the head of the backlog; no portions are given
back. -/
def Obligations.CancelOrder : Prop :=
  ∀ (s : State) (m : Sender) (number : Half), s.readyFor 1 m →
    ((∀ o ∈ s.router.orders, o.number ≠ number.toNat) →
      ∃ low high, exec (.cancelOrder m number) s = .next (s.turnedAway m (commandReply 1 23 low high))) ∧
    (∀ o, s.order? number.toNat = some o →
      ∃ t, exec (.cancelOrder m number) s = .next t ∧ (∀ v ∈ t.router.orders, v.number ≠ number.toNat) ∧
        (∀ x ∈ o.tickets, t.router.tickets[x] = none) ∧
        (∀ d : OutputId, ∀ e ∈ t.ann.queues[d].waiting, e.order ≠ some number.toNat) ∧
        (∀ c : ScreenId, number.toNat ∉ t.screens[c].heldCalls ∧ t.screens[c].seq = s.screens[c].seq ∧
          t.screens[c].field = s.screens[c].field) ∧
        t.gate = s.gate ∧ t.sound = s.sound ∧ t.seqr = s.seqr ∧ t.loop = s.loop ∧
        (∀ (x : TicketId) (v : Ticket) (item : Byte) (q : Nat), o.tickets = [x] → s.router.tickets[x] = some v →
          v.state = .backlog → v.lines = [⟨item, q⟩] → s.hasRoom 2 →
          t.router.kitchens = s.router.kitchens.set v.kitchen
            { s.router.kitchens[v.kitchen] with
              backlog := s.router.kitchens[v.kitchen].backlog.filter fun y => decide (y ≠ x) } ∧
          (∀ i : Fin 256, t.router.menu[i] =
            if i.val = item.toNat then
              { s.router.menu[i] with portions := s.router.menu[i].portions.map fun n => min (n + q) 9999 }
            else s.router.menu[i]) ∧
          t.cell.normal =
            s.cell.normal ++
              (if s.mgmt.site.board = 0 then []
               else
                [{ kind := .orderState, dest := s.mgmt.site.board
                   payload := le16 o.number ++ le8 (screenNumber o.screen) ++ le8 4 ++ le8 o.callCount ++
                     flagByte o.late }]) ∧
          ∃ low high, t.cell.urgent = s.cell.urgent ++ [mgmtReplyTo m (commandReply 0 23 low high)]) ∧
        (∀ (x : TicketId) (v : Ticket) (next : State), o.tickets = [x] → s.router.tickets[x] = some v →
          v.state = .sent → s.hasRoom 4 →
          let station := s.router.kitchens[v.kitchen]
          let voided : State :=
            { s with
              router :=
                { s.router with
                  tickets := s.router.tickets.set x none
                  kitchens := s.router.kitchens.set v.kitchen { station with sent := station.sent - 1 } }
              cell :=
                { s.cell with normal := s.cell.normal ++
                  [{ kind := .ticketVoid, dest := station.loopStation, ref := .voided x
                     payload := le16 o.number ++ le8 (v.kitchen.val + 1) }] } }
          (voided.sendsNone v.kitchen ∧ next = voided) ∨
            (∃ y w, voided.sendsOne v.kitchen y w ∧ next = voided.withSent v.kitchen y w) →
          t.router.menu = s.router.menu ∧ t.router.kitchens = next.router.kitchens ∧
            t.router.tickets = next.router.tickets ∧ t.router.serials = next.router.serials ∧
            t.cell.normal = next.cell.normal ++
              (if s.mgmt.site.board = 0 then []
               else
                [{ kind := .orderState, dest := s.mgmt.site.board
                   payload := le16 o.number ++ le8 (screenNumber o.screen) ++ le8 4 ++ le8 o.callCount ++
                     flagByte o.late }]) ∧
            ∃ low high, t.cell.urgent = s.cell.urgent ++ [mgmtReplyTo m (commandReply 0 23 low high)]))

/-- R160: CLEAR_COUNTERS sets every statistics counter to 0, its own cell's among them, and changes no flag, latch,
timer or window count. -/
def Obligations.ClearCounters : Prop :=
  ∀ (s : State) (m : Sender), s.readyFor 1 m →
    ∃ t low high, exec (.clearCounters m) s = .next t ∧ (∀ page : Fin 8, ∀ n ∈ t.counterPage page, n = 0) ∧
      (∀ c : ScreenId, t.screens[c] =
        { s.screens[c] with field := { s.screens[c].field with tailgates := 0, underflows := 0, expiries := 0 } }) ∧
      (∀ p : PortId, t.port p = { s.port p with lineErrors := 0, linkDowns := 0 }) ∧
      t.loop.arriving = s.loop.arriving ∧ t.loop.gapError = s.loop.gapError ∧ t.loop.errorRunB = s.loop.errorRunB ∧
      (∀ i : Fin 32, t.cell.taps[i] = { s.cell.taps[i] with drops := 0 }) ∧
      t.cell.urgent = s.cell.urgent ++ [mgmtReplyTo m (commandReply 0 40 low high)] ∧
      t.cell.normal = s.cell.normal ∧ t.cell.tracker = s.cell.tracker ∧ t.cell.buffer = s.cell.buffer ∧
      t.cell.sending = s.cell.sending ∧ t.cell.tagCounter = s.cell.tagCounter ∧
      t.seqr.cues = s.seqr.cues ∧ t.seqr.loopCounters = s.seqr.loopCounters ∧ t.seqr.lux = s.seqr.lux ∧
      t.seqr.skyTimer = s.seqr.skyTimer ∧ t.sound.config = s.sound.config ∧ t.sound.lines = s.sound.lines ∧
      (∀ o : OutputId, t.sound.outputs[o] = { s.sound.outputs[o] with clamps := 0 }) ∧
      (∀ c : ScreenId, t.sound.inputs[c] = { s.sound.inputs[c] with lockLosses := 0, malformed := 0 } ∧
        t.sound.transmitters[c] = { s.sound.transmitters[c] with unanswered := 0 }) ∧
      t.ann.clips = s.ann.clips ∧ t.ann.memory = s.ann.memory ∧ t.ann.fillOrder = s.ann.fillOrder ∧
      t.ann.phrases = s.ann.phrases ∧ t.ann.events = s.ann.events ∧ t.ann.queues = s.ann.queues ∧
      t.gate.lanes = s.gate.lanes ∧ t.router.menu = s.router.menu ∧ t.router.kitchens = s.router.kitchens ∧
      t.router.orders = s.router.orders ∧ t.router.tickets = s.router.tickets ∧
      t.router.serials = s.router.serials ∧ t.router.nextNumber = s.router.nextNumber ∧
      t.mgmt.site = s.mgmt.site ∧ t.mgmt.restart = s.mgmt.restart ∧ t.time = s.time ∧ t.station = s.station

/-- R155, R161: RESTART_WARM sets the restart flag and answers DONE with the reply at whose turn the restart takes effect; at
a transmit queue full of URGENT entries the reply is dropped and the restart takes effect at once. -/
def Obligations.RestartWarmCommand : Prop :=
  ∀ (s : State) (m : Sender),
    (s.readyFor 1 m →
      ∃ low high, exec (.restartWarm m) s = .next
        { s with
          freeCount := s.freeCount + 1
          mgmt := { s.mgmt with taken := min (s.mgmt.taken + 1) 65535, restart := true }
          cell := { s.cell with urgent := s.cell.urgent ++
            [{ mgmtReplyTo m (commandReply 0 41 low high) with endsRestart := true }] } }) ∧
    (s.readyFor 0 m → s.cell.normal = [] → s.cell.urgent.length = 16 →
      ∃ t, exec (.restartWarm m) s = .next t ∧ t.mgmt.restart = false ∧ t.cell.urgent = [] ∧ t.cell.tracker = [] ∧
        ∀ c : ScreenId, s.screens[c].seq.state = .running →
          t.screens[c].seq = { s.screens[c].seq with state := .held, holdReason := some .restart })

/-! ## The Sound Path (05) -/

/-- R72, R73, R76: programme frames. The first of a run counts neither good nor bad; one late by a miss starts a run;
a bad half or an early start is malformed; 48 good ones lock the input, whose frames then enter the delay line. A miss
or a malformed frame unlocks it and starts the sound-lost delay, at whose end the sound is lost and SOUND_LOST tells
of it; a lock that ends it tells SOUND_BACK. R67: on a LOCKED input every frame counts for the show clock of a RUNNING
screen on PROGRAMME, and the 480th moves it, here with a cue that waits for a GO. The model's choices: the locking
frame is not counted for that clock (DEDUCED, log 26), a start beyond 21,100 ns comes after a miss (DESIGN CHOICE, log
27), the PAUSE of a failure hold has argument 0 (DESIGN CHOICE, log 44), and an expiry whose delay does not run
changes nothing (DEDUCED, log 4). -/
def Obligations.ProgrammeFrames : Prop :=
  ∀ (s : State) (c : ScreenId) (left right gap : Nat) (f : Frame), s.storesFit →
    let i := s.sound.inputs[c]
    let frame : Instr := .programmeFrame c left right gap f
    let good := i.fresh = false ∧ gap ≤ 21100 ∧ left = 32 ∧ right = 32 ∧ 20600 ≤ gap
    let unlocked : State :=
      if s.screens[c].sound.locked = true then
        (s.modScreenSound c fun v => { v with locked := false }).modInput c fun v =>
          { v with lostDelay := some 2, lockLosses := min (v.lockLosses + 1) 65535 }
      else s
    (i.fresh = true → exec frame s = .next (s.modInput c fun v => { v with run := 0, fresh := false })) ∧
    (i.fresh = false → 21100 < gap →
      exec frame s = .next (unlocked.modInput c fun v => { v with run := 0, fresh := false })) ∧
    (i.fresh = false → gap ≤ 21100 → left ≠ 32 ∨ right ≠ 32 ∨ gap < 20600 →
      exec frame s = .next
        (unlocked.modInput c fun v => { v with run := 0, malformed := min (v.malformed + 1) 65535 })) ∧
    (good → s.screens[c].sound.locked = false → i.run < 47 →
      exec frame s = .next (s.modInput c fun v => { v with run := v.run + 1 })) ∧
    (good → s.screens[c].sound.locked = false → i.run = 47 →
      ∃ (t : State) (line : DelayLine), exec frame s = .next t ∧ s.sound.lines[c].gains line f ∧
        t.sound.inputs = s.sound.inputs.set c { i with run := 48, lostDelay := none } ∧
        t.sound.lines = s.sound.lines.set c line ∧ t.sound.outputs = s.sound.outputs ∧
        t.screens[c].sound = { s.screens[c].sound with locked := true, lost := false } ∧
        (∀ d : ScreenId, t.screens[d].seq = s.screens[d].seq ∧ t.screens[d].field = s.screens[d].field) ∧
        (s.screens[c].sound.lost = false → t.cell = s.cell ∧ t.ann = s.ann ∧ t.mgmt = s.mgmt)) ∧
    (good → s.screens[c].sound.locked = true →
      ¬ (s.screens[c].seq.state = .running ∧ s.screens[c].config.clockSource = .programme) →
      ∃ line : DelayLine, s.sound.lines[c].gains line f ∧
        exec frame s = .next
          ((s.modInput c fun v => { v with run := min (v.run + 1) 48 }).modLine c fun _ => line)) ∧
    exec (.frameMissed c) s = .next (unlocked.modInput c fun v => { v with run := 0, fresh := true }) ∧
    (i.lostDelay = none → exec (.soundLostDelayExpiry c) s = .next s) ∧
    (i.lostDelay.isSome → s.hasRoom 2 →
      let holds := s.screens[c].config.holdOnFailure = true ∧ s.screens[c].seq.state = .running ∧
        s.screens[c].config.clockSource = .programme
      ∃ t, exec (.soundLostDelayExpiry c) s = .next t ∧
        t.sound = { s.sound with inputs := s.sound.inputs.set c { i with lostDelay := none } } ∧
        t.screens[c].sound = { s.screens[c].sound with lost := true } ∧
        t.screens[c].field = s.screens[c].field ∧
        t.screens[c].seq =
          (if holds then
            { s.screens[c].seq with
              state := .held, holdReason := some .soundLost
              pausedByHold :=
                s.screens[c].seq.pausedByHold || decide (s.screens[c].config.projector ≠ 0) }
          else s.screens[c].seq) ∧
        t.cell.urgent =
          s.cell.urgent ++
            (if holds ∧ s.screens[c].config.projector ≠ 0 then
              [{ kind := .projCmd, dest := s.screens[c].config.projector, payload := [2, 0], ref := .screen c }]
            else []) ∧
        (∀ d, d ≠ c → t.screens[d] = s.screens[d]) ∧
        t.loop = s.loop ∧ t.gate = s.gate ∧
        s.tells t [⟨5, c.val + 1, i.lockLosses, some s.screens[c].seq.clock⟩]) ∧
    (good → s.screens[c].sound.locked = false → i.run = 47 → s.screens[c].sound.lost = true → s.hasRoom 1 →
      ∃ t, exec frame s = .next t ∧ s.tells t [⟨6, c.val + 1, 0, some s.screens[c].seq.clock⟩]) ∧
    (good → s.screens[c].sound.locked = true → s.screens[c].seq.state = .running →
      s.screens[c].config.clockSource = .programme → s.screens[c].seq.frameCount + 1 < 480 ∨ s.waitsForGo c →
      ∃ line : DelayLine, s.sound.lines[c].gains line f ∧
        exec frame s = .next
          (((s.modInput c fun v => { v with run := min (v.run + 1) 48 }).modLine c fun _ => line).modSeq c fun v =>
            if v.frameCount + 1 < 480 then { v with frameCount := v.frameCount + 1 }
            else { v with frameCount := 0, clock := min (v.clock + 1) (max v.clock 16777215) }))

/-- R76, R78, R79, R80, R81, R82, R83: one output frame period with no announcement that ends or starts in it and no
level block that ends in it. Gain and duck move toward their targets; a line of a LOCKED input moves its read position
on, a line of another input takes a frame of zeros first; each output delivers the mix of its delayed frame and its
announcement within its ceiling, or zeros when it is cut, or dark and muted. R81: each value that the ceiling held is
counted and sets CLIPPED. R84: the peak of the block takes the values delivered, and a cut or muted period leaves the
block unjudged. R77: where the slew phase wraps the line compares the delay that stood before, and its delay moves
toward the target. The order inside a period is the model's choice (DESIGN CHOICE, log 7). -/
def Obligations.SamplePeriod : Prop :=
  ∀ s : State, s.storesFit →
    (∀ o : OutputId, (s.ann.queues[o].playing = none → s.ann.queues[o].waiting = []) ∧
      (∀ e, s.ann.queues[o].playing = some e → e.next < e.items.length) ∧ s.sound.outputs[o].blockPos < 479) →
    (∀ c : ScreenId, s.sound.lines[c].read ≤ 9599 ∧ s.sound.lines[c].write ≤ 9599) →
    ∃ t, exec .samplePeriod s = .next t ∧
      t =
        { s with
          sound := { s.sound with outputs := t.sound.outputs, lines := t.sound.lines }
          ann := { s.ann with queues := t.ann.queues } } ∧
      (∀ o : OutputId, t.ann.queues[o].waiting = s.ann.queues[o].waiting ∧
        (s.ann.queues[o].playing = none → t.ann.queues[o].playing = none)) ∧
      (∀ c : ScreenId,
        (s.screens[c].sound.locked = true → s.sound.lines[c].phase < 63 →
          t.sound.lines[c] =
            { s.sound.lines[c] with
              phase := s.sound.lines[c].phase + 1
              read :=
                if s.sound.lines[c].read = s.sound.lines[c].write then s.sound.lines[c].read
                else (s.sound.lines[c].read + 1) % 9600 }) ∧
        (s.screens[c].sound.locked = false →
          t.sound.lines[c].write = (s.sound.lines[c].write + 1) % 9600 ∧
            memRead zeroFrame t.sound.lines[c].frames t.sound.lines[c].write = ⟨0, 0⟩) ∧
        let delay (l : DelayLine) : Nat := (l.write + 9600 - l.read) % 9600
        let before := delay s.sound.lines[c]
        let target := s.sound.config[outputOf c].delayTarget
        (s.screens[c].sound.locked = false → s.sound.lines[c].phase < 63 →
          t.sound.lines[c].phase = s.sound.lines[c].phase + 1 ∧ delay t.sound.lines[c] = before) ∧
        (s.screens[c].sound.locked = false → s.sound.lines[c].phase = 63 → target ≤ 9599 →
          t.sound.lines[c].phase = 0 ∧
            delay t.sound.lines[c] =
              (if before < target then before + 1 else if target < before then before - 1 else before)) ∧
        (s.screens[c].sound.locked = true → s.sound.lines[c].phase = 63 →
          t.sound.lines[c].phase = 0 ∧ t.sound.lines[c].write = s.sound.lines[c].write ∧
            t.sound.lines[c].frames = s.sound.lines[c].frames ∧
            delay t.sound.lines[c] =
              (if before < target then before else if target < before then before - 2 else before - 1))) ∧
      ∀ o : OutputId,
        let v := s.sound.outputs[o]
        let w := t.sound.outputs[o]
        let target := s.sound.config[o].gainTarget
        let duckTarget :=
          match s.ann.queues[o].playing with
          | none => 4096
          | some e => if e.mode = .over then s.sound.config[o].duckLevel else 0
        let ceiling : Int := s.sound.config[o].ceiling
        let mix (p : Sample24) : Int :=
          (p.toInt * w.gain * w.duck + 8388608) / 16777216 +
            (s.announceSample o * 256 * s.sound.config[o].annGain + 2048) / 4096
        let screenFrame (c : ScreenId) : Frame := memRead zeroFrame t.sound.lines[c].frames t.sound.lines[c].read
        let counts (l r : Int) : Prop :=
          let held := (if -ceiling ≤ l ∧ l ≤ ceiling then 0 else 1) + (if -ceiling ≤ r ∧ r ≤ ceiling then 0 else 1)
          w.clamps = min (v.clamps + held) 65535 ∧ w.clipped = (v.clipped || decide (0 < held))
        w.gain = (if v.gain ≤ target then min (v.gain + 16) target else max (v.gain - 16) target) ∧
        w.duck =
          (if v.duck ≤ duckTarget then min (v.duck + s.sound.config[o].duckRate) duckTarget
           else max (v.duck - s.sound.config[o].duckRate) duckTarget) ∧
        w.blockPos = v.blockPos + 1 ∧
        (∀ c : ScreenId, o = outputOf c →
          (s.screens[c].sound.cut = true → w.left = 0 ∧ w.right = 0 ∧ w.clamps = min v.clamps 65535) ∧
          (s.screens[c].sound.cut = false →
            (s.screens[c].seq.shown = .dark → s.sound.config[o].darkRemap = .mute →
              w.left = 0 ∧ w.right = 0 ∧ w.clamps = min v.clamps 65535) ∧
            (s.screens[c].seq.shown ≠ .dark ∨ s.sound.config[o].darkRemap = .programme →
              w.left = max (-ceiling) (min ceiling (mix (screenFrame c).left)) ∧
                w.right = max (-ceiling) (min ceiling (mix (screenFrame c).right))) ∧
            (s.screens[c].seq.shown = .dark → s.sound.config[o].darkRemap = .pa →
              w.left = max (-ceiling) (min ceiling t.sound.outputs[paOutput].left) ∧
                w.right = max (-ceiling) (min ceiling t.sound.outputs[paOutput].right)))) ∧
        (o = paOutput →
          (∀ c, s.sound.config[o].paSource = some c →
            w.left = max (-ceiling) (min ceiling (mix (screenFrame c).left)) ∧
              w.right = max (-ceiling) (min ceiling (mix (screenFrame c).right))) ∧
          (s.sound.config[o].paSource = none →
            w.left = max (-ceiling) (min ceiling (mix 0)) ∧ w.right = max (-ceiling) (min ceiling (mix 0)))) ∧
        w.peak = max v.peak (max w.left.natAbs w.right.natAbs) ∧ w.silentRun = v.silentRun ∧ w.deadAir = v.deadAir ∧
        (w.blockVoid = true ↔ v.blockVoid = true ∨ ∃ c : ScreenId, o = outputOf c ∧
          (s.screens[c].sound.cut = true ∨
            (s.screens[c].seq.shown = .dark ∧ s.sound.config[o].darkRemap = .mute))) ∧
        (∀ c : ScreenId, o = outputOf c →
          (s.screens[c].sound.cut = true ∨ (s.screens[c].seq.shown = .dark ∧ s.sound.config[o].darkRemap = .mute) →
            w.clipped = v.clipped) ∧
          (s.screens[c].sound.cut = false → s.screens[c].seq.shown ≠ .dark ∨ s.sound.config[o].darkRemap = .programme →
            counts (mix (screenFrame c).left) (mix (screenFrame c).right)) ∧
          (s.screens[c].sound.cut = false → s.screens[c].seq.shown = .dark → s.sound.config[o].darkRemap = .pa →
            counts t.sound.outputs[paOutput].left t.sound.outputs[paOutput].right)) ∧
        (o = paOutput →
          (∀ c, s.sound.config[o].paSource = some c → counts (mix (screenFrame c).left) (mix (screenFrame c).right)) ∧
          (s.sound.config[o].paSource = none → counts (mix 0) (mix 0)))

/-- R77, R84: the slew step of a delay line, and the end of a level block: a block with a cut or muted period is not judged;
one at or above the threshold ends a silent run; one below it lengthens the run, and reports dead air once when the run
is long enough. That SLEW_STEP at any phase, and LEVEL_BLOCK_END at any block position, is that one event now, the step
with no zero frame and the phase then 0, is the model's choice (DESIGN CHOICE, log 7; DEDUCED, log 4). -/
def Obligations.SlewStepAndBlockEnd : Prop :=
  (∀ (s : State) (c : ScreenId), s.sound.lines[c].read ≤ 9599 → s.sound.lines[c].write ≤ 9599 →
    let delay (l : DelayLine) : Nat := (l.write + 9600 - l.read) % 9600
    let target := s.sound.config[outputOf c].delayTarget
    ∃ (t : State) (read : Nat), exec (.slewStep c) s = .next t ∧
      t = s.modLine c (fun l => { l with read := read, phase := 0 }) ∧
      delay t.sound.lines[c] =
        (if delay s.sound.lines[c] < target then delay s.sound.lines[c]
         else if target < delay s.sound.lines[c] then delay s.sound.lines[c] - 2
         else delay s.sound.lines[c] - 1)) ∧
  (∀ (s : State) (o : OutputId),
    let v := s.sound.outputs[o]
    let run := min (v.silentRun + 1) 6000
    let ended : OutputState := { v with blockPos := 0, peak := 0, blockVoid := false }
    (v.blockVoid = true → exec (.levelBlockEnd o) s = .next (s.modOutput o fun _ => ended)) ∧
    (v.blockVoid = false → s.sound.config[o].silenceThreshold ≤ v.peak →
      exec (.levelBlockEnd o) s = .next (s.modOutput o fun _ => { ended with silentRun := 0, deadAir := false })) ∧
    (v.blockVoid = false → v.peak < s.sound.config[o].silenceThreshold →
      v.silentRun + 1 < s.sound.config[o].deadAirBlocks ∨ v.deadAir = true →
      exec (.levelBlockEnd o) s = .next (s.modOutput o fun _ => { ended with silentRun := run })) ∧
    (v.blockVoid = false → v.peak < s.sound.config[o].silenceThreshold →
      s.sound.config[o].deadAirBlocks ≤ v.silentRun + 1 → v.deadAir = false →
      ∃ t, exec (.levelBlockEnd o) s = .next t ∧
        t.sound = (s.modOutput o fun _ => { ended with silentRun := run, deadAir := true }).sound ∧
        t.screens = s.screens ∧ ({ s with sound := t.sound } : State).sameButTraffic t ∧
        (s.hasRoom 1 → s.ann.events[(7 : Fin 16)].notice = true →
          ∃ cell : OwnCell, t.cell = { s.cell with normal := s.cell.normal ++ [cell] } ∧ cell.kind = .notice ∧
            cell.dest = s.mgmt.site.console ∧
            cell.payload.take 8 = [7, if o = paOutput then 0 else 1] ++ le16 (o.val + 1) ++ le32 run)))

/-- R85, R86, R87, R88, R89, R106: TX_STATUS, TX_SILENCE_EXPIRY and CLEAR_FAULT. A report sets the carrier state,
gathers the flags and loads the silence timer; a flag of the autocut mask cuts the output, sends CARRIER_OFF, stops
its announcements and holds the show as configured, and TX_CUT tells of it; the end of a silence timer tells
TX_SILENT. CLEAR_FAULT empties the flags and ends a cut with CARRIER_ON. The model's choices: an expiry whose timer
does not run changes nothing (DEDUCED, log 4), bits 3 to 7 of a report's flags are ignored (DESIGN CHOICE, log 46),
and a PAUSE of the part's own has argument 0 (DESIGN CHOICE, log 44). -/
def Obligations.TransmitterWatch : Prop :=
  (∀ (s : State) (source carrier flags : Byte), s.stranger source →
    (carrier = 0 ∨ 2 < carrier.toNat ∨
        (∀ c : ScreenId, s.sound.config[outputOf c].txStation = 0 ∨
          s.sound.config[outputOf c].txStation ≠ source.toNat) →
      exec (.txStatus source carrier flags) s = .next
        (s.modSound fun p => { p with unmatchedTx := min (p.unmatchedTx + 1) 65535 })) ∧
    (∀ (c : ScreenId) (report : Carrier), report.code = carrier.toNat → report ≠ .unknown →
      s.sound.config[outputOf c].txStation = source.toNat → source ≠ 0 →
      (∀ d, d ≠ c → s.sound.config[outputOf d].txStation ≠ source.toNat) →
      let bits : BitVec 3 := flags.truncate 3
      let g := s.sound.config[outputOf c]
      let v := s.screens[c]
      let told : State := s.modTransmitter c fun x =>
        { x with
          carrier := report, sticky := x.sticky ||| bits
          silenceTimer := if g.txSilenceLimit = 0 then none else some g.txSilenceLimit }
      (bits &&& g.autocut = 0 ∨ v.sound.cut = true → exec (.txStatus source carrier flags) s = .next told) ∧
      (bits &&& g.autocut ≠ 0 → v.sound.cut = false → s.hasRoom 3 →
        let holds := v.config.holdOnFailure = true ∧ v.seq.state = .running
        ∃ t, exec (.txStatus source carrier flags) s = .next t ∧ t.sound = told.sound ∧
          t.screens[c].sound = { v.sound with cut := true } ∧ t.ann.queues[outputOf c].playing = none ∧
          t.screens[c].seq =
            (if holds then
              { v.seq with
                state := .held, holdReason := some .txCut
                pausedByHold := v.seq.pausedByHold || decide (v.config.projector ≠ 0) }
            else v.seq) ∧
          t.cell.urgent =
            s.cell.urgent ++ [{ kind := .txCmd, dest := source.toNat, payload := [1], ref := .output c }] ++
              (if holds ∧ v.config.projector ≠ 0 then
                [{ kind := .projCmd, dest := v.config.projector, payload := [2, 0], ref := .screen c }]
              else []) ∧
          (∀ d, d ≠ c → t.screens[d] = s.screens[d]) ∧ t.gate = s.gate ∧ t.loop = s.loop ∧
          s.tells t
            [⟨8, c.val + 1, (s.sound.transmitters[c].sticky ||| bits).toNat, some v.seq.clock⟩]))) ∧
  (∀ (s : State) (c : ScreenId),
    (s.sound.transmitters[c].silenceTimer = none → exec (.txSilenceExpiry c) s = .next s) ∧
    (s.sound.transmitters[c].silenceTimer.isSome →
      ∃ t, exec (.txSilenceExpiry c) s = .next t ∧
        t.sound = (s.modTransmitter c fun x => { x with silenceTimer := none }).sound ∧ t.screens = s.screens ∧
        ({ s with sound := t.sound } : State).sameButTraffic t ∧
        (s.hasRoom 1 →
          s.tells t
            [⟨9, c.val + 1, s.sound.config[outputOf c].txStation, some s.screens[c].seq.clock⟩]))) ∧
  (∀ (s : State) (m : Sender) (c : ScreenId), s.readyFor 2 m →
    let output : Byte := BitVec.ofNat 8 (c.val + 1)
    let emptied : State := s.modTransmitter c fun x => { x with sticky := 0 }
    let station := s.sound.config[outputOf c].txStation
    (∀ b : Byte, b = 0 ∨ 4 < b.toNat →
      ∃ low high, exec (.clearFault m b) s = .next (s.turnedAway m (commandReply 1 30 low high))) ∧
    (s.screens[c].sound.cut = false →
      ∃ low high, exec (.clearFault m output) s = .next (emptied.answered m (commandReply 0 30 low high))) ∧
    (s.screens[c].sound.cut = true →
      let opened : State := emptied.modScreenSound c fun v => { v with cut := false }
      ∃ low high, exec (.clearFault m output) s = .next
        ((if station = 0 then opened.modSound fun p => { p with skippedTx := min (p.skippedTx + 1) 65535 }
          else
            { opened with cell :=
                { s.cell with urgent := s.cell.urgent ++
                  [{ kind := .txCmd, dest := station, payload := [2], ref := .output c }] } }).answered m
          (commandReply 0 30 low high))))

/-! ## The Gate Counter (07) -/

/-- R115, R117, R118, R119, R124: ADMIT_ASK and its verdicts; a GRANT makes the lane's pending admission, and where it
fills the field FIELD_FULL tells of it. -/
def Obligations.AdmitAsk : Prop :=
  (∀ (s : State) (m : Sender) (screen vehicle : Byte), s.stranger m.source → s.hasRoom 1 →
    exec (.admitAsk m screen vehicle) s = .next
      { s with cell := { s.cell with urgent := s.cell.urgent ++
          [{ kind := .admitReply, dest := m.source.toNat, payload := [1, screen, 0, 0, 0, 0], echo := some m.tag }] } }) ∧
  (∀ (s : State) (m : Sender) (l : LaneId) (screen vehicle : Byte), s.fromLane m.source l → s.hasRoom 2 →
    let seen : State := s.modLane l Lane.heard
    let refusal (code : Byte) : State :=
      { seen with cell := { s.cell with urgent := s.cell.urgent ++
          [{ kind := .admitReply, dest := m.source.toNat, payload := [code, screen, 0, 0, 0, 0]
             echo := some m.tag }] } }
    let ask : Instr := .admitAsk m screen vehicle
    let lane := s.gate.lanes[l]
    let places (c : ScreenId) : Int :=
      (s.screens[c].config.capacity : Int) - s.screens[c].field.occupancy - s.screens[c].config.reserved -
        s.screens[c].field.pending
    let admits (c : ScreenId) : Prop :=
      s.screens[c].config.enabled = true ∧ s.screens[c].field.admission = .opened
    let hasPlace (c : ScreenId) (v : Vehicle) : Prop :=
      0 < places c ∧ (v = .tall →
        s.screens[c].field.tall + s.screens[c].field.tallPending < s.screens[c].config.tallQuota)
    (lane.role = .exit → exec ask s = .next (refusal 1)) ∧
    (lane.role = .entry → lane.pending.isSome → exec ask s = .next (refusal 2)) ∧
    (lane.role = .entry → lane.pending = none → 4 < screen.toNat ∨ 1 < vehicle.toNat →
      exec ask s = .next (refusal 3)) ∧
    (∀ v : Vehicle, lane.role = .entry → lane.pending = none → v.code = vehicle.toNat →
      (∀ c : ScreenId, screen.toNat = c.val + 1 → ¬ admits c → exec ask s = .next (refusal 4)) ∧
      (∀ c : ScreenId, screen.toNat = c.val + 1 → admits c → ¬ hasPlace c v → exec ask s = .next (refusal 5)) ∧
      (screen = 0 → (∀ c, ¬ admits c) → exec ask s = .next (refusal 4)) ∧
      (screen = 0 → (∃ c, admits c) → (∀ c, admits c → ¬ hasPlace c v) → exec ask s = .next (refusal 5)) ∧
      (∀ c : ScreenId, admits c → hasPlace c v →
        screen.toNat = c.val + 1 ∨
          (screen = 0 ∧ ∀ d, d ≠ c → admits d → hasPlace d v → places d < places c ∨ (places d = places c ∧ c < d)) →
        ∃ t, exec ask s = .next t ∧
          t.gate = (s.modLane l fun n =>
            { n.heard with pending := some { screen := c, vehicle := v, passTimer := n.passTimeout } }).gate ∧
          t.screens[c].field =
            { s.screens[c].field with
              pending := s.screens[c].field.pending + 1
              tallPending :=
                if v = .tall then s.screens[c].field.tallPending + 1 else s.screens[c].field.tallPending
              full := decide (places c - 1 ≤ 0) } ∧
          t.screens[c].config = s.screens[c].config ∧ t.screens[c].seq = s.screens[c].seq ∧
          (∀ d, d ≠ c → t.screens[d] = s.screens[d]) ∧
          t.cell.urgent = s.cell.urgent ++
            [{ kind := .admitReply, dest := m.source.toNat, echo := some m.tag
               payload := [0] ++ le8 (c.val + 1) ++ le8 s.sound.config[outputOf c].tuneChannel ++ [vehicle] ++
                 le16 (places c - 1).toNat }] ∧
          ({ s with gate := t.gate } : State).sameButTraffic t ∧
          s.tells t
            (if s.screens[c].field.full = false ∧ places c - 1 ≤ 0 then
              [⟨0, c.val + 1, s.screens[c].field.occupancy, some s.screens[c].seq.clock⟩]
            else []))))

/-- R115, R121, R122, R123, R124, R125: ENTERED, BACKED_OUT and EXITED. A car enters on its lane's pending admission,
or as a tailgate; a car that backs out gives its place back; a car that leaves an EXIT lane is counted off. What does
not fit the lane's role is stray, and an unknown source or vehicle unmatched; each is counted. Each move of a field's
flags is told: FIELD_NEAR_FULL, FIELD_REOPEN, FIELD_FULL. An unlisted vehicle code is unmatched and nothing else (the
model's choice, DESIGN CHOICE, log 49). -/
def Obligations.Passages : Prop :=
  (∀ (s : State) (source vehicle : Byte), s.stranger source →
    let unmatched : State := s.modGate fun g => { g with unmatchedPassages := min (g.unmatchedPassages + 1) 65535 }
    exec (.entered source vehicle) s = .next unmatched ∧ exec (.backedOut source vehicle) s = .next unmatched ∧
      exec (.exited source vehicle) s = .next unmatched) ∧
  (∀ (s : State) (source vehicle : Byte) (l : LaneId), s.fromLane source l →
    let seen : State := s.modLane l Lane.heard
    let unmatched : State := seen.modGate fun g => { g with unmatchedPassages := min (g.unmatchedPassages + 1) 65535 }
    let stray : State := seen.modGate fun g => { g with strayPassages := min (g.strayPassages + 1) 65535 }
    let cleared : GateCounter := (s.modLane l fun n => { n.heard with pending := none }).gate
    let lane := s.gate.lanes[l]
    let gained (f : FieldCounts) (v : Vehicle) : FieldCounts :=
      { f with
        occupancy := min (f.occupancy + 1) 4095
        tall := if v = .tall ∧ f.tall < min (f.occupancy + 1) 4095 then f.tall + 1 else f.tall }
    let unpended (f : FieldCounts) (v : Vehicle) : FieldCounts :=
      { f with
        pending := f.pending - 1, tallPending := if v = .tall then f.tallPending - 1 else f.tallPending }
    let only (t : State) (c : ScreenId) (f : FieldCounts) (g : GateCounter) : Prop :=
      t.gate = g ∧ t.screens[c].field = f ∧ t.screens[c].config = s.screens[c].config ∧
        t.screens[c].seq = s.screens[c].seq ∧ (∀ d, d ≠ c → t.screens[d] = s.screens[d]) ∧
        ({ s with gate := g } : State).sameButTraffic t
    (1 < vehicle.toNat →
      exec (.entered source vehicle) s = .next unmatched ∧ exec (.backedOut source vehicle) s = .next unmatched ∧
        exec (.exited source vehicle) s = .next unmatched) ∧
    (vehicle.toNat ≤ 1 → lane.role = .exit →
      exec (.entered source vehicle) s = .next stray ∧ exec (.backedOut source vehicle) s = .next stray) ∧
    (vehicle.toNat ≤ 1 → lane.role = .entry →
      exec (.exited source vehicle) s = .next stray ∧
        (lane.pending = none →
          exec (.backedOut source vehicle) s = .next
            (seen.modGate fun g => { g with strayBackouts := min (g.strayBackouts + 1) 65535 }))) ∧
    (∀ p : PendingAdmission, vehicle.toNat ≤ 1 → lane.role = .entry → lane.pending = some p →
      s.screens[p.screen].config.marksStand →
      let f := s.screens[p.screen].field
      let g := s.screens[p.screen].config
      (∃ t, exec (.entered source vehicle) s = .next t ∧
        only t p.screen ((gained (unpended f p.vehicle) p.vehicle).flagged g) cleared) ∧
      ∃ t, exec (.backedOut source vehicle) s = .next t ∧
        only t p.screen
          { unpended f p.vehicle with
            full := decide ((g.capacity : Int) - f.occupancy - g.reserved - (f.pending - 1 : Nat) ≤ 0) } cleared) ∧
    (∀ v : Vehicle, v.code = vehicle.toNat → lane.role = .entry → lane.pending = none →
      s.screens[lane.home].config.marksStand →
      let f := s.screens[lane.home].field
      ∃ t, exec (.entered source vehicle) s = .next t ∧
        only t lane.home
          (({ gained f v with tailgates := min (f.tailgates + 1) 65535 } : FieldCounts).flagged
            s.screens[lane.home].config) seen.gate) ∧
    (∀ v : Vehicle, v.code = vehicle.toNat → lane.role = .exit → s.screens[lane.home].config.marksStand →
      let f := s.screens[lane.home].field
      let tall := if v = .tall then f.tall - 1 else f.tall
      ∃ t, exec (.exited source vehicle) s = .next t ∧
        only t lane.home
          (({ f with
              occupancy := f.occupancy - 1, tall := min tall (f.occupancy - 1)
              underflows :=
                if f.occupancy = 0 ∨ (v = .tall ∧ f.tall = 0) then min (f.underflows + 1) 65535
                else f.underflows } : FieldCounts).flagged s.screens[lane.home].config) seen.gate)) ∧
  (∀ (s t : State) (source vehicle : Byte) (l : LaneId) (c : ScreenId), s.fromLane source l → s.hasRoom 2 →
    (c = match s.gate.lanes[l].pending with
      | some p => p.screen
      | none => s.gate.lanes[l].home) →
    (exec (.entered source vehicle) s = .next t ∨ exec (.backedOut source vehicle) s = .next t →
      s.tells t (s.fieldTold t c)) ∧
    (s.gate.lanes[l].pending = none → exec (.exited source vehicle) s = .next t → s.tells t (s.fieldTold t c)))

/-- R115, R116, R120, R124: a lane's beat and timers. A beat makes the lane ACTIVE and loads its silence timer. The
end of a pass timer clears the pending admission and counts. The end of a silence timer makes the lane SILENT, clears
its pending admission and flags its home field and the field of that admission uncertain; LANE_SILENT tells of the
lane and COUNT_UNCERTAIN of each field whose flag was clear, the home field first (the model's choice, log 53). An
expiry whose timer does not run, or an event that cannot come yet, changes nothing (the model's choice, log 4). -/
def Obligations.LaneBeatAndTimers : Prop :=
  (∀ (s : State) (source : Byte),
    (s.stranger source → exec (.laneBeat source) s = .next s) ∧
    (∀ l, s.fromLane source l → exec (.laneBeat source) s = .next (s.modLane l Lane.heard))) ∧
  (∀ (s : State) (l : LaneId),
    let lane := s.gate.lanes[l]
    let unpended (f : FieldCounts) (g : ScreenConfig) (v : Vehicle) : FieldCounts :=
      { f with
        pending := f.pending - 1, tallPending := if v = .tall then f.tallPending - 1 else f.tallPending
        full := decide ((g.capacity : Int) - f.occupancy - g.reserved - (f.pending - 1 : Nat) ≤ 0) }
    (lane.pending = none → exec (.passTimeout l) s = .next s) ∧
    (∀ p, lane.pending = some p →
      ∃ t, exec (.passTimeout l) s = .next t ∧
        t.gate = (s.modLane l fun n => { n with pending := none }).gate ∧
        t.screens[p.screen].field =
          { unpended s.screens[p.screen].field s.screens[p.screen].config p.vehicle with
            expiries := min (s.screens[p.screen].field.expiries + 1) 65535 } ∧
        t.screens[p.screen].seq = s.screens[p.screen].seq ∧ (∀ d, d ≠ p.screen → t.screens[d] = s.screens[d]) ∧
        ({ s with gate := t.gate } : State).sameButTraffic t ∧
        (s.hasRoom 1 → s.tells t (s.fieldTold t p.screen))) ∧
    (lane.silenceTimer = none → exec (.laneSilenceExpiry l) s = .next s) ∧
    (lane.silenceTimer.isSome → lane.pending = none →
      ∃ t, exec (.laneSilenceExpiry l) s = .next t ∧
        t.gate = (s.modLane l fun n => { n with state := .silent, silenceTimer := none }).gate ∧
        t.screens[lane.home].field = { s.screens[lane.home].field with uncertain := true } ∧
        t.screens[lane.home].seq = s.screens[lane.home].seq ∧
        (∀ d, d ≠ lane.home → t.screens[d] = s.screens[d]) ∧ ({ s with gate := t.gate } : State).sameButTraffic t ∧
        (s.hasRoom 2 → s.tells t (⟨4, l.val + 1, lane.station, none⟩ :: s.uncertainTold lane.home))) ∧
    (∀ p, lane.silenceTimer.isSome → lane.pending = some p →
      ∃ t, exec (.laneSilenceExpiry l) s = .next t ∧
        t.gate = (s.modLane l fun n => { n with state := .silent, silenceTimer := none, pending := none }).gate ∧
        t.screens[p.screen].field =
          { unpended s.screens[p.screen].field s.screens[p.screen].config p.vehicle with uncertain := true } ∧
        (p.screen ≠ lane.home →
          t.screens[lane.home].field = { s.screens[lane.home].field with uncertain := true }) ∧
        (∀ d, t.screens[d].seq = s.screens[d].seq ∧
          (d ≠ p.screen → d ≠ lane.home → t.screens[d] = s.screens[d])) ∧
        ({ s with gate := t.gate } : State).sameButTraffic t ∧
        (s.hasRoom 4 →
          s.tells t
            (⟨4, l.val + 1, lane.station, none⟩ :: (s.fieldTold t p.screen ++ s.uncertainTold lane.home ++
              (if p.screen = lane.home then [] else s.uncertainTold p.screen))))))

/-! ## The Order Router (08) -/

/-- R134, R135, R136, R137, R138, R139: ORDER_PLACE. A repeat is answered with the order's number again; the checks of
R135 refuse in their order; an order of one line takes its portions and gets the next number, a ticket and, where the
station has room, its send. At a station with no room the ticket waits: a RUSH one behind the returned and the RUSH
tickets, another at the back. A number that a live order holds is passed over. Two lines: the portions of one item are
judged over both, the first line that fails is named, lines of one station make one ticket, and lines of two stations
two tickets, the lower station's first. That the new order stands at the end of the list of orders, and that of two
new tickets the lower station's is the first of the order, is the model's choice (DESIGN CHOICE, log 25). -/
def Obligations.OrderPlace : Prop :=
  ∀ (s : State) (m : Sender) (screen : Byte) (lines : List (Byte × Byte)), s.stranger m.source → s.hasRoom 2 →
    let place : Instr := .orderPlace m screen lines
    let reply (payload : List Byte) : OwnCell :=
      { kind := .orderReply, dest := m.source.toNat, payload := payload, echo := some m.tag }
    let refused (code line : Byte) : State :=
      { s with
        router := { s.router with refused := min (s.router.refused + 1) 65535 }
        cell := { s.cell with normal := s.cell.normal ++ [reply [code, 0, 0, line]] } }
    let isNew := ∀ o ∈ s.router.orders, ¬ (o.origin = m.source.toNat ∧ o.placeTag = m.tag)
    let badOrder := 4 < screen.toNat ∨ lines = [] ∨ 8 < lines.length ∨ ∃ l ∈ lines, l.2 = 0 ∨ 15 < l.2.toNat
    let closed :=
      (screen = 0 ∧ s.mgmt.site.walkUp = false) ∨
        ∃ c : ScreenId, screen.toNat = c.val + 1 ∧ s.screens[c].ordering = .closed
    (∀ (before after : List Order) (o : Order), s.router.orders = before ++ o :: after →
      o.origin = m.source.toNat → o.placeTag = m.tag →
      (∀ v ∈ before, ¬ (v.origin = m.source.toNat ∧ v.placeTag = m.tag)) →
      exec place s = .next
        { s with
          router := { s.router with repeated := min (s.router.repeated + 1) 65535 }
          cell := { s.cell with normal := s.cell.normal ++ [reply ([0] ++ le16 o.number ++ [0])] } }) ∧
    (isNew → badOrder → exec place s = .next (refused 1 0)) ∧
    (isNew → ¬ badOrder → closed → exec place s = .next (refused 2 0)) ∧
    (∀ item q : Byte, isNew → ¬ badOrder → ¬ closed → lines = [(item, q)] →
      let i : Fin 256 := Fin.ofNat 256 item.toNat
      let dish := s.router.menu[i]
      let present (k : KitchenId) : Prop := s.router.kitchens[k].state = .present
      let stocked := ∀ n, dish.portions = some n → q.toNat ≤ n
      (dish.available = false → exec place s = .next (refused 3 1)) ∧
      (dish.available = true → ¬ stocked → exec place s = .next (refused 4 1)) ∧
      (dish.available = true → stocked → ¬ present dish.primary → (∀ k, dish.alternate = some k → ¬ present k) →
        exec place s = .next (refused 5 1)) ∧
      (∀ k : KitchenId, dish.available = true → stocked →
        ((k = dish.primary ∧ present k) ∨ (¬ present dish.primary ∧ dish.alternate = some k ∧ present k)) →
        (128 ≤ s.router.orders.length ∨ (∀ x : TicketId, s.router.tickets[x] ≠ none) →
          exec place s = .next (refused 6 0)) ∧
        (s.router.orders.length < 128 → (∃ x : TicketId, s.router.tickets[x] = none) →
          1 ≤ s.router.nextNumber → s.router.nextNumber ≤ 999 →
          (∀ o ∈ s.router.orders, o.number ≠ s.router.nextNumber) →
          s.router.kitchens[k].backlog = [] →
          let number := s.router.nextNumber
          let line : OrderLine := ⟨item, q.toNat⟩
          let station := s.router.kitchens[k]
          let sends := station.sent < station.limit
          ∃ (t : State) (x : TicketId) (rush : Bool) (scr : Option ScreenId), exec place s = .next t ∧
            screenNumber scr = screen.toNat ∧
            rush =
              (match scr with
              | none => false
              | some c => decide (s.screens[c].seq.shown = .intermission ∨ s.screens[c].ordering = .lastCall)) ∧
            s.router.tickets[x] = none ∧
            t.router.orders = s.router.orders ++
              [{ number := number, screen := scr, origin := m.source.toNat, placeTag := m.tag, state := .opened
                 rush := rush, late := false, lines := [line], tickets := [x], callCount := 0, recallLeft := none
                 callActive := false }] ∧
            t.router.tickets = s.router.tickets.set x
              (some
                { order := number, kitchen := k, lines := [line], rush := rush, returned := false, attempts := 0
                  state := if sends then .sent else .backlog
                  lateTimer := if sends then some station.lateLimit else none }) ∧
            t.router.nextNumber = (if number = 999 then 1 else number + 1) ∧
            t.router.menu = s.router.menu.set i { dish with portions := dish.portions.map fun n => n - q.toNat } ∧
            t.router.kitchens = s.router.kitchens.set k
              (if sends then { station with sent := station.sent + 1 } else { station with backlog := [x] }) ∧
            t.router.placed = min (s.router.placed + 1) 65535 ∧
            t.cell = { s.cell with normal := s.cell.normal ++ [reply ([0] ++ le16 number ++ [0])] ++
              (if sends then
                [{ kind := .ticket, dest := station.loopStation, ref := .ticket x (s.router.serials[x] + 1)
                   payload := le16 number ++ [screen] ++ le8 (k.val + 1) ++ flagByte rush ++ [1, item, q] }]
              else []) } ∧
            t = { s with router := t.router, cell := t.cell }))) ∧
    (isNew → ¬ badOrder → ¬ closed → s.router.orders.length < 128 → 1 ≤ s.router.nextNumber →
      s.router.nextNumber ≤ 999 →
      let wrapped (n : Nat) : Nat := if n = 999 then 1 else n + 1
      let dish (item : Byte) : MenuItem := s.router.menu[(Fin.ofNat 256 item.toNat : Fin 256)]
      let less (d : MenuItem) (q : Byte) : MenuItem := { d with portions := d.portions.map fun n => n - q.toNat }
      let stocked (item q : Byte) : Prop := ∀ n, (dish item).portions = some n → q.toNat ≤ n
      let serves (item : Byte) (k : KitchenId) : Prop :=
        (dish item).available = true ∧ (dish item).primary = k ∧ s.router.kitchens[k].state = .present
      let rushes : Prop := ∃ c : ScreenId, screen.toNat = c.val + 1 ∧
        (s.screens[c].seq.shown = .intermission ∨ s.screens[c].ordering = .lastCall)
      let goesBefore (y : TicketId) : Prop :=
        ∃ w, s.router.tickets[y] = some w ∧ (w.returned = true ∨ w.rush = true)
      (∀ (item q : Byte) (k : KitchenId) (number : Nat) (ahead rest : List TicketId), lines = [(item, q)] →
        serves item k → stocked item q → (∃ x : TicketId, s.router.tickets[x] = none) →
        (number = s.router.nextNumber ∨
          (number = wrapped s.router.nextNumber ∧ ∃ o ∈ s.router.orders, o.number = s.router.nextNumber)) →
        (∀ o ∈ s.router.orders, o.number ≠ number) → s.router.kitchens[k].limit ≤ s.router.kitchens[k].sent →
        s.router.kitchens[k].backlog = ahead ++ rest →
        (∀ y ∈ ahead ++ rest, s.router.tickets[y] ≠ none) → (∀ y ∈ ahead, goesBefore y) →
        (∀ y ys, rest = y :: ys → ¬ goesBefore y) →
        ∃ (t : State) (x : TicketId) (o : Order), exec place s = .next t ∧ s.router.tickets[x] = none ∧
          t.router.orders = s.router.orders ++ [o] ∧ o.number = number ∧ o.tickets = [x] ∧
          (o.rush = true ↔ rushes) ∧
          t.router.tickets = s.router.tickets.set x
            (some
              { order := number, kitchen := k, lines := [⟨item, q.toNat⟩], state := .backlog, rush := o.rush
                returned := false, attempts := 0, lateTimer := none }) ∧
          t.router.kitchens = s.router.kitchens.set k
            { s.router.kitchens[k] with
              backlog := if o.rush then ahead ++ x :: rest else s.router.kitchens[k].backlog ++ [x] } ∧
          t.router.nextNumber = wrapped number ∧
          t.cell = { s.cell with normal := s.cell.normal ++ [reply ([0] ++ le16 number ++ [0])] } ∧
          t = { s with router := t.router, cell := t.cell }) ∧
      (∀ (item q1 q2 : Byte) (n : Nat), lines = [(item, q1), (item, q2)] → (dish item).available = true →
        (dish item).portions = some n → n < q1.toNat + q2.toNat → exec place s = .next (refused 4 1)) ∧
      (∀ (i1 i2 q1 q2 : Byte) (k1 k2 : KitchenId), lines = [(i1, q1), (i2, q2)] → i1 ≠ i2 → serves i1 k1 →
        stocked i1 q1 →
        ((dish i2).available = false → exec place s = .next (refused 3 2)) ∧
        (serves i2 k2 → ¬ stocked i2 q2 → exec place s = .next (refused 4 2)) ∧
        (serves i2 k2 → stocked i2 q2 → k1 ≠ k2 →
          (∀ x y : TicketId, s.router.tickets[x] = none → s.router.tickets[y] = none → x = y) →
          exec place s = .next (refused 6 0)) ∧
        (serves i2 k2 → stocked i2 q2 → s.hasRoom 3 →
          (∀ o ∈ s.router.orders, o.number ≠ s.router.nextNumber) →
          (∀ k, k = k1 ∨ k = k2 → s.router.kitchens[k].backlog = [] ∧
            s.router.kitchens[k].sent < s.router.kitchens[k].limit) →
          let number := s.router.nextNumber
          let l1 : OrderLine := ⟨i1, q1.toNat⟩
          let l2 : OrderLine := ⟨i2, q2.toNat⟩
          let order (scr : Option ScreenId) (rush : Bool) (tickets : List TicketId) : Order :=
            { number := number, screen := scr, origin := m.source.toNat, placeTag := m.tag, state := .opened
              rush := rush, late := false, lines := [l1, l2], tickets := tickets, callCount := 0, recallLeft := none
              callActive := false }
          let ticket (rush : Bool) (k : KitchenId) (ls : List OrderLine) : Option Ticket :=
            some
              { order := number, kitchen := k, lines := ls, rush := rush, returned := false, attempts := 0
                state := .sent, lateTimer := some s.router.kitchens[k].lateLimit }
          let sends (k : KitchenId) : Kitchen :=
            { s.router.kitchens[k] with sent := s.router.kitchens[k].sent + 1 }
          let cell (rush : Bool) (x : TicketId) (k : KitchenId) (ls : List (Byte × Byte)) : OwnCell :=
            { kind := .ticket, dest := s.router.kitchens[k].loopStation
              ref := .ticket x (s.router.serials[x] + 1)
              payload := le16 number ++ [screen] ++ le8 (k.val + 1) ++ flagByte rush ++ le8 ls.length ++
                ls.flatMap fun l => [l.1, l.2] }
          let entered (t : State) : Prop :=
            exec place s = .next t ∧ t.router.nextNumber = wrapped number ∧
              t.router.placed = min (s.router.placed + 1) 65535 ∧
              t.router.menu =
                (s.router.menu.set (Fin.ofNat 256 i1.toNat : Fin 256) (less (dish i1) q1)).set
                  (Fin.ofNat 256 i2.toNat : Fin 256) (less (dish i2) q2) ∧
              t = { s with router := t.router, cell := t.cell }
          (k1 = k2 → (∃ x : TicketId, s.router.tickets[x] = none) →
            ∃ (t : State) (x : TicketId) (scr : Option ScreenId) (rush : Bool), entered t ∧
              s.router.tickets[x] = none ∧ screenNumber scr = screen.toNat ∧ (rush = true ↔ rushes) ∧
              t.router.orders = s.router.orders ++ [order scr rush [x]] ∧
              t.router.tickets = s.router.tickets.set x (ticket rush k1 [l1, l2]) ∧
              t.router.kitchens = s.router.kitchens.set k1 (sends k1) ∧
              t.cell = { s.cell with normal := s.cell.normal ++
                [reply ([0] ++ le16 number ++ [0]), cell rush x k1 [(i1, q1), (i2, q2)]] }) ∧
          (k1 ≠ k2 → (∃ x y : TicketId, x ≠ y ∧ s.router.tickets[x] = none ∧ s.router.tickets[y] = none) →
            ∃ (t : State) (x y : TicketId) (scr : Option ScreenId) (rush : Bool), entered t ∧ x ≠ y ∧
              s.router.tickets[x] = none ∧ s.router.tickets[y] = none ∧ screenNumber scr = screen.toNat ∧
              (rush = true ↔ rushes) ∧
              t.router.orders = s.router.orders ++ [order scr rush (if k1 < k2 then [x, y] else [y, x])] ∧
              t.router.tickets =
                (s.router.tickets.set x (ticket rush k1 [l1])).set y (ticket rush k2 [l2]) ∧
              t.router.kitchens = (s.router.kitchens.set k1 (sends k1)).set k2 (sends k2) ∧
              t.cell = { s.cell with normal := s.cell.normal ++ reply ([0] ++ le16 number ++ [0]) ::
                (if k1 < k2 then [cell rush x k1 [(i1, q1)], cell rush y k2 [(i2, q2)]]
                 else [cell rush y k2 [(i2, q2)], cell rush x k1 [(i1, q1)]]) }))))

/-- R133, R138, R139, R141, R142: STATION_BEAT and BUMP. A beat of a station that was not PRESENT tries its dispatch,
here of a backlog whose head alone can go. A bump of a SENT ticket frees its place and tries the dispatch, which sends
nothing or the head of the backlog; with the order's last ticket the order is READY and called. R102, R107, R142: the
call's request reaches the Composer, whose entries take join numbers from one counter (the model's choice, log 30). -/
def Obligations.BeatAndBump : Prop :=
  (∀ (s : State) (source : Byte),
    (s.stranger source → exec (.stationBeat source) s = .next s) ∧
    (∀ k, s.fromKitchen source k →
      let station := s.router.kitchens[k]
      (station.state = .present → exec (.stationBeat source) s = .next s) ∧
      (station.state ≠ .present → station.backlog = [] ∨ station.limit ≤ station.sent →
        exec (.stationBeat source) s = .next (s.modKitchen k fun v => { v with state := .present })) ∧
      (∀ (x : TicketId) (v : Ticket), station.state ≠ .present →
        let back : State := s.modKitchen k fun w => { w with state := .present }
        back.sendsOne k x v → s.hasRoom 1 → exec (.stationBeat source) s = .next (back.withSent k x v)))) ∧
  (∀ (s : State) (source kitchen : Byte) (number : Half),
    s.stranger source →
      exec (.bump source number kitchen) s = .next
        (s.modRouter fun r => { r with unmatchedBumps := min (r.unmatchedBumps + 1) 65535 })) ∧
  (∀ (s : State) (source : Byte) (number : Half) (k : KitchenId), s.fromKitchen source k →
    s.router.kitchens[k].state = .present →
    let bump : Instr := .bump source number (BitVec.ofNat 8 (k.val + 1))
    let sentHere (x : TicketId) : Prop := ∃ v, s.router.tickets[x] = some v ∧ v.kitchen = k ∧ v.state = .sent
    ((∀ o, s.order? number.toNat = some o → ∀ x ∈ o.tickets, ¬ sentHere x) →
      exec bump s = .next (s.modRouter fun r => { r with strayBumps := min (r.strayBumps + 1) 65535 })) ∧
    (∀ (o : Order) (x : TicketId) (v : Ticket) (ahead behind : List TicketId) (next : State),
      s.order? number.toNat = some o → o.tickets = ahead ++ x :: behind → (∀ y ∈ ahead, ¬ sentHere y) →
      s.router.tickets[x] = some v → v.kitchen = k → v.state = .sent → x ∉ ahead ++ behind →
      let bumped : State :=
        (s.modTicket x fun w => { w with state := .bumped, lateTimer := none }).modKitchen k fun w =>
          { w with sent := w.sent - 1 }
      (bumped.sendsNone k ∧ next = bumped) ∨
        (∃ y w, bumped.sendsOne k y w ∧ y ∉ o.tickets ∧ s.hasRoom 1 ∧ next = bumped.withSent k y w) →
      ((∃ y ∈ ahead ++ behind, ∀ w, s.router.tickets[y] = some w → w.state ≠ .bumped) → exec bump s = .next next) ∧
      ((∀ y ∈ ahead ++ behind, ∃ w, s.router.tickets[y] = some w ∧ w.state = .bumped) →
        ∃ (t : State) (active : Bool), exec bump s = .next t ∧
          t.order? number.toNat = some
            { o with
              state := .ready, callCount := o.callCount + 1, recallLeft := some s.mgmt.site.recallInterval
              callActive := active } ∧
          next.called t o active ∧
          t.router.tickets = next.router.tickets ∧ t.router.kitchens = next.router.kitchens ∧
          t.router.serials = next.router.serials ∧
          (∀ c : ScreenId, t.screens[c].seq = s.screens[c].seq ∧ t.screens[c].field = s.screens[c].field) ∧
          (s.mgmt.site.board ≠ 0 → next.hasRoom 1 →
            t.cell.normal = next.cell.normal ++
              [{ kind := .orderState, dest := s.mgmt.site.board
                 payload := le16 o.number ++ le8 (screenNumber o.screen) ++ [1] ++ le8 (o.callCount + 1) ++
                   flagByte o.late }]) ∧
          (s.mgmt.site.board = 0 → t.cell = next.cell))))

/-- R134, R143, R144, R145, R146, R147: RECALL_EXPIRY, LATE_TIMER_EXPIRY and PICKUP. A running countdown that ends
calls the order again, or abandons it after the last call, told as ORDER_ABANDONED. A late ticket makes its order late
once, told as ORDER_LATE. A pickup at the counter frees a READY order. An expiry whose timer does not run, or an event
that cannot come yet, changes nothing (the model's choice, log 4). R102, R107, R142: the call's request reaches the
Composer, whose entries take join numbers from one counter (the model's choice, log 30). -/
def Obligations.RecallLatePickup : Prop :=
  ∀ (s : State) (number : Half),
    (s.order? number.toNat = none →
      exec (.recallExpiry number) s = .next s ∧ ∀ k, exec (.lateTimerExpiry number k) s = .next s) ∧
    (∀ o, s.order? number.toNat = some o →
      let runs := o.state = .ready ∧ o.recallLeft.isSome ∧ o.callActive = false
      (¬ runs → exec (.recallExpiry number) s = .next s) ∧
      (runs → o.callCount < s.mgmt.site.maxCalls →
        ∃ (t : State) (active : Bool), exec (.recallExpiry number) s = .next t ∧
          t.order? number.toNat = some
            { o with
              callCount := o.callCount + 1, recallLeft := some s.mgmt.site.recallInterval, callActive := active } ∧
          s.called t o active ∧
          (s.mgmt.site.board ≠ 0 → s.hasRoom 1 →
            t.cell.normal = s.cell.normal ++
              [{ kind := .orderState, dest := s.mgmt.site.board
                 payload := le16 o.number ++ le8 (screenNumber o.screen) ++ [1] ++ le8 (o.callCount + 1) ++
                   flagByte o.late }]) ∧
          (s.mgmt.site.board = 0 → t.cell = s.cell) ∧
          t.router.tickets = s.router.tickets ∧ t.router.kitchens = s.router.kitchens ∧ t.gate = s.gate) ∧
      (runs → s.mgmt.site.maxCalls ≤ o.callCount →
        ∃ t, exec (.recallExpiry number) s = .next t ∧ (∀ v ∈ t.router.orders, v.number ≠ number.toNat) ∧
          t.router.abandoned = min (s.router.abandoned + 1) 65535 ∧ (∀ x ∈ o.tickets, t.router.tickets[x] = none) ∧
          t.router.kitchens = s.router.kitchens ∧ t.gate = s.gate ∧
          (s.mgmt.site.board = 0 → s.hasRoom 1 →
            s.tells t
              [⟨14, o.number, o.callCount, o.screen.map fun c => s.screens[c].seq.clock⟩]))) ∧
    (∀ (o : Order) (x : TicketId) (v : Ticket) (k : KitchenId), s.order? number.toNat = some o → o.tickets = [x] →
      s.router.tickets[x] = some v → v.kitchen = k → v.order = number.toNat →
      (v.state ≠ .sent ∨ v.lateTimer = none → exec (.lateTimerExpiry number k) s = .next s) ∧
      (v.state = .sent → v.lateTimer.isSome →
        let ended : State := s.modTicket x fun w => { w with lateTimer := none }
        (o.late = true → exec (.lateTimerExpiry number k) s = .next ended) ∧
        (o.late = false →
          ∃ (t : State) (active : Bool), exec (.lateTimerExpiry number k) s = .next t ∧
            t.order? number.toNat = some { o with late := true, callActive := active } ∧
            t.router.tickets = ended.router.tickets ∧ t.router.kitchens = s.router.kitchens ∧
            t.screens = s.screens ∧
            (s.hasRoom 1 →
              s.tells t
                [⟨12, o.number, k.val + 1, o.screen.map fun c => s.screens[c].seq.clock⟩])))) ∧
    (∀ source : Byte, s.stranger source →
      let stray : State := s.modRouter fun r => { r with strayPickups := min (r.strayPickups + 1) 65535 }
      (s.mgmt.site.counter = 0 ∨ s.mgmt.site.counter ≠ source.toNat →
        exec (.pickup source number) s = .next
          (s.modRouter fun r => { r with ignoredPickups := min (r.ignoredPickups + 1) 65535 })) ∧
      (s.mgmt.site.counter ≠ 0 → s.mgmt.site.counter = source.toNat →
        (s.order? number.toNat = none → exec (.pickup source number) s = .next stray) ∧
        (∀ o, s.order? number.toNat = some o →
          (o.state ≠ .ready → exec (.pickup source number) s = .next stray) ∧
          (o.state = .ready →
            ∃ t, exec (.pickup source number) s = .next t ∧ (∀ v ∈ t.router.orders, v.number ≠ number.toNat) ∧
              (∀ x ∈ o.tickets, t.router.tickets[x] = none) ∧ t.router.kitchens = s.router.kitchens ∧
              (∀ d : OutputId, ∀ e ∈ t.ann.queues[d].waiting, e.order ≠ some number.toNat) ∧
              t.sound = s.sound ∧ t.gate = s.gate ∧ t.seqr = s.seqr ∧
              (s.mgmt.site.board ≠ 0 → s.hasRoom 1 →
                t.cell.normal = s.cell.normal ++
                  [{ kind := .orderState, dest := s.mgmt.site.board
                     payload := le16 o.number ++ le8 (screenNumber o.screen) ++ [2] ++ le8 o.callCount ++
                       flagByte o.late }])))))

/-! ## What every step keeps -/

/-- 01, the note after R11, with R5, R7, R10, R62, R127, R150: every step keeps every screen record coherent. -/
def Obligations.EveryStepKeepsScreens : Prop :=
  ∀ s t : State, s.screensCoherent → step s = .next t → t.screensCoherent

/-- R40, R41, R43, R44, R76, R93, R103, R113, Table 1-1: every step keeps every store in its canonical form and every queue,
tracker and count within its bounds. -/
def Obligations.EveryStepKeepsBounds : Prop :=
  ∀ s t : State, s.fits → step s = .next t → t.fits

/-- R4, R12, R18, R19, R51, R75, R76, R94, R151: every step keeps the tick counters, the window counts, the marks, the
segments, the delay lines, the clips' regions and the next order number in their ranges. -/
def Obligations.EveryStepKeepsRanges : Prop :=
  ∀ s t : State, s.inRange → step s = .next t → t.inRange

/-- What every step keeps holds right after reset. -/
def Obligations.ResetMeetsInvariants : Prop :=
  State.reset.screensCoherent ∧ State.reset.fits ∧ State.reset.inRange
end

