-- ==== Sys2Proof/Laws/State.lean ====
section
/-! SUPPORT. What each update of the state leaves as it is, field by field, and what a reader of the updated record
finds. -/

namespace Sys2Proof.Machine

variable (s : State)

/-! ### modScreen -/

@[simp] theorem State.modScreen_pending (i : ScreenId) (f : Screen → Screen) : (s.modScreen i f).pending = s.pending := rfl
@[simp] theorem State.modScreen_freeCount (i : ScreenId) (f : Screen → Screen) : (s.modScreen i f).freeCount = s.freeCount := rfl
@[simp] theorem State.modScreen_station (i : ScreenId) (f : Screen → Screen) : (s.modScreen i f).station = s.station := rfl
@[simp] theorem State.modScreen_time (i : ScreenId) (f : Screen → Screen) : (s.modScreen i f).time = s.time := rfl
@[simp] theorem State.modScreen_loop (i : ScreenId) (f : Screen → Screen) : (s.modScreen i f).loop = s.loop := rfl
@[simp] theorem State.modScreen_cell (i : ScreenId) (f : Screen → Screen) : (s.modScreen i f).cell = s.cell := rfl
@[simp] theorem State.modScreen_seqr (i : ScreenId) (f : Screen → Screen) : (s.modScreen i f).seqr = s.seqr := rfl
@[simp] theorem State.modScreen_sound (i : ScreenId) (f : Screen → Screen) : (s.modScreen i f).sound = s.sound := rfl
@[simp] theorem State.modScreen_ann (i : ScreenId) (f : Screen → Screen) : (s.modScreen i f).ann = s.ann := rfl
@[simp] theorem State.modScreen_gate (i : ScreenId) (f : Screen → Screen) : (s.modScreen i f).gate = s.gate := rfl
@[simp] theorem State.modScreen_router (i : ScreenId) (f : Screen → Screen) : (s.modScreen i f).router = s.router := rfl
@[simp] theorem State.modScreen_mgmt (i : ScreenId) (f : Screen → Screen) : (s.modScreen i f).mgmt = s.mgmt := rfl

/-! ### modSeq -/

@[simp] theorem State.modSeq_pending (i : ScreenId) (f : ShowRecord → ShowRecord) : (s.modSeq i f).pending = s.pending := rfl
@[simp] theorem State.modSeq_freeCount (i : ScreenId) (f : ShowRecord → ShowRecord) : (s.modSeq i f).freeCount = s.freeCount := rfl
@[simp] theorem State.modSeq_station (i : ScreenId) (f : ShowRecord → ShowRecord) : (s.modSeq i f).station = s.station := rfl
@[simp] theorem State.modSeq_time (i : ScreenId) (f : ShowRecord → ShowRecord) : (s.modSeq i f).time = s.time := rfl
@[simp] theorem State.modSeq_loop (i : ScreenId) (f : ShowRecord → ShowRecord) : (s.modSeq i f).loop = s.loop := rfl
@[simp] theorem State.modSeq_cell (i : ScreenId) (f : ShowRecord → ShowRecord) : (s.modSeq i f).cell = s.cell := rfl
@[simp] theorem State.modSeq_seqr (i : ScreenId) (f : ShowRecord → ShowRecord) : (s.modSeq i f).seqr = s.seqr := rfl
@[simp] theorem State.modSeq_sound (i : ScreenId) (f : ShowRecord → ShowRecord) : (s.modSeq i f).sound = s.sound := rfl
@[simp] theorem State.modSeq_ann (i : ScreenId) (f : ShowRecord → ShowRecord) : (s.modSeq i f).ann = s.ann := rfl
@[simp] theorem State.modSeq_gate (i : ScreenId) (f : ShowRecord → ShowRecord) : (s.modSeq i f).gate = s.gate := rfl
@[simp] theorem State.modSeq_router (i : ScreenId) (f : ShowRecord → ShowRecord) : (s.modSeq i f).router = s.router := rfl
@[simp] theorem State.modSeq_mgmt (i : ScreenId) (f : ShowRecord → ShowRecord) : (s.modSeq i f).mgmt = s.mgmt := rfl

/-! ### modField -/

@[simp] theorem State.modField_pending (i : ScreenId) (f : FieldCounts → FieldCounts) : (s.modField i f).pending = s.pending := rfl
@[simp] theorem State.modField_freeCount (i : ScreenId) (f : FieldCounts → FieldCounts) : (s.modField i f).freeCount = s.freeCount := rfl
@[simp] theorem State.modField_station (i : ScreenId) (f : FieldCounts → FieldCounts) : (s.modField i f).station = s.station := rfl
@[simp] theorem State.modField_time (i : ScreenId) (f : FieldCounts → FieldCounts) : (s.modField i f).time = s.time := rfl
@[simp] theorem State.modField_loop (i : ScreenId) (f : FieldCounts → FieldCounts) : (s.modField i f).loop = s.loop := rfl
@[simp] theorem State.modField_cell (i : ScreenId) (f : FieldCounts → FieldCounts) : (s.modField i f).cell = s.cell := rfl
@[simp] theorem State.modField_seqr (i : ScreenId) (f : FieldCounts → FieldCounts) : (s.modField i f).seqr = s.seqr := rfl
@[simp] theorem State.modField_sound (i : ScreenId) (f : FieldCounts → FieldCounts) : (s.modField i f).sound = s.sound := rfl
@[simp] theorem State.modField_ann (i : ScreenId) (f : FieldCounts → FieldCounts) : (s.modField i f).ann = s.ann := rfl
@[simp] theorem State.modField_gate (i : ScreenId) (f : FieldCounts → FieldCounts) : (s.modField i f).gate = s.gate := rfl
@[simp] theorem State.modField_router (i : ScreenId) (f : FieldCounts → FieldCounts) : (s.modField i f).router = s.router := rfl
@[simp] theorem State.modField_mgmt (i : ScreenId) (f : FieldCounts → FieldCounts) : (s.modField i f).mgmt = s.mgmt := rfl

/-! ### modScreenSound -/

@[simp] theorem State.modScreenSound_pending (i : ScreenId) (f : ScreenSound → ScreenSound) : (s.modScreenSound i f).pending = s.pending := rfl
@[simp] theorem State.modScreenSound_freeCount (i : ScreenId) (f : ScreenSound → ScreenSound) : (s.modScreenSound i f).freeCount = s.freeCount := rfl
@[simp] theorem State.modScreenSound_station (i : ScreenId) (f : ScreenSound → ScreenSound) : (s.modScreenSound i f).station = s.station := rfl
@[simp] theorem State.modScreenSound_time (i : ScreenId) (f : ScreenSound → ScreenSound) : (s.modScreenSound i f).time = s.time := rfl
@[simp] theorem State.modScreenSound_loop (i : ScreenId) (f : ScreenSound → ScreenSound) : (s.modScreenSound i f).loop = s.loop := rfl
@[simp] theorem State.modScreenSound_cell (i : ScreenId) (f : ScreenSound → ScreenSound) : (s.modScreenSound i f).cell = s.cell := rfl
@[simp] theorem State.modScreenSound_seqr (i : ScreenId) (f : ScreenSound → ScreenSound) : (s.modScreenSound i f).seqr = s.seqr := rfl
@[simp] theorem State.modScreenSound_sound (i : ScreenId) (f : ScreenSound → ScreenSound) : (s.modScreenSound i f).sound = s.sound := rfl
@[simp] theorem State.modScreenSound_ann (i : ScreenId) (f : ScreenSound → ScreenSound) : (s.modScreenSound i f).ann = s.ann := rfl
@[simp] theorem State.modScreenSound_gate (i : ScreenId) (f : ScreenSound → ScreenSound) : (s.modScreenSound i f).gate = s.gate := rfl
@[simp] theorem State.modScreenSound_router (i : ScreenId) (f : ScreenSound → ScreenSound) : (s.modScreenSound i f).router = s.router := rfl
@[simp] theorem State.modScreenSound_mgmt (i : ScreenId) (f : ScreenSound → ScreenSound) : (s.modScreenSound i f).mgmt = s.mgmt := rfl

/-! ### setOrderingState -/

@[simp] theorem State.setOrderingState_pending (i : ScreenId) (o : OrderingState) : (s.setOrderingState i o).pending = s.pending := rfl
@[simp] theorem State.setOrderingState_freeCount (i : ScreenId) (o : OrderingState) : (s.setOrderingState i o).freeCount = s.freeCount := rfl
@[simp] theorem State.setOrderingState_station (i : ScreenId) (o : OrderingState) : (s.setOrderingState i o).station = s.station := rfl
@[simp] theorem State.setOrderingState_time (i : ScreenId) (o : OrderingState) : (s.setOrderingState i o).time = s.time := rfl
@[simp] theorem State.setOrderingState_loop (i : ScreenId) (o : OrderingState) : (s.setOrderingState i o).loop = s.loop := rfl
@[simp] theorem State.setOrderingState_cell (i : ScreenId) (o : OrderingState) : (s.setOrderingState i o).cell = s.cell := rfl
@[simp] theorem State.setOrderingState_seqr (i : ScreenId) (o : OrderingState) : (s.setOrderingState i o).seqr = s.seqr := rfl
@[simp] theorem State.setOrderingState_sound (i : ScreenId) (o : OrderingState) : (s.setOrderingState i o).sound = s.sound := rfl
@[simp] theorem State.setOrderingState_ann (i : ScreenId) (o : OrderingState) : (s.setOrderingState i o).ann = s.ann := rfl
@[simp] theorem State.setOrderingState_gate (i : ScreenId) (o : OrderingState) : (s.setOrderingState i o).gate = s.gate := rfl
@[simp] theorem State.setOrderingState_router (i : ScreenId) (o : OrderingState) : (s.setOrderingState i o).router = s.router := rfl
@[simp] theorem State.setOrderingState_mgmt (i : ScreenId) (o : OrderingState) : (s.setOrderingState i o).mgmt = s.mgmt := rfl

/-! ### setHeldCalls -/

@[simp] theorem State.setHeldCalls_pending (i : ScreenId) (l : List Nat) : (s.setHeldCalls i l).pending = s.pending := rfl
@[simp] theorem State.setHeldCalls_freeCount (i : ScreenId) (l : List Nat) : (s.setHeldCalls i l).freeCount = s.freeCount := rfl
@[simp] theorem State.setHeldCalls_station (i : ScreenId) (l : List Nat) : (s.setHeldCalls i l).station = s.station := rfl
@[simp] theorem State.setHeldCalls_time (i : ScreenId) (l : List Nat) : (s.setHeldCalls i l).time = s.time := rfl
@[simp] theorem State.setHeldCalls_loop (i : ScreenId) (l : List Nat) : (s.setHeldCalls i l).loop = s.loop := rfl
@[simp] theorem State.setHeldCalls_cell (i : ScreenId) (l : List Nat) : (s.setHeldCalls i l).cell = s.cell := rfl
@[simp] theorem State.setHeldCalls_seqr (i : ScreenId) (l : List Nat) : (s.setHeldCalls i l).seqr = s.seqr := rfl
@[simp] theorem State.setHeldCalls_sound (i : ScreenId) (l : List Nat) : (s.setHeldCalls i l).sound = s.sound := rfl
@[simp] theorem State.setHeldCalls_ann (i : ScreenId) (l : List Nat) : (s.setHeldCalls i l).ann = s.ann := rfl
@[simp] theorem State.setHeldCalls_gate (i : ScreenId) (l : List Nat) : (s.setHeldCalls i l).gate = s.gate := rfl
@[simp] theorem State.setHeldCalls_router (i : ScreenId) (l : List Nat) : (s.setHeldCalls i l).router = s.router := rfl
@[simp] theorem State.setHeldCalls_mgmt (i : ScreenId) (l : List Nat) : (s.setHeldCalls i l).mgmt = s.mgmt := rfl

/-! ### modSeqr -/

@[simp] theorem State.modSeqr_pending (f : Sequencer → Sequencer) : (s.modSeqr f).pending = s.pending := rfl
@[simp] theorem State.modSeqr_freeCount (f : Sequencer → Sequencer) : (s.modSeqr f).freeCount = s.freeCount := rfl
@[simp] theorem State.modSeqr_station (f : Sequencer → Sequencer) : (s.modSeqr f).station = s.station := rfl
@[simp] theorem State.modSeqr_time (f : Sequencer → Sequencer) : (s.modSeqr f).time = s.time := rfl
@[simp] theorem State.modSeqr_loop (f : Sequencer → Sequencer) : (s.modSeqr f).loop = s.loop := rfl
@[simp] theorem State.modSeqr_cell (f : Sequencer → Sequencer) : (s.modSeqr f).cell = s.cell := rfl
@[simp] theorem State.modSeqr_screens (f : Sequencer → Sequencer) : (s.modSeqr f).screens = s.screens := rfl
@[simp] theorem State.modSeqr_sound (f : Sequencer → Sequencer) : (s.modSeqr f).sound = s.sound := rfl
@[simp] theorem State.modSeqr_ann (f : Sequencer → Sequencer) : (s.modSeqr f).ann = s.ann := rfl
@[simp] theorem State.modSeqr_gate (f : Sequencer → Sequencer) : (s.modSeqr f).gate = s.gate := rfl
@[simp] theorem State.modSeqr_router (f : Sequencer → Sequencer) : (s.modSeqr f).router = s.router := rfl
@[simp] theorem State.modSeqr_mgmt (f : Sequencer → Sequencer) : (s.modSeqr f).mgmt = s.mgmt := rfl

/-! ### modSound -/

@[simp] theorem State.modSound_pending (f : SoundPath → SoundPath) : (s.modSound f).pending = s.pending := rfl
@[simp] theorem State.modSound_freeCount (f : SoundPath → SoundPath) : (s.modSound f).freeCount = s.freeCount := rfl
@[simp] theorem State.modSound_station (f : SoundPath → SoundPath) : (s.modSound f).station = s.station := rfl
@[simp] theorem State.modSound_time (f : SoundPath → SoundPath) : (s.modSound f).time = s.time := rfl
@[simp] theorem State.modSound_loop (f : SoundPath → SoundPath) : (s.modSound f).loop = s.loop := rfl
@[simp] theorem State.modSound_cell (f : SoundPath → SoundPath) : (s.modSound f).cell = s.cell := rfl
@[simp] theorem State.modSound_screens (f : SoundPath → SoundPath) : (s.modSound f).screens = s.screens := rfl
@[simp] theorem State.modSound_seqr (f : SoundPath → SoundPath) : (s.modSound f).seqr = s.seqr := rfl
@[simp] theorem State.modSound_ann (f : SoundPath → SoundPath) : (s.modSound f).ann = s.ann := rfl
@[simp] theorem State.modSound_gate (f : SoundPath → SoundPath) : (s.modSound f).gate = s.gate := rfl
@[simp] theorem State.modSound_router (f : SoundPath → SoundPath) : (s.modSound f).router = s.router := rfl
@[simp] theorem State.modSound_mgmt (f : SoundPath → SoundPath) : (s.modSound f).mgmt = s.mgmt := rfl

/-! ### modTransmitter -/

@[simp] theorem State.modTransmitter_pending (i : ScreenId) (f : Transmitter → Transmitter) : (s.modTransmitter i f).pending = s.pending := rfl
@[simp] theorem State.modTransmitter_freeCount (i : ScreenId) (f : Transmitter → Transmitter) : (s.modTransmitter i f).freeCount = s.freeCount := rfl
@[simp] theorem State.modTransmitter_station (i : ScreenId) (f : Transmitter → Transmitter) : (s.modTransmitter i f).station = s.station := rfl
@[simp] theorem State.modTransmitter_time (i : ScreenId) (f : Transmitter → Transmitter) : (s.modTransmitter i f).time = s.time := rfl
@[simp] theorem State.modTransmitter_loop (i : ScreenId) (f : Transmitter → Transmitter) : (s.modTransmitter i f).loop = s.loop := rfl
@[simp] theorem State.modTransmitter_cell (i : ScreenId) (f : Transmitter → Transmitter) : (s.modTransmitter i f).cell = s.cell := rfl
@[simp] theorem State.modTransmitter_screens (i : ScreenId) (f : Transmitter → Transmitter) : (s.modTransmitter i f).screens = s.screens := rfl
@[simp] theorem State.modTransmitter_seqr (i : ScreenId) (f : Transmitter → Transmitter) : (s.modTransmitter i f).seqr = s.seqr := rfl
@[simp] theorem State.modTransmitter_ann (i : ScreenId) (f : Transmitter → Transmitter) : (s.modTransmitter i f).ann = s.ann := rfl
@[simp] theorem State.modTransmitter_gate (i : ScreenId) (f : Transmitter → Transmitter) : (s.modTransmitter i f).gate = s.gate := rfl
@[simp] theorem State.modTransmitter_router (i : ScreenId) (f : Transmitter → Transmitter) : (s.modTransmitter i f).router = s.router := rfl
@[simp] theorem State.modTransmitter_mgmt (i : ScreenId) (f : Transmitter → Transmitter) : (s.modTransmitter i f).mgmt = s.mgmt := rfl

/-! ### modInput -/

@[simp] theorem State.modInput_pending (i : ScreenId) (f : ProgInput → ProgInput) : (s.modInput i f).pending = s.pending := rfl
@[simp] theorem State.modInput_freeCount (i : ScreenId) (f : ProgInput → ProgInput) : (s.modInput i f).freeCount = s.freeCount := rfl
@[simp] theorem State.modInput_station (i : ScreenId) (f : ProgInput → ProgInput) : (s.modInput i f).station = s.station := rfl
@[simp] theorem State.modInput_time (i : ScreenId) (f : ProgInput → ProgInput) : (s.modInput i f).time = s.time := rfl
@[simp] theorem State.modInput_loop (i : ScreenId) (f : ProgInput → ProgInput) : (s.modInput i f).loop = s.loop := rfl
@[simp] theorem State.modInput_cell (i : ScreenId) (f : ProgInput → ProgInput) : (s.modInput i f).cell = s.cell := rfl
@[simp] theorem State.modInput_screens (i : ScreenId) (f : ProgInput → ProgInput) : (s.modInput i f).screens = s.screens := rfl
@[simp] theorem State.modInput_seqr (i : ScreenId) (f : ProgInput → ProgInput) : (s.modInput i f).seqr = s.seqr := rfl
@[simp] theorem State.modInput_ann (i : ScreenId) (f : ProgInput → ProgInput) : (s.modInput i f).ann = s.ann := rfl
@[simp] theorem State.modInput_gate (i : ScreenId) (f : ProgInput → ProgInput) : (s.modInput i f).gate = s.gate := rfl
@[simp] theorem State.modInput_router (i : ScreenId) (f : ProgInput → ProgInput) : (s.modInput i f).router = s.router := rfl
@[simp] theorem State.modInput_mgmt (i : ScreenId) (f : ProgInput → ProgInput) : (s.modInput i f).mgmt = s.mgmt := rfl

/-! ### modLine -/

@[simp] theorem State.modLine_pending (i : ScreenId) (f : DelayLine → DelayLine) : (s.modLine i f).pending = s.pending := rfl
@[simp] theorem State.modLine_freeCount (i : ScreenId) (f : DelayLine → DelayLine) : (s.modLine i f).freeCount = s.freeCount := rfl
@[simp] theorem State.modLine_station (i : ScreenId) (f : DelayLine → DelayLine) : (s.modLine i f).station = s.station := rfl
@[simp] theorem State.modLine_time (i : ScreenId) (f : DelayLine → DelayLine) : (s.modLine i f).time = s.time := rfl
@[simp] theorem State.modLine_loop (i : ScreenId) (f : DelayLine → DelayLine) : (s.modLine i f).loop = s.loop := rfl
@[simp] theorem State.modLine_cell (i : ScreenId) (f : DelayLine → DelayLine) : (s.modLine i f).cell = s.cell := rfl
@[simp] theorem State.modLine_screens (i : ScreenId) (f : DelayLine → DelayLine) : (s.modLine i f).screens = s.screens := rfl
@[simp] theorem State.modLine_seqr (i : ScreenId) (f : DelayLine → DelayLine) : (s.modLine i f).seqr = s.seqr := rfl
@[simp] theorem State.modLine_ann (i : ScreenId) (f : DelayLine → DelayLine) : (s.modLine i f).ann = s.ann := rfl
@[simp] theorem State.modLine_gate (i : ScreenId) (f : DelayLine → DelayLine) : (s.modLine i f).gate = s.gate := rfl
@[simp] theorem State.modLine_router (i : ScreenId) (f : DelayLine → DelayLine) : (s.modLine i f).router = s.router := rfl
@[simp] theorem State.modLine_mgmt (i : ScreenId) (f : DelayLine → DelayLine) : (s.modLine i f).mgmt = s.mgmt := rfl

/-! ### modOutput -/

@[simp] theorem State.modOutput_pending (o : OutputId) (f : OutputState → OutputState) : (s.modOutput o f).pending = s.pending := rfl
@[simp] theorem State.modOutput_freeCount (o : OutputId) (f : OutputState → OutputState) : (s.modOutput o f).freeCount = s.freeCount := rfl
@[simp] theorem State.modOutput_station (o : OutputId) (f : OutputState → OutputState) : (s.modOutput o f).station = s.station := rfl
@[simp] theorem State.modOutput_time (o : OutputId) (f : OutputState → OutputState) : (s.modOutput o f).time = s.time := rfl
@[simp] theorem State.modOutput_loop (o : OutputId) (f : OutputState → OutputState) : (s.modOutput o f).loop = s.loop := rfl
@[simp] theorem State.modOutput_cell (o : OutputId) (f : OutputState → OutputState) : (s.modOutput o f).cell = s.cell := rfl
@[simp] theorem State.modOutput_screens (o : OutputId) (f : OutputState → OutputState) : (s.modOutput o f).screens = s.screens := rfl
@[simp] theorem State.modOutput_seqr (o : OutputId) (f : OutputState → OutputState) : (s.modOutput o f).seqr = s.seqr := rfl
@[simp] theorem State.modOutput_ann (o : OutputId) (f : OutputState → OutputState) : (s.modOutput o f).ann = s.ann := rfl
@[simp] theorem State.modOutput_gate (o : OutputId) (f : OutputState → OutputState) : (s.modOutput o f).gate = s.gate := rfl
@[simp] theorem State.modOutput_router (o : OutputId) (f : OutputState → OutputState) : (s.modOutput o f).router = s.router := rfl
@[simp] theorem State.modOutput_mgmt (o : OutputId) (f : OutputState → OutputState) : (s.modOutput o f).mgmt = s.mgmt := rfl

/-! ### modOutputConfig -/

@[simp] theorem State.modOutputConfig_pending (o : OutputId) (f : OutputConfig → OutputConfig) : (s.modOutputConfig o f).pending = s.pending := rfl
@[simp] theorem State.modOutputConfig_freeCount (o : OutputId) (f : OutputConfig → OutputConfig) : (s.modOutputConfig o f).freeCount = s.freeCount := rfl
@[simp] theorem State.modOutputConfig_station (o : OutputId) (f : OutputConfig → OutputConfig) : (s.modOutputConfig o f).station = s.station := rfl
@[simp] theorem State.modOutputConfig_time (o : OutputId) (f : OutputConfig → OutputConfig) : (s.modOutputConfig o f).time = s.time := rfl
@[simp] theorem State.modOutputConfig_loop (o : OutputId) (f : OutputConfig → OutputConfig) : (s.modOutputConfig o f).loop = s.loop := rfl
@[simp] theorem State.modOutputConfig_cell (o : OutputId) (f : OutputConfig → OutputConfig) : (s.modOutputConfig o f).cell = s.cell := rfl
@[simp] theorem State.modOutputConfig_screens (o : OutputId) (f : OutputConfig → OutputConfig) : (s.modOutputConfig o f).screens = s.screens := rfl
@[simp] theorem State.modOutputConfig_seqr (o : OutputId) (f : OutputConfig → OutputConfig) : (s.modOutputConfig o f).seqr = s.seqr := rfl
@[simp] theorem State.modOutputConfig_ann (o : OutputId) (f : OutputConfig → OutputConfig) : (s.modOutputConfig o f).ann = s.ann := rfl
@[simp] theorem State.modOutputConfig_gate (o : OutputId) (f : OutputConfig → OutputConfig) : (s.modOutputConfig o f).gate = s.gate := rfl
@[simp] theorem State.modOutputConfig_router (o : OutputId) (f : OutputConfig → OutputConfig) : (s.modOutputConfig o f).router = s.router := rfl
@[simp] theorem State.modOutputConfig_mgmt (o : OutputId) (f : OutputConfig → OutputConfig) : (s.modOutputConfig o f).mgmt = s.mgmt := rfl

/-! ### modAnn -/

@[simp] theorem State.modAnn_pending (f : Composer → Composer) : (s.modAnn f).pending = s.pending := rfl
@[simp] theorem State.modAnn_freeCount (f : Composer → Composer) : (s.modAnn f).freeCount = s.freeCount := rfl
@[simp] theorem State.modAnn_station (f : Composer → Composer) : (s.modAnn f).station = s.station := rfl
@[simp] theorem State.modAnn_time (f : Composer → Composer) : (s.modAnn f).time = s.time := rfl
@[simp] theorem State.modAnn_loop (f : Composer → Composer) : (s.modAnn f).loop = s.loop := rfl
@[simp] theorem State.modAnn_cell (f : Composer → Composer) : (s.modAnn f).cell = s.cell := rfl
@[simp] theorem State.modAnn_screens (f : Composer → Composer) : (s.modAnn f).screens = s.screens := rfl
@[simp] theorem State.modAnn_seqr (f : Composer → Composer) : (s.modAnn f).seqr = s.seqr := rfl
@[simp] theorem State.modAnn_sound (f : Composer → Composer) : (s.modAnn f).sound = s.sound := rfl
@[simp] theorem State.modAnn_gate (f : Composer → Composer) : (s.modAnn f).gate = s.gate := rfl
@[simp] theorem State.modAnn_router (f : Composer → Composer) : (s.modAnn f).router = s.router := rfl
@[simp] theorem State.modAnn_mgmt (f : Composer → Composer) : (s.modAnn f).mgmt = s.mgmt := rfl

/-! ### modClip -/

@[simp] theorem State.modClip_pending (c : ClipId) (f : Clip → Clip) : (s.modClip c f).pending = s.pending := rfl
@[simp] theorem State.modClip_freeCount (c : ClipId) (f : Clip → Clip) : (s.modClip c f).freeCount = s.freeCount := rfl
@[simp] theorem State.modClip_station (c : ClipId) (f : Clip → Clip) : (s.modClip c f).station = s.station := rfl
@[simp] theorem State.modClip_time (c : ClipId) (f : Clip → Clip) : (s.modClip c f).time = s.time := rfl
@[simp] theorem State.modClip_loop (c : ClipId) (f : Clip → Clip) : (s.modClip c f).loop = s.loop := rfl
@[simp] theorem State.modClip_cell (c : ClipId) (f : Clip → Clip) : (s.modClip c f).cell = s.cell := rfl
@[simp] theorem State.modClip_screens (c : ClipId) (f : Clip → Clip) : (s.modClip c f).screens = s.screens := rfl
@[simp] theorem State.modClip_seqr (c : ClipId) (f : Clip → Clip) : (s.modClip c f).seqr = s.seqr := rfl
@[simp] theorem State.modClip_sound (c : ClipId) (f : Clip → Clip) : (s.modClip c f).sound = s.sound := rfl
@[simp] theorem State.modClip_gate (c : ClipId) (f : Clip → Clip) : (s.modClip c f).gate = s.gate := rfl
@[simp] theorem State.modClip_router (c : ClipId) (f : Clip → Clip) : (s.modClip c f).router = s.router := rfl
@[simp] theorem State.modClip_mgmt (c : ClipId) (f : Clip → Clip) : (s.modClip c f).mgmt = s.mgmt := rfl

/-! ### setQueue -/

@[simp] theorem State.setQueue_pending (o : OutputId) (q : AnnQueue) : (s.setQueue o q).pending = s.pending := rfl
@[simp] theorem State.setQueue_freeCount (o : OutputId) (q : AnnQueue) : (s.setQueue o q).freeCount = s.freeCount := rfl
@[simp] theorem State.setQueue_station (o : OutputId) (q : AnnQueue) : (s.setQueue o q).station = s.station := rfl
@[simp] theorem State.setQueue_time (o : OutputId) (q : AnnQueue) : (s.setQueue o q).time = s.time := rfl
@[simp] theorem State.setQueue_loop (o : OutputId) (q : AnnQueue) : (s.setQueue o q).loop = s.loop := rfl
@[simp] theorem State.setQueue_cell (o : OutputId) (q : AnnQueue) : (s.setQueue o q).cell = s.cell := rfl
@[simp] theorem State.setQueue_screens (o : OutputId) (q : AnnQueue) : (s.setQueue o q).screens = s.screens := rfl
@[simp] theorem State.setQueue_seqr (o : OutputId) (q : AnnQueue) : (s.setQueue o q).seqr = s.seqr := rfl
@[simp] theorem State.setQueue_sound (o : OutputId) (q : AnnQueue) : (s.setQueue o q).sound = s.sound := rfl
@[simp] theorem State.setQueue_gate (o : OutputId) (q : AnnQueue) : (s.setQueue o q).gate = s.gate := rfl
@[simp] theorem State.setQueue_router (o : OutputId) (q : AnnQueue) : (s.setQueue o q).router = s.router := rfl
@[simp] theorem State.setQueue_mgmt (o : OutputId) (q : AnnQueue) : (s.setQueue o q).mgmt = s.mgmt := rfl

/-! ### modGate -/

@[simp] theorem State.modGate_pending (f : GateCounter → GateCounter) : (s.modGate f).pending = s.pending := rfl
@[simp] theorem State.modGate_freeCount (f : GateCounter → GateCounter) : (s.modGate f).freeCount = s.freeCount := rfl
@[simp] theorem State.modGate_station (f : GateCounter → GateCounter) : (s.modGate f).station = s.station := rfl
@[simp] theorem State.modGate_time (f : GateCounter → GateCounter) : (s.modGate f).time = s.time := rfl
@[simp] theorem State.modGate_loop (f : GateCounter → GateCounter) : (s.modGate f).loop = s.loop := rfl
@[simp] theorem State.modGate_cell (f : GateCounter → GateCounter) : (s.modGate f).cell = s.cell := rfl
@[simp] theorem State.modGate_screens (f : GateCounter → GateCounter) : (s.modGate f).screens = s.screens := rfl
@[simp] theorem State.modGate_seqr (f : GateCounter → GateCounter) : (s.modGate f).seqr = s.seqr := rfl
@[simp] theorem State.modGate_sound (f : GateCounter → GateCounter) : (s.modGate f).sound = s.sound := rfl
@[simp] theorem State.modGate_ann (f : GateCounter → GateCounter) : (s.modGate f).ann = s.ann := rfl
@[simp] theorem State.modGate_router (f : GateCounter → GateCounter) : (s.modGate f).router = s.router := rfl
@[simp] theorem State.modGate_mgmt (f : GateCounter → GateCounter) : (s.modGate f).mgmt = s.mgmt := rfl

/-! ### modLane -/

@[simp] theorem State.modLane_pending (l : LaneId) (f : Lane → Lane) : (s.modLane l f).pending = s.pending := rfl
@[simp] theorem State.modLane_freeCount (l : LaneId) (f : Lane → Lane) : (s.modLane l f).freeCount = s.freeCount := rfl
@[simp] theorem State.modLane_station (l : LaneId) (f : Lane → Lane) : (s.modLane l f).station = s.station := rfl
@[simp] theorem State.modLane_time (l : LaneId) (f : Lane → Lane) : (s.modLane l f).time = s.time := rfl
@[simp] theorem State.modLane_loop (l : LaneId) (f : Lane → Lane) : (s.modLane l f).loop = s.loop := rfl
@[simp] theorem State.modLane_cell (l : LaneId) (f : Lane → Lane) : (s.modLane l f).cell = s.cell := rfl
@[simp] theorem State.modLane_screens (l : LaneId) (f : Lane → Lane) : (s.modLane l f).screens = s.screens := rfl
@[simp] theorem State.modLane_seqr (l : LaneId) (f : Lane → Lane) : (s.modLane l f).seqr = s.seqr := rfl
@[simp] theorem State.modLane_sound (l : LaneId) (f : Lane → Lane) : (s.modLane l f).sound = s.sound := rfl
@[simp] theorem State.modLane_ann (l : LaneId) (f : Lane → Lane) : (s.modLane l f).ann = s.ann := rfl
@[simp] theorem State.modLane_router (l : LaneId) (f : Lane → Lane) : (s.modLane l f).router = s.router := rfl
@[simp] theorem State.modLane_mgmt (l : LaneId) (f : Lane → Lane) : (s.modLane l f).mgmt = s.mgmt := rfl

/-! ### modRouter -/

@[simp] theorem State.modRouter_pending (f : Router → Router) : (s.modRouter f).pending = s.pending := rfl
@[simp] theorem State.modRouter_freeCount (f : Router → Router) : (s.modRouter f).freeCount = s.freeCount := rfl
@[simp] theorem State.modRouter_station (f : Router → Router) : (s.modRouter f).station = s.station := rfl
@[simp] theorem State.modRouter_time (f : Router → Router) : (s.modRouter f).time = s.time := rfl
@[simp] theorem State.modRouter_loop (f : Router → Router) : (s.modRouter f).loop = s.loop := rfl
@[simp] theorem State.modRouter_cell (f : Router → Router) : (s.modRouter f).cell = s.cell := rfl
@[simp] theorem State.modRouter_screens (f : Router → Router) : (s.modRouter f).screens = s.screens := rfl
@[simp] theorem State.modRouter_seqr (f : Router → Router) : (s.modRouter f).seqr = s.seqr := rfl
@[simp] theorem State.modRouter_sound (f : Router → Router) : (s.modRouter f).sound = s.sound := rfl
@[simp] theorem State.modRouter_ann (f : Router → Router) : (s.modRouter f).ann = s.ann := rfl
@[simp] theorem State.modRouter_gate (f : Router → Router) : (s.modRouter f).gate = s.gate := rfl
@[simp] theorem State.modRouter_mgmt (f : Router → Router) : (s.modRouter f).mgmt = s.mgmt := rfl

/-! ### modKitchen -/

@[simp] theorem State.modKitchen_pending (k : KitchenId) (f : Kitchen → Kitchen) : (s.modKitchen k f).pending = s.pending := rfl
@[simp] theorem State.modKitchen_freeCount (k : KitchenId) (f : Kitchen → Kitchen) : (s.modKitchen k f).freeCount = s.freeCount := rfl
@[simp] theorem State.modKitchen_station (k : KitchenId) (f : Kitchen → Kitchen) : (s.modKitchen k f).station = s.station := rfl
@[simp] theorem State.modKitchen_time (k : KitchenId) (f : Kitchen → Kitchen) : (s.modKitchen k f).time = s.time := rfl
@[simp] theorem State.modKitchen_loop (k : KitchenId) (f : Kitchen → Kitchen) : (s.modKitchen k f).loop = s.loop := rfl
@[simp] theorem State.modKitchen_cell (k : KitchenId) (f : Kitchen → Kitchen) : (s.modKitchen k f).cell = s.cell := rfl
@[simp] theorem State.modKitchen_screens (k : KitchenId) (f : Kitchen → Kitchen) : (s.modKitchen k f).screens = s.screens := rfl
@[simp] theorem State.modKitchen_seqr (k : KitchenId) (f : Kitchen → Kitchen) : (s.modKitchen k f).seqr = s.seqr := rfl
@[simp] theorem State.modKitchen_sound (k : KitchenId) (f : Kitchen → Kitchen) : (s.modKitchen k f).sound = s.sound := rfl
@[simp] theorem State.modKitchen_ann (k : KitchenId) (f : Kitchen → Kitchen) : (s.modKitchen k f).ann = s.ann := rfl
@[simp] theorem State.modKitchen_gate (k : KitchenId) (f : Kitchen → Kitchen) : (s.modKitchen k f).gate = s.gate := rfl
@[simp] theorem State.modKitchen_mgmt (k : KitchenId) (f : Kitchen → Kitchen) : (s.modKitchen k f).mgmt = s.mgmt := rfl

/-! ### setTicket -/

@[simp] theorem State.setTicket_pending (t : TicketId) (v : Option Ticket) : (s.setTicket t v).pending = s.pending := rfl
@[simp] theorem State.setTicket_freeCount (t : TicketId) (v : Option Ticket) : (s.setTicket t v).freeCount = s.freeCount := rfl
@[simp] theorem State.setTicket_station (t : TicketId) (v : Option Ticket) : (s.setTicket t v).station = s.station := rfl
@[simp] theorem State.setTicket_time (t : TicketId) (v : Option Ticket) : (s.setTicket t v).time = s.time := rfl
@[simp] theorem State.setTicket_loop (t : TicketId) (v : Option Ticket) : (s.setTicket t v).loop = s.loop := rfl
@[simp] theorem State.setTicket_cell (t : TicketId) (v : Option Ticket) : (s.setTicket t v).cell = s.cell := rfl
@[simp] theorem State.setTicket_screens (t : TicketId) (v : Option Ticket) : (s.setTicket t v).screens = s.screens := rfl
@[simp] theorem State.setTicket_seqr (t : TicketId) (v : Option Ticket) : (s.setTicket t v).seqr = s.seqr := rfl
@[simp] theorem State.setTicket_sound (t : TicketId) (v : Option Ticket) : (s.setTicket t v).sound = s.sound := rfl
@[simp] theorem State.setTicket_ann (t : TicketId) (v : Option Ticket) : (s.setTicket t v).ann = s.ann := rfl
@[simp] theorem State.setTicket_gate (t : TicketId) (v : Option Ticket) : (s.setTicket t v).gate = s.gate := rfl
@[simp] theorem State.setTicket_mgmt (t : TicketId) (v : Option Ticket) : (s.setTicket t v).mgmt = s.mgmt := rfl

/-! ### modTicket -/

@[simp] theorem State.modTicket_pending (t : TicketId) (f : Ticket → Ticket) : (s.modTicket t f).pending = s.pending := rfl
@[simp] theorem State.modTicket_freeCount (t : TicketId) (f : Ticket → Ticket) : (s.modTicket t f).freeCount = s.freeCount := rfl
@[simp] theorem State.modTicket_station (t : TicketId) (f : Ticket → Ticket) : (s.modTicket t f).station = s.station := rfl
@[simp] theorem State.modTicket_time (t : TicketId) (f : Ticket → Ticket) : (s.modTicket t f).time = s.time := rfl
@[simp] theorem State.modTicket_loop (t : TicketId) (f : Ticket → Ticket) : (s.modTicket t f).loop = s.loop := rfl
@[simp] theorem State.modTicket_cell (t : TicketId) (f : Ticket → Ticket) : (s.modTicket t f).cell = s.cell := rfl
@[simp] theorem State.modTicket_screens (t : TicketId) (f : Ticket → Ticket) : (s.modTicket t f).screens = s.screens := rfl
@[simp] theorem State.modTicket_seqr (t : TicketId) (f : Ticket → Ticket) : (s.modTicket t f).seqr = s.seqr := rfl
@[simp] theorem State.modTicket_sound (t : TicketId) (f : Ticket → Ticket) : (s.modTicket t f).sound = s.sound := rfl
@[simp] theorem State.modTicket_ann (t : TicketId) (f : Ticket → Ticket) : (s.modTicket t f).ann = s.ann := rfl
@[simp] theorem State.modTicket_gate (t : TicketId) (f : Ticket → Ticket) : (s.modTicket t f).gate = s.gate := rfl
@[simp] theorem State.modTicket_mgmt (t : TicketId) (f : Ticket → Ticket) : (s.modTicket t f).mgmt = s.mgmt := rfl

/-! ### modOrder -/

@[simp] theorem State.modOrder_pending (n : Nat) (f : Order → Order) : (s.modOrder n f).pending = s.pending := rfl
@[simp] theorem State.modOrder_freeCount (n : Nat) (f : Order → Order) : (s.modOrder n f).freeCount = s.freeCount := rfl
@[simp] theorem State.modOrder_station (n : Nat) (f : Order → Order) : (s.modOrder n f).station = s.station := rfl
@[simp] theorem State.modOrder_time (n : Nat) (f : Order → Order) : (s.modOrder n f).time = s.time := rfl
@[simp] theorem State.modOrder_loop (n : Nat) (f : Order → Order) : (s.modOrder n f).loop = s.loop := rfl
@[simp] theorem State.modOrder_cell (n : Nat) (f : Order → Order) : (s.modOrder n f).cell = s.cell := rfl
@[simp] theorem State.modOrder_screens (n : Nat) (f : Order → Order) : (s.modOrder n f).screens = s.screens := rfl
@[simp] theorem State.modOrder_seqr (n : Nat) (f : Order → Order) : (s.modOrder n f).seqr = s.seqr := rfl
@[simp] theorem State.modOrder_sound (n : Nat) (f : Order → Order) : (s.modOrder n f).sound = s.sound := rfl
@[simp] theorem State.modOrder_ann (n : Nat) (f : Order → Order) : (s.modOrder n f).ann = s.ann := rfl
@[simp] theorem State.modOrder_gate (n : Nat) (f : Order → Order) : (s.modOrder n f).gate = s.gate := rfl
@[simp] theorem State.modOrder_mgmt (n : Nat) (f : Order → Order) : (s.modOrder n f).mgmt = s.mgmt := rfl

/-! ### modMgmt -/

@[simp] theorem State.modMgmt_pending (f : Management → Management) : (s.modMgmt f).pending = s.pending := rfl
@[simp] theorem State.modMgmt_freeCount (f : Management → Management) : (s.modMgmt f).freeCount = s.freeCount := rfl
@[simp] theorem State.modMgmt_station (f : Management → Management) : (s.modMgmt f).station = s.station := rfl
@[simp] theorem State.modMgmt_time (f : Management → Management) : (s.modMgmt f).time = s.time := rfl
@[simp] theorem State.modMgmt_loop (f : Management → Management) : (s.modMgmt f).loop = s.loop := rfl
@[simp] theorem State.modMgmt_cell (f : Management → Management) : (s.modMgmt f).cell = s.cell := rfl
@[simp] theorem State.modMgmt_screens (f : Management → Management) : (s.modMgmt f).screens = s.screens := rfl
@[simp] theorem State.modMgmt_seqr (f : Management → Management) : (s.modMgmt f).seqr = s.seqr := rfl
@[simp] theorem State.modMgmt_sound (f : Management → Management) : (s.modMgmt f).sound = s.sound := rfl
@[simp] theorem State.modMgmt_ann (f : Management → Management) : (s.modMgmt f).ann = s.ann := rfl
@[simp] theorem State.modMgmt_gate (f : Management → Management) : (s.modMgmt f).gate = s.gate := rfl
@[simp] theorem State.modMgmt_router (f : Management → Management) : (s.modMgmt f).router = s.router := rfl

/-! ### modCell -/

@[simp] theorem State.modCell_pending (f : CellProcessor → CellProcessor) : (s.modCell f).pending = s.pending := rfl
@[simp] theorem State.modCell_freeCount (f : CellProcessor → CellProcessor) : (s.modCell f).freeCount = s.freeCount := rfl
@[simp] theorem State.modCell_station (f : CellProcessor → CellProcessor) : (s.modCell f).station = s.station := rfl
@[simp] theorem State.modCell_time (f : CellProcessor → CellProcessor) : (s.modCell f).time = s.time := rfl
@[simp] theorem State.modCell_loop (f : CellProcessor → CellProcessor) : (s.modCell f).loop = s.loop := rfl
@[simp] theorem State.modCell_screens (f : CellProcessor → CellProcessor) : (s.modCell f).screens = s.screens := rfl
@[simp] theorem State.modCell_seqr (f : CellProcessor → CellProcessor) : (s.modCell f).seqr = s.seqr := rfl
@[simp] theorem State.modCell_sound (f : CellProcessor → CellProcessor) : (s.modCell f).sound = s.sound := rfl
@[simp] theorem State.modCell_ann (f : CellProcessor → CellProcessor) : (s.modCell f).ann = s.ann := rfl
@[simp] theorem State.modCell_gate (f : CellProcessor → CellProcessor) : (s.modCell f).gate = s.gate := rfl
@[simp] theorem State.modCell_router (f : CellProcessor → CellProcessor) : (s.modCell f).router = s.router := rfl
@[simp] theorem State.modCell_mgmt (f : CellProcessor → CellProcessor) : (s.modCell f).mgmt = s.mgmt := rfl

/-! ### modLoop -/

@[simp] theorem State.modLoop_pending (f : LoopPorts → LoopPorts) : (s.modLoop f).pending = s.pending := rfl
@[simp] theorem State.modLoop_freeCount (f : LoopPorts → LoopPorts) : (s.modLoop f).freeCount = s.freeCount := rfl
@[simp] theorem State.modLoop_station (f : LoopPorts → LoopPorts) : (s.modLoop f).station = s.station := rfl
@[simp] theorem State.modLoop_time (f : LoopPorts → LoopPorts) : (s.modLoop f).time = s.time := rfl
@[simp] theorem State.modLoop_cell (f : LoopPorts → LoopPorts) : (s.modLoop f).cell = s.cell := rfl
@[simp] theorem State.modLoop_screens (f : LoopPorts → LoopPorts) : (s.modLoop f).screens = s.screens := rfl
@[simp] theorem State.modLoop_seqr (f : LoopPorts → LoopPorts) : (s.modLoop f).seqr = s.seqr := rfl
@[simp] theorem State.modLoop_sound (f : LoopPorts → LoopPorts) : (s.modLoop f).sound = s.sound := rfl
@[simp] theorem State.modLoop_ann (f : LoopPorts → LoopPorts) : (s.modLoop f).ann = s.ann := rfl
@[simp] theorem State.modLoop_gate (f : LoopPorts → LoopPorts) : (s.modLoop f).gate = s.gate := rfl
@[simp] theorem State.modLoop_router (f : LoopPorts → LoopPorts) : (s.modLoop f).router = s.router := rfl
@[simp] theorem State.modLoop_mgmt (f : LoopPorts → LoopPorts) : (s.modLoop f).mgmt = s.mgmt := rfl

/-! ### modPort -/

@[simp] theorem State.modPort_pending (p : PortId) (f : Port → Port) : (s.modPort p f).pending = s.pending := by cases p <;> rfl
@[simp] theorem State.modPort_freeCount (p : PortId) (f : Port → Port) : (s.modPort p f).freeCount = s.freeCount := by cases p <;> rfl
@[simp] theorem State.modPort_station (p : PortId) (f : Port → Port) : (s.modPort p f).station = s.station := by cases p <;> rfl
@[simp] theorem State.modPort_time (p : PortId) (f : Port → Port) : (s.modPort p f).time = s.time := by cases p <;> rfl
@[simp] theorem State.modPort_cell (p : PortId) (f : Port → Port) : (s.modPort p f).cell = s.cell := by cases p <;> rfl
@[simp] theorem State.modPort_screens (p : PortId) (f : Port → Port) : (s.modPort p f).screens = s.screens := by cases p <;> rfl
@[simp] theorem State.modPort_seqr (p : PortId) (f : Port → Port) : (s.modPort p f).seqr = s.seqr := by cases p <;> rfl
@[simp] theorem State.modPort_sound (p : PortId) (f : Port → Port) : (s.modPort p f).sound = s.sound := by cases p <;> rfl
@[simp] theorem State.modPort_ann (p : PortId) (f : Port → Port) : (s.modPort p f).ann = s.ann := by cases p <;> rfl
@[simp] theorem State.modPort_gate (p : PortId) (f : Port → Port) : (s.modPort p f).gate = s.gate := by cases p <;> rfl
@[simp] theorem State.modPort_router (p : PortId) (f : Port → Port) : (s.modPort p f).router = s.router := by cases p <;> rfl
@[simp] theorem State.modPort_mgmt (p : PortId) (f : Port → Port) : (s.modPort p f).mgmt = s.mgmt := by cases p <;> rfl

/-! ### draw -/

@[simp] theorem State.draw_pending : s.draw.pending = s.pending := rfl
@[simp] theorem State.draw_station : s.draw.station = s.station := rfl
@[simp] theorem State.draw_time : s.draw.time = s.time := rfl
@[simp] theorem State.draw_loop : s.draw.loop = s.loop := rfl
@[simp] theorem State.draw_cell : s.draw.cell = s.cell := rfl
@[simp] theorem State.draw_screens : s.draw.screens = s.screens := rfl
@[simp] theorem State.draw_seqr : s.draw.seqr = s.seqr := rfl
@[simp] theorem State.draw_sound : s.draw.sound = s.sound := rfl
@[simp] theorem State.draw_ann : s.draw.ann = s.ann := rfl
@[simp] theorem State.draw_gate : s.draw.gate = s.gate := rfl
@[simp] theorem State.draw_router : s.draw.router = s.router := rfl
@[simp] theorem State.draw_mgmt : s.draw.mgmt = s.mgmt := rfl

/-! ### The records updated -/

@[simp] theorem State.draw_freeCount : s.draw.freeCount = s.freeCount + 1 := rfl

@[simp] theorem State.modSeqr_seqr (f : Sequencer → Sequencer) : (s.modSeqr f).seqr = f s.seqr := rfl

@[simp] theorem State.modSound_sound (f : SoundPath → SoundPath) : (s.modSound f).sound = f s.sound := rfl

@[simp] theorem State.modAnn_ann (f : Composer → Composer) : (s.modAnn f).ann = f s.ann := rfl

@[simp] theorem State.modGate_gate (f : GateCounter → GateCounter) : (s.modGate f).gate = f s.gate := rfl

@[simp] theorem State.modRouter_router (f : Router → Router) : (s.modRouter f).router = f s.router := rfl

@[simp] theorem State.modMgmt_mgmt (f : Management → Management) : (s.modMgmt f).mgmt = f s.mgmt := rfl

@[simp] theorem State.modCell_cell (f : CellProcessor → CellProcessor) : (s.modCell f).cell = f s.cell := rfl

@[simp] theorem State.modLoop_loop (f : LoopPorts → LoopPorts) : (s.modLoop f).loop = f s.loop := rfl

@[simp] theorem State.modScreen_get (i : ScreenId) (f : Screen → Screen) (j : Nat) (h : j < 4) :
    (s.modScreen i f).screens[j] = if i.val = j then f s.screens[i.val] else s.screens[j] := by
  simp only [State.modScreen, Fin.getElem_fin, Vector.getElem_set]

@[simp] theorem State.modLane_get (i : LaneId) (f : Lane → Lane) (j : Nat) (h : j < 8) :
    (s.modLane i f).gate.lanes[j] = if i.val = j then f s.gate.lanes[i.val] else s.gate.lanes[j] := by
  simp only [State.modLane, State.modGate, Fin.getElem_fin, Vector.getElem_set]

@[simp] theorem State.modKitchen_get (i : KitchenId) (f : Kitchen → Kitchen) (j : Nat) (h : j < 8) :
    (s.modKitchen i f).router.kitchens[j] = if i.val = j then f s.router.kitchens[i.val] else s.router.kitchens[j] := by
  simp only [State.modKitchen, State.modRouter, Fin.getElem_fin, Vector.getElem_set]

@[simp] theorem State.modInput_get (i : ScreenId) (f : ProgInput → ProgInput) (j : Nat) (h : j < 4) :
    (s.modInput i f).sound.inputs[j] = if i.val = j then f s.sound.inputs[i.val] else s.sound.inputs[j] := by
  simp only [State.modInput, State.modSound, Fin.getElem_fin, Vector.getElem_set]

@[simp] theorem State.modLine_get (i : ScreenId) (f : DelayLine → DelayLine) (j : Nat) (h : j < 4) :
    (s.modLine i f).sound.lines[j] = if i.val = j then f s.sound.lines[i.val] else s.sound.lines[j] := by
  simp only [State.modLine, State.modSound, Fin.getElem_fin, Vector.getElem_set]

@[simp] theorem State.modTransmitter_get (i : ScreenId) (f : Transmitter → Transmitter) (j : Nat) (h : j < 4) :
    (s.modTransmitter i f).sound.transmitters[j] = if i.val = j then f s.sound.transmitters[i.val] else s.sound.transmitters[j] := by
  simp only [State.modTransmitter, State.modSound, Fin.getElem_fin, Vector.getElem_set]

@[simp] theorem State.modOutput_get (i : OutputId) (f : OutputState → OutputState) (j : Nat) (h : j < 5) :
    (s.modOutput i f).sound.outputs[j] = if i.val = j then f s.sound.outputs[i.val] else s.sound.outputs[j] := by
  simp only [State.modOutput, State.modSound, Fin.getElem_fin, Vector.getElem_set]

@[simp] theorem State.modOutputConfig_get (i : OutputId) (f : OutputConfig → OutputConfig) (j : Nat) (h : j < 5) :
    (s.modOutputConfig i f).sound.config[j] = if i.val = j then f s.sound.config[i.val] else s.sound.config[j] := by
  simp only [State.modOutputConfig, State.modSound, Fin.getElem_fin, Vector.getElem_set]

@[simp] theorem State.modClip_get (i : ClipId) (f : Clip → Clip) (j : Nat) (h : j < 64) :
    (s.modClip i f).ann.clips[j] = if i.val = j then f s.ann.clips[i.val] else s.ann.clips[j] := by
  simp only [State.modClip, State.modAnn, Fin.getElem_fin, Vector.getElem_set]

@[simp] theorem State.setTicket_get (i : TicketId) (v : Option Ticket) (j : Nat) (h : j < 256) :
    (s.setTicket i v).router.tickets[j] = if i.val = j then v else s.router.tickets[j] := by
  simp only [State.setTicket, State.modRouter, Vector.getElem_set]

@[simp] theorem State.setQueue_get (i : OutputId) (q : AnnQueue) (j : Nat) (h : j < 5) :
    (s.setQueue i q).ann.queues[j] = if i.val = j then q else s.ann.queues[j] := by
  simp only [State.setQueue, State.modAnn, Vector.getElem_set]

/-- A port updated reads as updated, the other port as before. -/
@[simp] theorem State.modPort_port (p q : PortId) (f : Port → Port) :
    (s.modPort p f).port q = if p = q then f (s.port p) else s.port q := by
  cases p <;> cases q <;> rfl

end Sys2Proof.Machine
end

