-- ==== Sys2Proof/Laws/Announce.lean ====
section
/-! SUPPORT. What the Announcement Composer's operations leave as it is, and that its queues keep fitting (R103). -/

namespace Sys2Proof.Machine

/-! ## `ComposerKept` is a preorder -/

theorem ComposerKept.refl (a : Composer) : ComposerKept a a := ⟨rfl, fun _ => rfl, id⟩

theorem ComposerKept.trans {a b c : Composer} (h : ComposerKept a b) (k : ComposerKept b c) : ComposerKept a c := by
  refine ⟨?_, fun i => ?_, k.fits ∘ h.fits⟩
  · rw [k.rest, h.rest]
  · rw [k.clips i, h.clips i]

/-- A change of the queues' counters and joins only. -/
theorem ComposerKept.of_queues {a b : Composer}
    (rest : b =
      { a with
        queues := b.queues, joins := b.joins, skippedItems := b.skippedItems, emptyRenders := b.emptyRenders
        discards := b.discards, preemptions := b.preemptions, suppressed := b.suppressed })
    (fits : a.queuesFit → b.queuesFit) : ComposerKept a b := by
  refine ⟨?_, fun i => ?_, fits⟩
  · rw [rest]
  · rw [rest]

/-- A change of one clip's uses. -/
theorem ComposerKept.of_uses (a : Composer) (c : ClipId) (n : Nat) :
    ComposerKept a { a with clips := a.clips.set c { a.clips[c] with uses := n } } := by
  refine ⟨rfl, fun i => ?_, id⟩
  simp only [Fin.getElem_fin, Vector.getElem_set]
  split
  · next h => cases Fin.ext h; rfl
  · rfl

/-! ## Rendering and releasing -/

theorem Composer.takeItem_kept (x : Composer × List Item) (i : Item) : ComposerKept x.1 (Composer.takeItem x i).1 := by
  cases i with
  | gap ms => exact .refl _
  | clip c =>
    unfold Composer.takeItem
    split
    · next h => cases h
    · next h =>
      split
      · exact .of_uses ..
      · exact .of_queues rfl id

theorem Composer.takeItems_kept (l : List Item) (x : Composer × List Item) :
    ComposerKept x.1 (l.foldl Composer.takeItem x).1 := by
  induction l generalizing x with
  | nil => exact .refl _
  | cons i l ih => exact (Composer.takeItem_kept x i).trans (ih _)

theorem Composer.render_kept (a : Composer) (p : PhraseId) (n : Nat) : ComposerKept a (a.render p n).1 :=
  Composer.takeItems_kept _ (a, [])

theorem Composer.release_kept (a : Composer) (l : List Item) : ComposerKept a (a.release l) := by
  unfold Composer.release
  induction l generalizing a with
  | nil => exact .refl _
  | cons i l ih =>
    cases i with
    | gap ms => exact ih a
    | clip c => exact (ComposerKept.of_uses a c _).trans (ih _)

@[simp] theorem Composer.release_queues (a : Composer) (l : List Item) : (a.release l).queues = a.queues := by
  unfold Composer.release
  induction l generalizing a with
  | nil => rfl
  | cons i l ih => cases i with
    | gap ms => exact ih a
    | clip c => exact ih _

/-! ## Queues that fit -/

theorem joinWaiting_perm (e : QueueEntry) (l : List QueueEntry) : (joinWaiting e l).Perm (e :: l) := by
  induction l with
  | nil => exact .refl _
  | cons w ws ih =>
    unfold joinWaiting
    split
    · exact .refl _
    · exact (ih.cons w).trans (.swap e w ws)

theorem returnWaiting_perm (e : QueueEntry) (l : List QueueEntry) : (returnWaiting e l).Perm (e :: l) := by
  induction l with
  | nil => exact .refl _
  | cons w ws ih =>
    unfold returnWaiting
    split
    · exact .refl _
    · exact (ih.cons w).trans (.swap e w ws)

/-- R103: a placed entry keeps the descending order. -/
theorem joinWaiting_sorted (e : QueueEntry) (l : List QueueEntry)
    (h : l.Pairwise fun d e => e.priority ≤ d.priority) :
    (joinWaiting e l).Pairwise fun d e => e.priority ≤ d.priority := by
  induction l with
  | nil => exact List.pairwise_singleton _ _
  | cons w ws ih =>
    rw [List.pairwise_cons] at h
    unfold joinWaiting
    split
    · next hlt =>
      refine List.pairwise_cons.2 ⟨fun x hx => ?_, List.pairwise_cons.2 h⟩
      rcases List.mem_cons.1 hx with rfl | hx
      · omega
      · have := h.1 x hx; omega
    · next hlt =>
      refine List.pairwise_cons.2 ⟨fun x hx => ?_, ih h.2⟩
      rcases List.mem_cons.1 ((joinWaiting_perm e ws).mem_iff.1 hx) with rfl | hx
      · omega
      · exact h.1 x hx

/-- R105: an entry that returns keeps the descending order. -/
theorem returnWaiting_sorted (e : QueueEntry) (l : List QueueEntry)
    (h : l.Pairwise fun d e => e.priority ≤ d.priority) :
    (returnWaiting e l).Pairwise fun d e => e.priority ≤ d.priority := by
  induction l with
  | nil => exact List.pairwise_singleton _ _
  | cons w ws ih =>
    rw [List.pairwise_cons] at h
    unfold returnWaiting
    split
    · next hlt =>
      refine List.pairwise_cons.2 ⟨fun x hx => ?_, List.pairwise_cons.2 h⟩
      rcases List.mem_cons.1 hx with rfl | hx
      · exact hlt
      · have := h.1 x hx; omega
    · next hlt =>
      refine List.pairwise_cons.2 ⟨fun x hx => ?_, ih h.2⟩
      rcases List.mem_cons.1 ((returnWaiting_perm e ws).mem_iff.1 hx) with rfl | hx
      · omega
      · exact h.1 x hx

theorem AnnQueue.start_fits {q : AnnQueue} (hp : q.playing = none) (h : q.fits) : q.start.fits := by
  unfold AnnQueue.start
  split
  · exact h
  · next e ws hw =>
    obtain ⟨hs, ho⟩ := h
    rw [hw] at ho
    refine ⟨?_, (List.pairwise_cons.1 ho).2⟩
    simp only [AnnQueue.size, hw, hp, List.length_cons, Option.isSome_none, Option.isSome_some] at hs ⊢
    simpa using hs

theorem AnnQueue.stop_fits {q : AnnQueue} (h : q.fits) : q.stop.fits := by
  unfold AnnQueue.stop
  split
  · exact h
  · next p hp =>
    refine ⟨?_, returnWaiting_sorted _ _ h.2⟩
    have hs := h.1
    simp only [AnnQueue.size, hp, Option.isSome_some, (returnWaiting_perm _ _).length_eq, List.length_cons,
      Option.isSome_none] at hs ⊢
    simpa using hs

theorem AnnQueue.stop_playing (q : AnnQueue) : q.stop.playing = none := by
  unfold AnnQueue.stop
  split
  · assumption
  · rfl

/-- One queue replaced by one that fits. -/
theorem Composer.queuesFit_set {a b : Composer} (o : OutputId) (q : AnnQueue) (hq : b.queues = a.queues.set o q)
    (h : a.queuesFit) (hf : q.fits) : b.queuesFit := by
  intro i
  rw [hq]
  simp only [Fin.getElem_fin, Vector.getElem_set]
  split
  · exact hf
  · exact h i

/-- R103, R105: a join of a queue that has room. -/
theorem Composer.join_queuesFit (a : Composer) (o : OutputId) (q : AnnQueue) (e : QueueEntry) (h : a.queuesFit)
    (hs : q.size < 8) (ho : q.waiting.Pairwise fun d e => e.priority ≤ d.priority) : (a.join o q e).queuesFit := by
  have hj : ({ q with waiting := joinWaiting e q.waiting } : AnnQueue).fits := by
    refine ⟨?_, joinWaiting_sorted _ _ ho⟩
    simp only [AnnQueue.size, (joinWaiting_perm e q.waiting).length_eq, List.length_cons] at hs ⊢
    omega
  unfold Composer.join
  simp only
  split
  · exact Composer.queuesFit_set o _ rfl h (AnnQueue.start_fits (AnnQueue.stop_playing _) (AnnQueue.stop_fits hj))
  · exact Composer.queuesFit_set o _ rfl h hj

theorem Composer.join_kept (a : Composer) (o : OutputId) (q : AnnQueue) (e : QueueEntry)
    (hf : a.queuesFit → q.size < 8 ∧ q.waiting.Pairwise fun d e => e.priority ≤ d.priority) :
    ComposerKept a (a.join o q e) := by
  refine .of_queues ?_ fun h => Composer.join_queuesFit a o q e h (hf h).1 (hf h).2
  unfold Composer.join
  simp only
  split <;> rfl

theorem Composer.discard_kept (a : Composer) (o : OutputId) (e : QueueEntry) : ComposerKept a (a.discard o e) :=
  (Composer.release_kept a e.items).trans (.of_queues rfl id)

/-- The entry chosen from a list is the one chosen before it or one of the list. -/
theorem lowerVictim_mem (l : List QueueEntry) (v : Option QueueEntry) :
    l.foldl lowerVictim v = v ∨ ∃ e ∈ l, l.foldl lowerVictim v = some e := by
  induction l generalizing v with
  | nil => exact .inl rfl
  | cons x xs ih =>
    rw [List.foldl_cons]
    rcases ih (lowerVictim v x) with h | ⟨e, he, h⟩
    · rw [h]
      unfold lowerVictim
      split
      · exact .inr ⟨x, List.mem_cons_self, rfl⟩
      · split
        · exact .inr ⟨x, List.mem_cons_self, rfl⟩
        · exact .inl rfl
    · exact .inr ⟨e, List.mem_cons_of_mem _ he, h⟩

/-- R103: the entry chosen for a discard waits in the queue. -/
theorem AnnQueue.victim_waits {q : AnnQueue} {v : QueueEntry} (h : q.victim = some v) : v ∈ q.waiting := by
  unfold AnnQueue.victim at h
  rcases lowerVictim_mem q.waiting none with k | ⟨e, he, k⟩ <;> rw [h] at k <;> cases k
  exact he

theorem Composer.place_kept (a : Composer) (o : OutputId) (e : QueueEntry) : ComposerKept a (a.place o e) := by
  have step : ComposerKept a { a with joins := a.joins + 1 } := .of_queues rfl id
  refine step.trans ?_
  unfold Composer.place
  simp only
  split
  · next hs => exact Composer.join_kept _ _ _ _ fun h => ⟨hs, (h o).2⟩
  · split
    · exact Composer.discard_kept ..
    · next v hv =>
      split
      · refine (Composer.discard_kept _ o v).trans (Composer.join_kept _ _ _ _ fun h => ?_)
        have hq := h o
        simp only [Composer.discard, Composer.release_queues] at hq
        obtain ⟨hs, ho⟩ := hq
        refine ⟨?_, ho.sublist List.erase_sublist⟩
        have hm := AnnQueue.victim_waits hv
        have hl := List.length_erase_of_mem hm
        have hpos : 0 < a.queues[o].waiting.length := List.length_pos_of_mem hm
        simp only [AnnQueue.size] at hs ⊢
        simp only [Fin.getElem_fin] at hl hpos hs ⊢
        omega
      · exact Composer.discard_kept ..

/-! ## A call of one clip, and an empty queue (R101, R103) -/

/-- A phrase of one READY clip with room in its uses renders to that clip, used once more. -/
theorem Composer.render_clip {a : Composer} {p : PhraseId} {k : ClipId} (n : Nat) (part : a.phrases[p] = [.clip k])
    (ready : a.clips[k].state = .ready) (room : a.clips[k].uses < 255) :
    a.render p n =
      ({ a with clips := a.clips.set k { a.clips[k] with uses := a.clips[k].uses + 1 } }, [.clip k]) := by
  have uses : a.clips[k].takesUse = true := by simp only [Clip.takesUse, ready, room, decide_true, Bool.and_self]
  simp only [Composer.render, part, Part.items, List.flatMap_cons, List.flatMap_nil, List.append_nil, List.foldl_cons,
    List.foldl_nil, Composer.takeItem, uses, if_true, List.nil_append]

/-- An entry placed in an empty queue waits there alone. -/
theorem Composer.place_empty {a : Composer} {o : OutputId} (e : QueueEntry) (h : a.queues[o].empty) :
    a.place o e =
      { a with
        queues := a.queues.set o { playing := none, waiting := [{ e with join := a.joins }] }
        joins := a.joins + 1 } := by
  simp only [Composer.place, Composer.join, AnnQueue.size, AnnQueue.preempts, joinWaiting, h.1, h.2, List.length_nil,
    Option.isSome_none, Bool.false_eq_true, if_false, Nat.reduceAdd, Nat.reduceLT, if_true]

end Sys2Proof.Machine
end

