-- ==== Sys2Proof/Laws/Memory.lean ====
section
/-! SUPPORT. The addressed stores: what a read gives after a write, a run or a clear, and that each keeps the canonical
form. -/

namespace Sys2Proof.Machine

variable {α : Type} [DecidableEq α]

omit [DecidableEq α] in
/-- An address below every listed one reads as zero. -/
theorem memRead_below (zero : α) (m : List (Nat × α)) (a : Nat) (h : ∀ c ∈ m, a < c.1) : memRead zero m a = zero := by
  induction m with
  | nil => rfl
  | cons c m ih =>
    have hc := h c (by simp)
    simp only [memRead]
    rw [if_neg (by omega)]
    exact ih fun d hd => h d (by simp [hd])

/-- A read after a write: the value at its address, the old content elsewhere. -/
theorem memRead_memWrite (zero : α) (m : List (Nat × α)) (hm : m.Pairwise fun c d => c.1 < d.1) (a b : Nat) (v : α) :
    memRead zero (memWrite zero m a v) b = if b = a then v else memRead zero m b := by
  induction m with
  | nil => by_cases hv : v = zero <;> by_cases hb : a = b <;> simp_all [memWrite, memRead, eq_comm]
  | cons c m ih =>
    obtain ⟨k, w⟩ := c
    rw [List.pairwise_cons] at hm
    have below (d : Nat) (hd : d ≤ k) : memRead zero m d = zero :=
      memRead_below zero m d fun e he => lt_of_le_of_lt hd (hm.1 e he)
    simp only [memWrite]
    split
    · have hk : a < k := ‹_›
      by_cases hb : b = a
      · subst hb
        split <;> simp_all [memRead, below b hk.le, hk.ne']
      · split <;> simp_all [memRead, eq_comm]
    · split
      · have hk : a = k := ‹_›
        subst hk
        by_cases hb : b = a
        · subst hb
          split <;> simp_all [memRead, below b le_rfl]
        · split <;> simp_all [memRead, eq_comm]
      · simp only [memRead, ih hm.2]
        by_cases hb : k = b
        · subst hb
          rw [if_pos rfl, if_neg (by omega), if_pos rfl]
        · rw [if_neg hb, if_neg hb]

/-- The entries after a write are those of before and its own. -/
theorem mem_memWrite (zero : α) (m : List (Nat × α)) (a : Nat) (v : α) (c : Nat × α) (h : c ∈ memWrite zero m a v) :
    c ∈ m ∨ (c = (a, v) ∧ v ≠ zero) := by
  induction m with
  | nil => by_cases hv : v = zero <;> simp_all [memWrite]
  | cons d m ih =>
    simp only [memWrite] at h
    split at h
    · split at h <;> simp_all
      tauto
    · split at h
      · split at h <;> simp_all
        tauto
      · rcases List.mem_cons.mp h with h | h
        · exact .inl (by simp [h])
        · rcases ih h with h | h
          · exact .inl (by simp [h])
          · exact .inr h

/-- A write keeps the canonical form. -/
theorem memWrite_wf (zero : α) (m : List (Nat × α)) (h : Memory.wf zero m) (a : Nat) (v : α) :
    Memory.wf zero (memWrite zero m a v) := by
  refine ⟨?_, fun c hc => ?_⟩
  · obtain ⟨hm, -⟩ := h
    induction m with
    | nil => by_cases hv : v = zero <;> simp [memWrite, hv]
    | cons c m ih =>
      have hm' := hm
      rw [List.pairwise_cons] at hm
      simp only [memWrite]
      split
      · split
        · exact hm'
        · refine List.pairwise_cons.mpr ⟨fun d hd => ?_, hm'⟩
          rcases List.mem_cons.mp hd with rfl | hd
          · assumption
          · exact lt_trans ‹_› (hm.1 d hd)
      · split
        · have hk : a = c.1 := ‹_›
          subst hk
          split
          · exact hm.2
          · exact List.pairwise_cons.mpr ⟨hm.1, hm.2⟩
        · refine List.pairwise_cons.mpr ⟨fun d hd => ?_, ih hm.2⟩
          rcases mem_memWrite zero m a v d hd with hd | ⟨rfl, -⟩
          · exact hm.1 d hd
          · show c.1 < a
            omega
  · rcases mem_memWrite zero m a v c hc with hc | ⟨rfl, hv⟩
    · exact h.2 c hc
    · exact hv

omit [DecidableEq α] in
/-- A clear keeps the canonical form. -/
theorem memClear_wf (zero : α) (m : List (Nat × α)) (h : Memory.wf zero m) (lo n : Nat) :
    Memory.wf zero (memClear m lo n) :=
  ⟨h.1.filter _, fun c hc => h.2 c (List.mem_filter.mp hc).1⟩

omit [DecidableEq α] in
/-- A read after a clear: zero in its range, the old content elsewhere. -/
theorem memRead_memClear (zero : α) (m : List (Nat × α)) (lo n a : Nat) :
    memRead zero (memClear m lo n) a = if lo ≤ a ∧ a < lo + n then zero else memRead zero m a := by
  induction m with
  | nil => simp [memClear, memRead]
  | cons c m ih =>
    obtain ⟨k, w⟩ := c
    simp only [memClear, List.filter_cons] at ih ⊢
    by_cases hk : k = a
    · subst hk
      by_cases hr : lo ≤ k ∧ k < lo + n
      · rw [if_neg (by simp [hr]), ih, if_pos hr, if_pos hr]
      · rw [if_pos (by simp only [Bool.not_and]; simp; omega), if_neg hr]
        simp only [memRead, if_pos]
    · split <;> simp only [memRead, if_neg hk, ih]

/-- R96: a run keeps the canonical form. -/
theorem clipWriteRun_wf (run : List Sample16) (m : List (Nat × Sample16)) (a : Nat) (h : Memory.wf 0 m) :
    Memory.wf 0 (clipWriteRun m a run) := by
  induction run generalizing m a with
  | nil => exact h
  | cons v run ih => exact ih _ _ (memWrite_wf 0 m h _ v)

/-- R96: what clip memory holds after a run that ends inside it. -/
theorem clipRead_clipWriteRun (run : List Sample16) (m : List (Nat × Sample16)) (a : Nat) (h : Memory.wf 0 m)
    (ha : a + run.length ≤ 8388608) (b : Nat) :
    clipRead (clipWriteRun m a run) b =
      if a ≤ b ∧ b < a + run.length then run.getD (b - a) 0 else clipRead m b := by
  induction run generalizing m a with
  | nil =>
    simp only [clipWriteRun, List.length_nil]
    rw [if_neg (by omega)]
  | cons v run ih =>
    simp only [List.length_cons] at ha ⊢
    have hw : clipAddress a 0 = a := by simp only [clipAddress]; omega
    rw [clipWriteRun, ih _ _ (memWrite_wf 0 m h _ v) (by omega)]
    simp only [clipRead, hw, memRead_memWrite 0 m h.1]
    by_cases hb : b = a
    · subst hb
      rw [if_neg (by omega), if_pos rfl, if_pos (by omega)]
      simp
    · by_cases hr : a + 1 ≤ b ∧ b < a + 1 + run.length
      · obtain ⟨j, rfl⟩ : ∃ j, b = a + 1 + j := ⟨b - (a + 1), by omega⟩
        rw [if_pos hr, if_pos (by omega), show a + 1 + j - (a + 1) = j by omega, show a + 1 + j - a = j + 1 by omega]
        rfl
      · rw [if_neg hr, if_neg hb, if_neg (by omega)]

/-- R76: a frame put into a delay line keeps the canonical form. -/
theorem DelayLine.put_wf (l : DelayLine) (f : Frame) (h : Memory.wf zeroFrame l.frames) :
    Memory.wf zeroFrame (l.put f).frames :=
  memWrite_wf zeroFrame l.frames h _ f

/-- R76: what a delay line holds after a frame is put. -/
theorem DelayLine.put_read (l : DelayLine) (f : Frame) (h : Memory.wf zeroFrame l.frames) (p : Nat) :
    memRead zeroFrame (l.put f).frames p = if p = (l.put f).write then f else memRead zeroFrame l.frames p :=
  memRead_memWrite zeroFrame l.frames h.1 _ p f

/-- The reset state's stores have the canonical form. -/
theorem reset_memory_wf : Memory.wf 0 State.reset.ann.memory :=
  ⟨List.Pairwise.nil, fun _ h => nomatch h⟩

end Sys2Proof.Machine
end

