-- ==== Sys2Proof/Laws/DelayLine.lean ====
section
/-! SUPPORT. What a frame, a move and a period of each kind do to the effective delay of a delay line (R76, R77). -/

namespace Sys2Proof.Machine

/-- The positions of a delay line stand in its ring. -/
structure DelayLine.inRing (l : DelayLine) : Prop where
  read : l.read < lineSize
  write : l.write < lineSize

/-- Positions in the ring: the delay written without a remainder of the read position. -/
theorem DelayLine.delay_eq {l : DelayLine} (h : l.inRing) : l.delay = (l.write + 9600 - l.read) % 9600 := by
  have := h.read
  simp only [DelayLine.delay, lineSize] at *
  rw [Nat.mod_eq_of_lt this]

/-- R76: the delay is a position of the ring. -/
theorem DelayLine.delay_le (l : DelayLine) : l.delay ≤ 9599 :=
  Nat.le_of_lt_succ (Nat.mod_lt _ (show 0 < lineSize by decide))

theorem DelayLine.put_inRing {l : DelayLine} (h : l.inRing) (f : Frame) : (l.put f).inRing := by
  have := h.read
  refine ⟨?_, Nat.mod_lt _ (by decide)⟩
  simp only [DelayLine.put]
  split
  · exact Nat.mod_lt _ (by decide)
  · exact this

theorem DelayLine.advance_inRing {l : DelayLine} (h : l.inRing) (n : Nat) : (l.advance n).inRing :=
  ⟨Nat.mod_lt _ (by decide), h.write⟩

/-- R76: a frame lengthens the delay by 1, but of a full line it leaves it. -/
theorem DelayLine.put_delay {l : DelayLine} (h : l.inRing) (f : Frame) :
    (l.put f).delay = min (l.delay + 1) 9599 := by
  have hr := h.read
  have hw := h.write
  rw [DelayLine.delay_eq (l.put_inRing h f), DelayLine.delay_eq h]
  rw [show (l.put f).write = (l.write + 1) % 9600 from rfl]
  by_cases hm : (l.write + 1) % 9600 = l.read
  · rw [show (l.put f).read = (l.read + 1) % 9600 from if_pos hm]
    simp only [lineSize] at hr hw
    omega
  · rw [show (l.put f).read = l.read from if_neg hm]
    simp only [lineSize] at hr hw
    omega

/-- R76: a move shortens the delay by its length, down to 0. -/
theorem DelayLine.advance_delay {l : DelayLine} (h : l.inRing) (n : Nat) : (l.advance n).delay = l.delay - n := by
  have hr := h.read
  have hw := h.write
  rw [DelayLine.delay_eq (l.advance_inRing h n)]
  simp only [DelayLine.advance]
  rw [DelayLine.delay_eq h]
  simp only [lineSize] at *
  omega

/-- R76, R77: a zero frame and a move of 0, 1 or 2 together (log 7). -/
theorem DelayLine.fillAndMove_delay {l : DelayLine} (h : l.inRing) (n : Nat) (hn : n ≤ 2) :
    (l.fillAndMove n).delay = if l.delay = 0 ∧ n = 2 then 0 else min (l.delay + 1 - n) 9599 := by
  have hd := l.delay_le
  unfold DelayLine.fillAndMove
  split
  · rw [DelayLine.advance_delay (l.put_inRing h _), DelayLine.put_delay h]
    split <;> simp only [lineSize] at * <;> omega
  · rw [DelayLine.put_delay (l.advance_inRing h n), DelayLine.advance_delay h]
    split <;> simp only [lineSize] at * <;> omega

/-- R77: how a slew moves: not at all, by 2, or by 1. -/
theorem DelayLine.slewMove_le (l : DelayLine) (target : Nat) : l.slewMove target ≤ 2 := by
  unfold DelayLine.slewMove
  split
  · decide
  · split <;> decide

/-- R77: on an UNLOCKED input a wrap of the phase brings the delay one nearer its target, and leaves it there. -/
theorem DelayLine.fillAndMove_slew {l : DelayLine} (h : l.inRing) (target : Nat) (ht : target ≤ 9599) :
    (l.fillAndMove (l.slewMove target)).delay =
      if l.delay < target then l.delay + 1 else if target < l.delay then l.delay - 1 else l.delay := by
  have hd := l.delay_le
  rw [DelayLine.fillAndMove_delay h _ (l.slewMove_le target)]
  unfold DelayLine.slewMove
  split
  · split <;> omega
  · split
    · split <;> omega
    · split <;> omega

/-- R76: the canonical form of a line's frames through a zero frame and a move. -/
theorem DelayLine.fillAndMove_wf (l : DelayLine) (n : Nat) (h : Memory.wf zeroFrame l.frames) :
    Memory.wf zeroFrame (l.fillAndMove n).frames := by
  unfold DelayLine.fillAndMove
  split <;> exact memWrite_wf zeroFrame l.frames h _ _

end Sys2Proof.Machine
end

