-- ==== Sys2Proof/Laws/PerInstr.lean ====
section
/-! SUPPORT. Statements made per command. -/

namespace Sys2Proof.Laws

/-- R29: a well-formed command that stands for a management cell has a source in 1..120. -/
def Wire.Statement (i : Instr) : Prop :=
  ∀ (m : Sender) (code : Byte), i.wellFormed = true → Machine.managementCell i = some (m, code) → sourceFits m.source

/-- The check of a source and of one more thing holds of the source. -/
theorem sender_of_both {m n : Sender} {c d : Byte} {b : Bool} (h : (decide (sourceFits m.source) && b) = true)
    (e : some (m, c) = some (n, d)) : sourceFits n.source := by
  cases e
  exact of_decide_eq_true (Bool.and_eq_true_iff.mp h).1

/-- The check of a source alone holds of it. -/
theorem sender_of_one {m n : Sender} {c d : Byte} (h : decide (sourceFits m.source) = true)
    (e : some (m, c) = some (n, d)) : sourceFits n.source := by
  cases e
  exact of_decide_eq_true h

theorem Wire.coldReset (strap : BitVec 7) : Wire.Statement (.coldReset strap) :=
  fun _ _ _ e => nomatch e

theorem Wire.hailReceived (port : PortId) : Wire.Statement (.hailReceived port) :=
  fun _ _ _ e => nomatch e

theorem Wire.hailAckReceived (port : PortId) : Wire.Statement (.hailAckReceived port) :=
  fun _ _ _ e => nomatch e

theorem Wire.idleReceived (port : PortId) : Wire.Statement (.idleReceived port) :=
  fun _ _ _ e => nomatch e

theorem Wire.symbolErrorReceived (port : PortId) : Wire.Statement (.symbolErrorReceived port) :=
  fun _ _ _ e => nomatch e

theorem Wire.lossOfSignal (port : PortId) : Wire.Statement (.lossOfSignal port) :=
  fun _ _ _ e => nomatch e

theorem Wire.quietPeriodEnd (port : PortId) : Wire.Statement (.quietPeriodEnd port) :=
  fun _ _ _ e => nomatch e

theorem Wire.lineErrorWindowEnd : Wire.Statement .lineErrorWindowEnd :=
  fun _ _ _ e => nomatch e

theorem Wire.cellHeaderArrives (head : List Sym) : Wire.Statement (.cellHeaderArrives head) :=
  fun _ _ _ e => nomatch e

theorem Wire.cellTailArrives (rest : List Sym) : Wire.Statement (.cellTailArrives rest) :=
  fun _ _ _ e => nomatch e

theorem Wire.portBTurn : Wire.Statement .portBTurn :=
  fun _ _ _ e => nomatch e

theorem Wire.returnTimeout (tag : Half) : Wire.Statement (.returnTimeout tag) :=
  fun _ _ _ e => nomatch e

theorem Wire.mgmtWrite (sender : Sender) (table : Byte) (index : Half) (entry : List Byte) : Wire.Statement (.mgmtWrite sender table index entry) :=
  fun _ _ h e => sender_of_both h e

theorem Wire.siteWrite (sender : Sender) (index : Half) (entry : List Byte) : Wire.Statement (.siteWrite sender index entry) :=
  fun _ _ h e => sender_of_both h e

theorem Wire.screenWrite (sender : Sender) (index : Half) (entry : List Byte) : Wire.Statement (.screenWrite sender index entry) :=
  fun _ _ h e => sender_of_both h e

theorem Wire.segmentWrite (sender : Sender) (index : Half) (entry : List Byte) : Wire.Statement (.segmentWrite sender index entry) :=
  fun _ _ h e => sender_of_both h e

theorem Wire.cueWrite (sender : Sender) (index : Half) (entry : List Byte) : Wire.Statement (.cueWrite sender index entry) :=
  fun _ _ h e => sender_of_both h e

theorem Wire.outputWrite (sender : Sender) (index : Half) (entry : List Byte) : Wire.Statement (.outputWrite sender index entry) :=
  fun _ _ h e => sender_of_both h e

theorem Wire.clipWrite (sender : Sender) (index : Half) (entry : List Byte) : Wire.Statement (.clipWrite sender index entry) :=
  fun _ _ h e => sender_of_both h e

theorem Wire.phraseWrite (sender : Sender) (index : Half) (entry : List Byte) : Wire.Statement (.phraseWrite sender index entry) :=
  fun _ _ h e => sender_of_both h e

theorem Wire.eventWrite (sender : Sender) (index : Half) (entry : List Byte) : Wire.Statement (.eventWrite sender index entry) :=
  fun _ _ h e => sender_of_both h e

theorem Wire.laneWrite (sender : Sender) (index : Half) (entry : List Byte) : Wire.Statement (.laneWrite sender index entry) :=
  fun _ _ h e => sender_of_both h e

theorem Wire.menuWrite (sender : Sender) (index : Half) (entry : List Byte) : Wire.Statement (.menuWrite sender index entry) :=
  fun _ _ h e => sender_of_both h e

theorem Wire.stationWrite (sender : Sender) (index : Half) (entry : List Byte) : Wire.Statement (.stationWrite sender index entry) :=
  fun _ _ h e => sender_of_both h e

theorem Wire.tapWrite (sender : Sender) (index : Half) (entry : List Byte) : Wire.Statement (.tapWrite sender index entry) :=
  fun _ _ h e => sender_of_both h e

theorem Wire.outputStatusRead (sender : Sender) (index : Half) : Wire.Statement (.outputStatusRead sender index) :=
  fun _ _ h e => sender_of_one h e

theorem Wire.start (sender : Sender) (screen : Byte) : Wire.Statement (.start sender screen) :=
  fun _ _ h e => sender_of_one h e

theorem Wire.go (sender : Sender) (screen : Byte) : Wire.Statement (.go sender screen) :=
  fun _ _ h e => sender_of_one h e

theorem Wire.hold (sender : Sender) (screen : Byte) : Wire.Statement (.hold sender screen) :=
  fun _ _ h e => sender_of_one h e

theorem Wire.abort (sender : Sender) (screen : Byte) : Wire.Statement (.abort sender screen) :=
  fun _ _ h e => sender_of_one h e

theorem Wire.rehearse (sender : Sender) (screen setting : Byte) : Wire.Statement (.rehearse sender screen setting) :=
  fun _ _ h e => sender_of_one h e

theorem Wire.panelKey (source screen key : Byte) : Wire.Statement (.panelKey source screen key) :=
  fun _ _ _ e => nomatch e

theorem Wire.clipSeal (sender : Sender) (clip : Byte) : Wire.Statement (.clipSeal sender clip) :=
  fun _ _ h e => sender_of_one h e

theorem Wire.clipDelete (sender : Sender) (clip : Byte) : Wire.Statement (.clipDelete sender clip) :=
  fun _ _ h e => sender_of_one h e

theorem Wire.announce (sender : Sender) (phrase mask priority mode : Byte) (number : Half) : Wire.Statement (.announce sender phrase mask priority mode number) :=
  fun _ _ h e => sender_of_one h e

theorem Wire.setCount (sender : Sender) (screen : Byte) (count tall : Half) : Wire.Statement (.setCount sender screen count tall) :=
  fun _ _ h e => sender_of_one h e

theorem Wire.setAdmission (sender : Sender) (screen state : Byte) : Wire.Statement (.setAdmission sender screen state) :=
  fun _ _ h e => sender_of_one h e

theorem Wire.setOrdering (sender : Sender) (screen state : Byte) : Wire.Statement (.setOrdering sender screen state) :=
  fun _ _ h e => sender_of_one h e

theorem Wire.cancelOrder (sender : Sender) (number : Half) : Wire.Statement (.cancelOrder sender number) :=
  fun _ _ h e => sender_of_one h e

theorem Wire.clearFault (sender : Sender) (output : Byte) : Wire.Statement (.clearFault sender output) :=
  fun _ _ h e => sender_of_one h e

theorem Wire.clearCounters (sender : Sender) : Wire.Statement (.clearCounters sender) :=
  fun _ _ h e => sender_of_one h e

theorem Wire.restartWarm (sender : Sender) : Wire.Statement (.restartWarm sender) :=
  fun _ _ h e => sender_of_one h e

theorem Wire.clipData (sender : Sender) (clip : Byte) (offset : BitVec 24) (run : List Sample16) : Wire.Statement (.clipData sender clip offset run) :=
  fun _ _ h e => sender_of_both h e

theorem Wire.showClockTick : Wire.Statement .showClockTick :=
  fun _ _ _ e => nomatch e

theorem Wire.programmeClockTick (screen : ScreenId) : Wire.Statement (.programmeClockTick screen) :=
  fun _ _ _ e => nomatch e

theorem Wire.restEnd (screen : ScreenId) : Wire.Statement (.restEnd screen) :=
  fun _ _ _ e => nomatch e

theorem Wire.skyReport (source : Byte) (lux : Half) : Wire.Statement (.skyReport source lux) :=
  fun _ _ _ e => nomatch e

theorem Wire.skyAgeExpiry : Wire.Statement .skyAgeExpiry :=
  fun _ _ _ e => nomatch e

theorem Wire.projState (source state : Byte) : Wire.Statement (.projState source state) :=
  fun _ _ _ e => nomatch e

theorem Wire.programmeFrame (input : ScreenId) (leftClocks rightClocks gapNs : Nat) (frame : Frame) : Wire.Statement (.programmeFrame input leftClocks rightClocks gapNs frame) :=
  fun _ _ _ e => nomatch e

theorem Wire.frameMissed (input : ScreenId) : Wire.Statement (.frameMissed input) :=
  fun _ _ _ e => nomatch e

theorem Wire.soundLostDelayExpiry (input : ScreenId) : Wire.Statement (.soundLostDelayExpiry input) :=
  fun _ _ _ e => nomatch e

theorem Wire.samplePeriod : Wire.Statement .samplePeriod :=
  fun _ _ _ e => nomatch e

theorem Wire.slewStep (line : ScreenId) : Wire.Statement (.slewStep line) :=
  fun _ _ _ e => nomatch e

theorem Wire.levelBlockEnd (output : OutputId) : Wire.Statement (.levelBlockEnd output) :=
  fun _ _ _ e => nomatch e

theorem Wire.txStatus (source carrier flags : Byte) : Wire.Statement (.txStatus source carrier flags) :=
  fun _ _ _ e => nomatch e

theorem Wire.txSilenceExpiry (output : ScreenId) : Wire.Statement (.txSilenceExpiry output) :=
  fun _ _ _ e => nomatch e

theorem Wire.fillCompletion : Wire.Statement .fillCompletion :=
  fun _ _ _ e => nomatch e

theorem Wire.entryStart (output : OutputId) : Wire.Statement (.entryStart output) :=
  fun _ _ _ e => nomatch e

theorem Wire.entryEnd (output : OutputId) : Wire.Statement (.entryEnd output) :=
  fun _ _ _ e => nomatch e

theorem Wire.admitAsk (sender : Sender) (screen vehicle : Byte) : Wire.Statement (.admitAsk sender screen vehicle) :=
  fun _ _ _ e => nomatch e

theorem Wire.laneBeat (source : Byte) : Wire.Statement (.laneBeat source) :=
  fun _ _ _ e => nomatch e

theorem Wire.entered (source vehicle : Byte) : Wire.Statement (.entered source vehicle) :=
  fun _ _ _ e => nomatch e

theorem Wire.backedOut (source vehicle : Byte) : Wire.Statement (.backedOut source vehicle) :=
  fun _ _ _ e => nomatch e

theorem Wire.exited (source vehicle : Byte) : Wire.Statement (.exited source vehicle) :=
  fun _ _ _ e => nomatch e

theorem Wire.passTimeout (lane : LaneId) : Wire.Statement (.passTimeout lane) :=
  fun _ _ _ e => nomatch e

theorem Wire.laneSilenceExpiry (lane : LaneId) : Wire.Statement (.laneSilenceExpiry lane) :=
  fun _ _ _ e => nomatch e

theorem Wire.orderPlace (sender : Sender) (screen : Byte) (lines : List (Byte × Byte)) : Wire.Statement (.orderPlace sender screen lines) :=
  fun _ _ _ e => nomatch e

theorem Wire.stationBeat (source : Byte) : Wire.Statement (.stationBeat source) :=
  fun _ _ _ e => nomatch e

theorem Wire.bump (source : Byte) (number : Half) (kitchen : Byte) : Wire.Statement (.bump source number kitchen) :=
  fun _ _ _ e => nomatch e

theorem Wire.recallExpiry (number : Half) : Wire.Statement (.recallExpiry number) :=
  fun _ _ _ e => nomatch e

theorem Wire.lateTimerExpiry (number : Half) (kitchen : KitchenId) : Wire.Statement (.lateTimerExpiry number kitchen) :=
  fun _ _ _ e => nomatch e

theorem Wire.pickup (source : Byte) (number : Half) : Wire.Statement (.pickup source number) :=
  fun _ _ _ e => nomatch e

theorem Wire.dataSymbolOutsideCell : Wire.Statement .dataSymbolOutsideCell :=
  fun _ _ _ e => nomatch e

end Sys2Proof.Laws
end

