-- ==== Sys2Proof/Laws/Ports.lean ====
section
/-! SUPPORT. Loss of signal with and without a cell in arrival, and what a port sends (R15, R17, R18). -/

namespace Sys2Proof.Machine

/-- R18: only a cell that arrives at port A, and holds a symbol error, has an error to count. -/
@[simp] theorem State.arrivingError_b (s : State) : s.arrivingError .b = s := rfl

theorem State.arrivingError_none (s : State) (p : PortId) (h : s.loop.arriving = none) : s.arrivingError p = s := by
  cases p <;> simp [State.arrivingError, h]

theorem State.arrivingError_some (s : State) (v : Arriving) (h : s.loop.arriving = some v) :
    s.arrivingError .a = if v.symbolError then s.lineError .a else s := by
  simp [State.arrivingError, h]

/-- R17: with no cell in arrival, loss of signal leaves the state for DOWN and does nothing else. -/
theorem State.lossOfSignal_none (s : State) (p : PortId) (h : s.loop.arriving = none) (held : (s.port p).held = false)
    (up : (s.port p).state ≠ .down) : s.lossOfSignal p = s.leaveLink p .down := by
  simp [State.lossOfSignal, State.arrivingError_none s p h, held, up]

/-- R14, R17: a held or DOWN port declares no loss of signal. -/
theorem State.lossOfSignal_deaf (s : State) (p : PortId) (h : (s.port p).held = true ∨ (s.port p).state = .down) :
    s.lossOfSignal p = s := by
  simp only [State.lossOfSignal, if_pos h]

/-- R15: a port that is held, or DOWN under its quiet timer, sends nothing. -/
theorem State.portSends_nothing (s : State) (p : PortId)
    (h : (s.port p).held ∨ ((s.port p).state = .down ∧ (s.port p).quiet.isSome)) : s.portSends p = .nothing := by
  simp only [State.portSends, if_pos h]

/-- R15: what any other port sends in DOWN and HAILING, and in ANSWERING. -/
theorem State.portSends_hail (s : State) (p : PortId) (held : (s.port p).held = false) (quiet : (s.port p).quiet = none)
    (h : (s.port p).state = .down ∨ (s.port p).state = .hailing) : s.portSends p = .hail := by
  rcases h with h | h <;> simp [State.portSends, held, quiet, h]

theorem State.portSends_answering (s : State) (p : PortId) (held : (s.port p).held = false)
    (h : (s.port p).state = .answering) : s.portSends p = .hailAck := by
  simp [State.portSends, held, h]

end Sys2Proof.Machine
end

