-- ==== Sys2Proof/Laws/Traffic.lean ====
section
/-! SUPPORT. What sending a cell, raising an event, announcing, releasing held calls and dispatching tickets leave as it
is (`Kept`): each shared operation once. -/

namespace Sys2Proof.Machine

/-! ## `Kept` is a preorder -/

theorem CellKept.refl (c : CellProcessor) : CellKept c c := ⟨rfl, id⟩

theorem CellKept.trans {c d e : CellProcessor} (h : CellKept c d) (k : CellKept d e) : CellKept c e :=
  ⟨by rw [k.rest, h.rest], k.fits ∘ h.fits⟩

theorem RouterKept.refl (r : Router) : RouterKept r r := ⟨rfl, fun _ => rfl, rfl⟩

theorem RouterKept.trans {r t u : Router} (h : RouterKept r t) (k : RouterKept t u) : RouterKept r u := by
  refine ⟨?_, fun i => ?_, k.orders.trans h.orders⟩
  · rw [k.rest, h.rest]
  · rw [k.kitchens i, h.kitchens i]

theorem Kept.refl (s : State) : Kept s s :=
  ⟨rfl, rfl, rfl, rfl, rfl, rfl, rfl, fun _ => rfl, rfl, .refl _, .refl _, .refl _⟩

theorem Kept.trans {s t u : State} (h : Kept s t) (k : Kept t u) : Kept s u :=
  { pending := k.pending.trans h.pending
    station := k.station.trans h.station
    time := k.time.trans h.time
    loop := k.loop.trans h.loop
    seqr := k.seqr.trans h.seqr
    sound := k.sound.trans h.sound
    gate := k.gate.trans h.gate
    screens := fun c => by rw [k.screens c, h.screens c]
    mgmt := by rw [k.mgmt, h.mgmt]
    cell := h.cell.trans k.cell
    ann := h.ann.trans k.ann
    router := h.router.trans k.router }

/-- A change of the Composer alone. -/
theorem Kept.of_ann {s : State} (a : Composer) (h : ComposerKept s.ann a) : Kept s { s with ann := a } :=
  { Kept.refl s with ann := h }

/-- A change of the Cell Processor alone. -/
theorem Kept.of_cell {s : State} (c : CellProcessor) (h : CellKept s.cell c) : Kept s { s with cell := c } :=
  { Kept.refl s with cell := h }

/-- A change of the Order Router alone. -/
theorem Kept.of_router {s : State} (r : Router) (h : RouterKept s.router r) : Kept s { s with router := r } :=
  { Kept.refl s with router := h }

/-- One more draw. -/
theorem Kept.draw (s : State) : Kept s s.draw := { Kept.refl s with }

/-- A fold of operations that each keep. -/
theorem Kept.foldl {α : Type} (f : State → α → State) (h : ∀ s a, Kept s (f s a)) (l : List α) (s : State) :
    Kept s (l.foldl f s) := by
  induction l generalizing s with
  | nil => exact .refl s
  | cons a l ih => exact (h s a).trans (ih _)

/-! ## The transmit queue -/

/-- R41: everything a hand-over can do. -/
theorem CellProcessor.handOver_cases (c : CellProcessor) (o : OwnCell) :
    (c.queued < 16 ∧ (c.handOver o).answer = .queued ∧ (c.handOver o).removed = none ∧
      (c.handOver o).cell =
        if o.kind.isUrgent then { c with urgent := c.urgent ++ [o] } else { c with normal := c.normal ++ [o] }) ∨
    (16 ≤ c.queued ∧ o.kind.isUrgent ∧ ∃ last, c.normal.getLast? = some last ∧ (c.handOver o).answer = .queued ∧
      (c.handOver o).removed = some last ∧
      (c.handOver o).cell =
        { c.countDrop last.kind with urgent := c.urgent ++ [o], normal := c.normal.dropLast }) ∨
    (16 ≤ c.queued ∧ (o.kind.isUrgent = true → c.normal = []) ∧ (c.handOver o).answer = .dropped ∧
      (c.handOver o).removed = none ∧ (c.handOver o).cell = c.countDrop o.kind) := by
  unfold CellProcessor.handOver
  split
  · next h =>
    refine .inl ⟨h, ?_⟩
    split <;> simp_all
  · next h =>
    have h : 16 ≤ c.queued := by omega
    split
    · next hu =>
      split
      · next last hl => exact .inr (.inl ⟨h, hu, last, hl, rfl, rfl, rfl⟩)
      · next hl => exact .inr (.inr ⟨h, fun _ => List.getLast?_eq_none_iff.1 hl, rfl, rfl, rfl⟩)
    · next hu => exact .inr (.inr ⟨h, fun k => absurd k hu, rfl, rfl, rfl⟩)

/-- R41: a hand-over to a queue with room, of an URGENT cell. -/
theorem CellProcessor.handOver_room {c : CellProcessor} {o : OwnCell} (h : c.queued < 16)
    (hu : o.kind.isUrgent = true) : c.handOver o = ⟨{ c with urgent := c.urgent ++ [o] }, .queued, none⟩ := by
  simp [CellProcessor.handOver, h, hu]

/-- R41: a hand-over to a queue with room, of a NORMAL cell. -/
theorem CellProcessor.handOver_room_normal {c : CellProcessor} {o : OwnCell} (h : c.queued < 16)
    (hu : o.kind.isUrgent = false) : c.handOver o = ⟨{ c with normal := c.normal ++ [o] }, .queued, none⟩ := by
  simp [CellProcessor.handOver, h, hu]

theorem CellProcessor.handOver_kept (c : CellProcessor) (o : OwnCell) : CellKept c (c.handOver o).cell := by
  rcases c.handOver_cases o with ⟨h, -, -, hc⟩ | ⟨h, -, last, hl, -, -, hc⟩ | ⟨h, -, -, -, hc⟩
  · rw [hc]
    refine ⟨by split <;> rfl, fun _ => ?_⟩
    split <;> simp only [CellProcessor.queueFits, CellProcessor.queued, List.length_append, List.length_cons,
      List.length_nil] at h ⊢ <;> omega
  · rw [hc]
    refine ⟨rfl, fun hf => ?_⟩
    have hne : c.normal ≠ [] := by rintro h0; rw [h0] at hl; cases hl
    have hpos := List.length_pos_iff.2 hne
    simp only [CellProcessor.queueFits, CellProcessor.queued, List.length_append, List.length_singleton,
      List.length_dropLast] at hf ⊢
    omega
  · rw [hc]
    exact ⟨rfl, id⟩

theorem State.handNormal_kept (s : State) (o : OwnCell) : Kept s (s.handNormal o).1 :=
  .of_cell _ (CellProcessor.handOver_kept s.cell o)

/-! ## Announcements -/

theorem State.renderAndPlace_kept (s : State) (r : Request) (o : OutputId) : Kept s (s.renderAndPlace r o) := by
  unfold State.renderAndPlace
  have h := Composer.render_kept s.ann r.phrase r.number
  simp only
  split
  · exact .of_ann _ (h.trans (.of_queues rfl id))
  · exact .of_ann _ (h.trans (Composer.place_kept _ o _))

theorem Kept.of_heldCalls (s : State) (c : ScreenId) (l : List Nat) : Kept s (s.setHeldCalls c l) := by
  refine { Kept.refl s with screens := fun d => ?_ }
  simp only [State.setHeldCalls, Fin.getElem_fin, State.modScreen_get]
  split
  · next h => cases Fin.ext h; rfl
  · rfl

theorem State.requestOne_kept (s : State) (r : Request) (o : OutputId) : Kept s (s.requestOne r o) := by
  unfold State.requestOne
  split
  · exact s.renderAndPlace_kept r o
  · split
    · exact .of_ann _ (.of_queues rfl id)
    · split
      · split
        · exact .of_heldCalls ..
        · exact s.renderAndPlace_kept r o
      · exact s.renderAndPlace_kept r o

theorem State.request_kept (s : State) (r : Request) : Kept s (s.request r) :=
  .foldl _ (fun s o => by
    split
    · exact s.requestOne_kept r o
    · exact .refl s) _ s

/-- R109: a report changes only the call activity of orders. -/
theorem State.reportActivity_kept (s t : State) : Kept t (s.reportActivity t) := by
  refine .of_router _ ⟨rfl, fun _ => rfl, ?_⟩
  simp only [List.map_map]
  refine List.map_congr_left fun o _ => ?_
  simp only [Function.comp]
  split <;> rfl

theorem State.announce_kept (s : State) (r : Request) : Kept s (s.announce r) :=
  (s.request_kept r).trans (State.reportActivity_kept _ _)

theorem State.moveCalls_kept (c : ScreenId) (n : Nat) (s : State) : Kept s (State.moveCalls c n s) := by
  induction n generalizing s with
  | zero => exact .refl s
  | succ n ih =>
    unfold State.moveCalls
    split
    · exact .refl s
    · split
      · exact ((Kept.of_heldCalls s c _).trans (State.renderAndPlace_kept _ _ _)).trans (ih _)
      · exact .refl s

theorem State.moveHeld_kept (s : State) (c : ScreenId) : Kept s (s.moveHeld c) := State.moveCalls_kept c _ s

theorem State.releaseHeld_kept (s : State) (c : ScreenId) : Kept s (s.releaseHeld c) :=
  (s.moveHeld_kept c).trans (State.reportActivity_kept _ _)

theorem State.entryLeft_kept (s : State) (o : OutputId) : Kept s (s.entryLeft o) := by
  unfold State.entryLeft
  split
  · exact s.moveHeld_kept _
  · exact .refl s

theorem State.setQueue_kept (s : State) (o : OutputId) (q : AnnQueue) (h : s.ann.queues[o].fits → q.fits) :
    Kept s (s.setQueue o q) :=
  .of_ann _ (.of_queues rfl fun hf => Composer.queuesFit_set o q rfl hf (h (hf o)))

theorem State.startEntry_kept (s : State) (o : OutputId) : Kept s (s.startEntry o) := by
  unfold State.startEntry
  split
  · next h =>
    simp only [Bool.and_eq_true, Option.isNone_iff_eq_none] at h
    exact s.setQueue_kept o _ (AnnQueue.start_fits h.1)
  · exact .refl s

/-- R104, R108, R109: the end of the playing entry. -/
theorem State.endEntry_kept (s : State) (o : OutputId) : Kept s (s.endEntry o) := by
  unfold State.endEntry
  split
  · exact .refl s
  · next p hp =>
    have h1 : Kept s (s.setQueue o { s.ann.queues[o] with playing := none }) :=
      s.setQueue_kept o _ fun h => ⟨by
        have := h.1
        simp only [AnnQueue.size, Option.isSome_none] at this ⊢
        simp only [Bool.false_eq_true, if_false] at this ⊢
        omega, h.2⟩
    have h2 := Kept.of_ann (s := s.setQueue o { s.ann.queues[o] with playing := none }) _
      (Composer.release_kept _ p.items)
    exact ((h1.trans h2).trans ((State.startEntry_kept _ o).trans (State.entryLeft_kept _ o))).trans
      (State.reportActivity_kept _ _)

theorem State.stopQueue_kept (s : State) (c : ScreenId) : Kept s (s.stopQueue c) :=
  s.setQueue_kept _ _ AnnQueue.stop_fits

theorem Composer.releases_kept (a : Composer) (l : List QueueEntry) :
    ComposerKept a (l.foldl (fun a e => a.release e.items) a) := by
  induction l generalizing a with
  | nil => exact .refl a
  | cons e l ih => exact (Composer.release_kept a e.items).trans (ih _)

theorem State.withdrawFrom_kept (n : Nat) (s : State) (o : OutputId) : Kept s (State.withdrawFrom n s o) := by
  unfold State.withdrawFrom
  refine Kept.trans (s.setQueue_kept o _ fun h => ⟨?_, h.2.sublist List.filter_sublist⟩)
    (.of_ann _ (Composer.releases_kept _ _))
  have h1 := h.1
  have h2 := List.length_filter_le (fun e => !e.calls n) s.ann.queues[o].waiting
  simp only [AnnQueue.size] at h1 ⊢
  omega

/-- R109: a withdrawal of an order's calls. -/
theorem State.withdrawCalls_kept (s : State) (n : Nat) : Kept s (s.withdrawCalls n) :=
  (((Kept.foldl _ (fun s c => Kept.of_heldCalls s c _) _ s).trans (.foldl _ (State.withdrawFrom_kept n) _ _)).trans
    (.foldl _ State.entryLeft_kept _ _)).trans (State.reportActivity_kept _ _)

/-- R111: the queues emptied at a warm restart. -/
theorem State.emptyQueues_kept (s : State) : Kept s s.emptyQueues := by
  have h : Kept s (s.modAnn fun a =>
      { a with queues := Vector.replicate 5 {}, clips := a.clips.map fun c => { c with uses := 0 } }) := by
    refine .of_ann _ ⟨rfl, fun c => ?_, fun _ o => ?_⟩
    · simp only [Fin.getElem_fin, Vector.getElem_map]
    · simp only [Fin.getElem_fin, Vector.getElem_replicate]
      exact ⟨by decide, List.Pairwise.nil⟩
  exact (h.trans (.foldl _ State.moveHeld_kept _ _)).trans (State.reportActivity_kept _ _)

/-! ## Events -/

theorem State.eventRequest_kept (s : State) (e : Event) (n : Nat) : Kept s (s.eventRequest e n) := by
  unfold State.eventRequest
  split
  · exact .refl s
  · split
    · exact .refl s
    · exact s.announce_kept _

theorem State.sendNotice_kept (s : State) (e : Event) (n v : Nat) (c : Option ScreenId) :
    Kept s (s.sendNotice e n v c) := by
  unfold State.sendNotice
  split
  · have h : Kept s (s.modMgmt fun m => { m with notices := bump16 m.notices }) := { Kept.refl s with mgmt := rfl }
    exact (h.trans (State.handNormal_kept _ _)).trans (.draw _)
  · exact .refl s

/-- R110, R158: raising an event. -/
theorem State.raise_kept (s : State) (e : Event) (n v : Nat) (c : Option ScreenId) : Kept s (s.raise e n v c) :=
  (s.eventRequest_kept e n).trans (State.sendNotice_kept _ e n v c)

/-! ## Tickets -/

/-- A change of one kitchen station's work. -/
theorem Kept.of_kitchen (s : State) (k : KitchenId) (f : Kitchen → Kitchen)
    (h : ∀ v, f v = { v with state := (f v).state, sent := (f v).sent, failRun := (f v).failRun
                             backlog := (f v).backlog }) : Kept s (s.modKitchen k f) := by
  refine .of_router _ ⟨rfl, fun j => ?_, rfl⟩
  simp only [Fin.getElem_fin, Vector.getElem_set]
  split
  · next hj =>
    cases Fin.ext hj
    exact h _
  · rfl

/-- A change of one ticket. -/
theorem Kept.of_ticket (s : State) (t : TicketId) (v : Option Ticket) : Kept s (s.setTicket t v) :=
  .of_router _ ⟨rfl, fun _ => rfl, rfl⟩

theorem Kept.of_modTicket (s : State) (t : TicketId) (f : Ticket → Ticket) : Kept s (s.modTicket t f) :=
  .of_ticket s t _

/-- A change of the counters of the Order Router's traffic, of tickets or of send serials. -/
theorem Kept.of_routerCounts (s : State) (f : Router → Router)
    (h : f s.router =
      { s.router with
        tickets := (f s.router).tickets, serials := (f s.router).serials
        replyDropped := (f s.router).replyDropped, ticketFailures := (f s.router).ticketFailures
        staleOutcomes := (f s.router).staleOutcomes, boardDropped := (f s.router).boardDropped
        unansweredVoids := (f s.router).unansweredVoids }) : Kept s (s.modRouter f) := by
  refine .of_router _ ⟨?_, fun k => ?_, ?_⟩ <;> rw [h]

theorem State.returnTicket_kept (s : State) (k : KitchenId) (t : TicketId) : Kept s (s.returnTicket k t) :=
  (Kept.of_modTicket s t fun v => { v with state := .backlog, returned := true, lateTimer := none }).trans
    (.of_kitchen _ k (fun st => { st with
      sent := st.sent - 1, backlog := joinBehind s.ticketReturned t st.backlog }) fun _ => rfl)

theorem State.handTicket_kept (s : State) (t : TicketId) (v : Ticket) : Kept s (s.handTicket t v).1 :=
  (Kept.of_routerCounts s (fun r => { r with serials := r.serials.set t (r.serials[t] + 1) }) rfl).trans
    (State.handNormal_kept _ _)

theorem Kept.of_handTicket {s : State} {t : TicketId} {v : Ticket} {r : State × HandOver}
    (h : s.handTicket t v = r) : Kept s r.1 := h ▸ s.handTicket_kept t v

/-- R140: a failed send and its resends. -/
theorem State.ticketFailed_kept (t : TicketId) (n : Nat) (s : State) : Kept s (State.ticketFailed t n s) := by
  induction n generalizing s with
  | zero => exact .refl s
  | succ n ih =>
    unfold State.ticketFailed
    split
    · exact .refl s
    · next v hv =>
      have hc : Kept s ((s.modRouter fun r => { r with ticketFailures := bump16 r.ticketFailures }).modKitchen v.kitchen
          fun st => { st with failRun := bump8 st.failRun }) :=
        (Kept.of_routerCounts s (fun r => { r with ticketFailures := bump16 r.ticketFailures }) rfl).trans
          (.of_kitchen _ _ _ fun _ => rfl)
      simp only
      split
      · have ht := hc.trans (Kept.of_modTicket _ t fun v => { v with attempts := v.attempts + 1 })
        split
        · split
          · next sent hs => exact ht.trans (Kept.of_handTicket hs)
          · next sent hs => exact (ht.trans (Kept.of_handTicket hs)).trans (ih _)
        · exact ((ht.trans (State.returnTicket_kept _ _ t)).trans
            (.of_kitchen _ _ (fun st => { st with state := .absent }) fun _ => rfl)).trans (State.raise_kept _ _ _ _ _)
      · exact hc.trans (State.returnTicket_kept _ _ t)

theorem State.ticketOutcome_kept (s : State) (t : TicketId) (n : Byte) (d : Bool) : Kept s (s.ticketOutcome t n d) := by
  unfold State.ticketOutcome
  split
  · split
    · split
      · exact .of_kitchen _ _ _ fun _ => rfl
      · exact .refl s
    · exact State.ticketFailed_kept t 3 s
  · exact .of_routerCounts s (fun r => { r with staleOutcomes := bump16 r.staleOutcomes }) rfl

theorem State.sendHead_kept (s : State) (k : KitchenId) (t : TicketId) (rest : List TicketId) :
    Kept s (s.sendHead k t rest) := by
  unfold State.sendHead
  split
  · exact .of_kitchen _ _ _ fun _ => rfl
  · next v hv =>
    have h := fun w : Ticket => (Kept.of_ticket s t (some w)).trans
      (.of_kitchen _ k (fun st => { st with backlog := rest, sent := st.sent + 1 }) fun _ => rfl)
    simp only
    split
    · next sent hs => exact (h _).trans (Kept.of_handTicket hs)
    · next sent hs => exact ((h _).trans (Kept.of_handTicket hs)).trans (State.ticketFailed_kept t 3 _)

theorem State.dispatchUpTo_kept (k : KitchenId) (n : Nat) (s : State) : Kept s (State.dispatchUpTo k n s) := by
  induction n generalizing s with
  | zero => exact .refl s
  | succ n ih =>
    unfold State.dispatchUpTo
    split
    · exact .refl s
    · split
      · exact (s.sendHead_kept k _ _).trans (ih _)
      · exact .refl s

/-- R138: dispatch for a station. -/
theorem State.dispatch_kept (s : State) (k : KitchenId) : Kept s (s.dispatch k) := State.dispatchUpTo_kept k _ s

/-- R41: a block told of the removal of its cell. -/
theorem State.toldRemoved_kept (s : State) (o : OwnCell) : Kept s (s.toldRemoved o) := by
  unfold State.toldRemoved
  split
  · exact s.ticketOutcome_kept _ _ _
  · exact .of_routerCounts s (fun r => { r with unansweredVoids := bump16 r.unansweredVoids }) rfl
  · exact .of_routerCounts s (fun r => { r with replyDropped := bump16 r.replyDropped }) rfl
  · exact .of_routerCounts s (fun r => { r with boardDropped := bump16 r.boardDropped }) rfl
  · exact .refl s

/-- R40, R41: an URGENT cell handed over. -/
theorem State.handUrgent_kept (s : State) (o : OwnCell) : Kept s (s.handUrgent o).1 := by
  have h := Kept.of_cell (s := s) _ (CellProcessor.handOver_kept s.cell o)
  unfold State.handUrgent
  simp only
  split
  · exact h.trans (State.toldRemoved_kept _ _)
  · exact h

/-- R40: an URGENT cell handed over to a queue with room. -/
theorem State.handUrgent_room {s : State} {o : OwnCell} (h : s.cell.queued < 16) (hu : o.kind.isUrgent = true) :
    s.handUrgent o = ({ s with cell := { s.cell with urgent := s.cell.urgent ++ [o] } }, .queued) := by
  simp [State.handUrgent, CellProcessor.handOver_room h hu]

/-- R40: a NORMAL cell handed over to a queue with room. -/
theorem State.handNormal_room {s : State} {o : OwnCell} (h : s.cell.queued < 16) (hu : o.kind.isUrgent = false) :
    s.handNormal o = ({ s with cell := { s.cell with normal := s.cell.normal ++ [o] } }, .queued) := by
  simp [State.handNormal, CellProcessor.handOver_room_normal h hu]

/-- R133: a kitchen station seen. -/
theorem State.kitchenSeen_kept (s : State) (n : Nat) : Kept s (s.kitchenSeen n) := by
  unfold State.kitchenSeen
  split
  · exact .refl s
  · split
    · exact .refl s
    · exact (Kept.of_kitchen s _ (fun st => { st with state := .present }) fun _ => rfl).trans (State.dispatch_kept _ _)

theorem State.projUnanswered_kept (s : State) (c : ScreenId) : Kept s (s.projUnanswered c) := s.raise_kept _ _ _ _

end Sys2Proof.Machine
end

