-- ==== Sys2Proof/Laws/Responder.lean ====
section
/-! SUPPORT. What the taking of a cell does: a sender the part knows as no lane and no kitchen station changes nothing by
being seen, and a management cell taken with room in the queue is counted, judged, acted on and answered. -/

namespace Sys2Proof.Machine

/-- The lanes and kitchens of a sender it is no station of see nothing. -/
theorem State.cellSeen_stranger {s : State} {source : Byte} (h : s.stranger source) : s.cellSeen source = s := by
  have hl : s.laneOf source.toNat = none := by
    simp only [State.laneOf, List.find?_eq_none]
    intro l _
    simpa using fun _ => h.noLane l
  have hk : s.kitchenOf source.toNat = none := by
    simp only [State.kitchenOf, List.find?_eq_none]
    intro k _
    simpa using fun _ => h.noKitchen k
  simp [State.cellSeen, State.laneSeen, hl, State.kitchenSeen, hk]

/-- The lane of a sender is found by its station. -/
theorem State.laneOf_fromLane {s : State} {source : Byte} {l : LaneId} (h : s.fromLane source l) :
    s.laneOf source.toNat = some l := by
  have hne : source.toNat ≠ 0 := fun h0 => h.used (BitVec.eq_of_toNat_eq (by simpa using h0))
  have key : ∀ j : LaneId,
      (decide (s.gate.lanes[j].station ≠ 0) && decide (s.gate.lanes[j].station = source.toNat)) = decide (j = l) := by
    intro j
    by_cases hj : j = l
    · subst hj
      simpa using ⟨h.lane ▸ hne, h.lane⟩
    · simpa [hj] using fun _ => h.only j hj
  simp only [State.laneOf, key, allLanes]
  clear key h
  revert l
  decide

/-- A cell of a lane's station makes the lane ACTIVE and loads its silence timer, and does no more (R115). -/
theorem State.cellSeen_lane {s : State} {source : Byte} {l : LaneId} (h : s.fromLane source l) :
    s.cellSeen source = s.modLane l Lane.heard := by
  have hk : (s.modLane l Lane.heard).kitchenOf source.toNat = none := by
    simp only [State.kitchenOf, List.find?_eq_none]
    intro k _
    have := h.noKitchen k
    simp at this
    simp [this]
  have hs : s.laneSeen source.toNat = s.modLane l Lane.heard := by
    simp only [State.laneSeen, State.laneOf_fromLane h]
    rfl
  rw [State.cellSeen, hs]
  simp [State.kitchenSeen, hk]

/-- The kitchen station of a sender is found by its loop station. -/
theorem State.kitchenOf_fromKitchen {s : State} {source : Byte} {k : KitchenId} (h : s.fromKitchen source k) :
    s.kitchenOf source.toNat = some k := by
  have hne : source.toNat ≠ 0 := fun h0 => h.used (BitVec.eq_of_toNat_eq (by simpa using h0))
  have key : ∀ j : KitchenId,
      (decide (s.router.kitchens[j].loopStation ≠ 0) && decide (s.router.kitchens[j].loopStation = source.toNat))
        = decide (j = k) := by
    intro j
    by_cases hj : j = k
    · subst hj
      simpa using ⟨h.kitchen ▸ hne, h.kitchen⟩
    · simpa [hj] using fun _ => h.only j hj
  simp only [State.kitchenOf, key, allKitchens]
  clear key h
  revert k
  decide

/-- A cell of a kitchen station makes it PRESENT, and tries its dispatch when it was not (R133). -/
theorem State.cellSeen_kitchen {s : State} {source : Byte} {k : KitchenId} (h : s.fromKitchen source k) :
    s.cellSeen source =
      if s.router.kitchens[k].state = .present then s
      else (s.modKitchen k fun st => { st with state := .present }).dispatch k := by
  have hl : s.laneOf source.toNat = none := by
    simp only [State.laneOf, List.find?_eq_none]
    intro l _
    simpa using fun _ => h.noLane l
  have hs : s.laneSeen source.toNat = s := by simp [State.laneSeen, hl]
  rw [State.cellSeen, hs, State.kitchenSeen, State.kitchenOf_fromKitchen h]

/-- A MGMT_REPLY handed over to a queue with room stands at the back of the URGENT class (R40, R155). -/
theorem State.reply_room {s : State} {m : Sender} {e : Echo} {r : ReadOut} {ends : Bool} (h : r.state.cell.queued < 16) :
    s.reply m e r ends =
      ({ r.state with
          freeCount := r.state.freeCount + 1
          mgmt := r.state.mgmt.countAnswer r.code
          cell :=
            { r.state.cell with
              urgent := r.state.cell.urgent ++ [replyCell s.freeCount m e r.code r.data ends] } }, .queued) := by
  have hc : (r.state.modMgmt fun m => m.countAnswer r.code).cell.queued < 16 := h
  simp only [State.reply]
  rw [State.handUrgent_room hc rfl]
  rfl

/-- The console's cell is judged by its checks alone while no restart waits (R154). -/
theorem State.refuses_console {s : State} {m : Sender} (hc : m.source.toNat = s.mgmt.site.console)
    (hr : s.mgmt.restart = false) (check : Option Reply) : s.refuses m check = check := by
  simp [State.refuses, hc, hr]

/-- A cell of another station is NOT_CONSOLE (R154). -/
theorem State.refuses_other {s : State} {m : Sender} (hc : m.source.toNat ≠ s.mgmt.site.console) (check : Option Reply) :
    s.refuses m check = some .notConsole := by
  simp [State.refuses, hc]

/-- While a restart waits the console's cell is BUSY (R154, R161). -/
theorem State.refuses_busy {s : State} {m : Sender} (hc : m.source.toNat = s.mgmt.site.console)
    (hr : s.mgmt.restart = true) (check : Option Reply) : s.refuses m check = some .busy := by
  simp [State.refuses, hc, hr]

/-- A management cell that passes its checks: its owner acts on the counted state, and the reply is queued. -/
theorem State.takeMgmt_passes {s : State} {n : Nat} {m : Sender} {e : Echo} {owner : State → ReadOut} {r : ReadOut}
    (h : s.readyFor n m) (ho : owner (s.modMgmt fun m => { m with taken := bump16 m.taken }) = r)
    (hq : r.state.cell.queued < 16) :
    s.takeMgmt m e none owner =
      { r.state with
        freeCount := r.state.freeCount + 1
        mgmt := r.state.mgmt.countAnswer r.code
        cell :=
          { r.state.cell with
            urgent := r.state.cell.urgent ++ [replyCell s.freeCount m e r.code r.data false] } } := by
  have hf := State.refuses_console (s := s.modMgmt fun m => { m with taken := bump16 m.taken })
    (m := m) h.console h.noRestart none
  simp only [State.takeMgmt, hf, ho]
  rw [State.reply_room hq]
  rfl

/-- A management cell that a check refuses: nothing is changed but the counts, and the reply is queued. -/
theorem State.takeMgmt_refused {s : State} {m : Sender} {e : Echo} {check : Option Reply} {code : Reply}
    {owner : State → ReadOut}
    (hf : (s.modMgmt fun m => { m with taken := bump16 m.taken }).refuses m check = some code)
    (hq : s.cell.queued < 16) :
    s.takeMgmt m e check owner =
      { s with
        freeCount := s.freeCount + 1
        mgmt := ({ s.mgmt with taken := bump16 s.mgmt.taken } : Management).countAnswer code
        cell := { s.cell with urgent := s.cell.urgent ++ [replyCell s.freeCount m e code [] false] } } := by
  have hr := State.reply_room (m := m) (e := e) (ends := false)
    (r := .refused (s.modMgmt fun m => { m with taken := bump16 m.taken }) code)
    (s := s.modMgmt fun m => { m with taken := bump16 m.taken }) hq
  simp only [State.takeMgmt, hf]
  exact congrArg Prod.fst hr

end Sys2Proof.Machine
end

