-- ==== Sys2Proof/Tests/Slice0.lean ====
section
/-! SUPPORT. The model's own tests: the checks of WellFormed, worked examples of the manual, a few single steps, and for every
statement with hypotheses a state and operands that meet them. -/

-- One test at a time: in parallel each takes a thread with a stack of its own.
set_option Elab.async false

namespace Sys2Proof.Tests

open Sys2Proof.Machine

/-! ## WellFormed -/

theorem test_wellFormed_head :
    (Instr.cellHeaderArrives (List.replicate 7 (some 0))).wellFormed = false ∧
      (Instr.cellHeaderArrives (List.replicate 64 (some 0))).wellFormed = false ∧
      (Instr.cellHeaderArrives (List.replicate 8 none)).wellFormed = true := by decide

theorem test_wellFormed_rest :
    (Instr.cellTailArrives []).wellFormed = false ∧
      (Instr.cellTailArrives (List.replicate 57 (some 0))).wellFormed = false ∧
      (Instr.cellTailArrives (List.replicate 56 (some 0))).wellFormed = true := by decide

theorem test_wellFormed_entry :
    (Instr.mgmtWrite ⟨1, 0⟩ 7 0 (List.replicate 48 0)).wellFormed = false ∧
      (Instr.mgmtWrite ⟨1, 0⟩ 7 0 (List.replicate 47 0)).wellFormed = true := by decide

theorem test_wellFormed_source :
    (Instr.siteWrite ⟨0, 0⟩ 0 []).wellFormed = false ∧ (Instr.go ⟨121, 0⟩ 1).wellFormed = false ∧
      (Instr.laneBeat 0).wellFormed = false ∧ (Instr.go ⟨120, 0⟩ 1).wellFormed = true := by decide

theorem test_wellFormed_run :
    (Instr.clipData ⟨1, 0⟩ 0 0 (List.replicate 24 0)).wellFormed = false ∧
      (Instr.clipData ⟨1, 0⟩ 0 0 (List.replicate 23 0)).wellFormed = true := by decide

theorem test_wellFormed_lines :
    (Instr.orderPlace ⟨60, 0⟩ 0 (List.replicate 25 (0, 1))).wellFormed = false ∧
      (Instr.orderPlace ⟨60, 0⟩ 0 (List.replicate 24 (0, 1))).wellFormed = true := by decide

theorem test_wellFormed_number :
    (Instr.recallExpiry 0).wellFormed = false ∧ (Instr.recallExpiry 1000).wellFormed = false ∧
      (Instr.lateTimerExpiry 999 0).wellFormed = true := by decide

/-! ## Words -/

/-- No row of the table gives bits: no word spells a command, and none is put into the queue. -/
theorem test_no_word (nbits w : Nat) :
    decodeTableWord nbits w = none ∧ State.reset.withFetchWord nbits w = State.reset := ⟨rfl, rfl⟩

/-! ## Worked examples of the manual -/

/-- R25: the check value of the nine bytes "123456789" under the polynomial, preset and inversion that R25 gives. -/
theorem test_checkWord :
    checkWord [0x31, 0x32, 0x33, 0x34, 0x35, 0x36, 0x37, 0x38, 0x39] = 0xCBF43926 := by decide +kernel

/-- 06, the table behind 6.2.1: 1,157 spoken from base 30. -/
theorem test_number_1157 : numberClips 30 1157 = [31, 58, 53, 37] := by decide +kernel

/-- 05, the worked mix: the programme and the announcement terms. -/
theorem test_mix_terms : programmeTerm 6000000 4096 512 = 750000 ∧ announceTerm 30000 4096 = 7680000 := by
  decide +kernel

/-! ## Single steps -/

/-- The console of the reset site, and the tag of its cell. -/
def console : Sender := ⟨1, 5⟩

/-- The state a step leaves. -/
def after (s : State) (c : Instr) : State :=
  match step { s with pending := [c] } with
  | .next t => t
  | .fault _ | .refused _ => s

/-- R15, R16: two IDLEs do not raise a HAILING port; a HAIL and an IDLE do. -/
theorem test_bring_up :
    (after (after State.reset (.idleReceived .a)) (.idleReceived .a)).loop.portA.state = .hailing ∧
      (after (after State.reset (.hailReceived .a)) (.idleReceived .a)).loop.portA.state = .up := by decide +kernel

/-- R128, R155: SET_COUNT of a screen, and its DONE reply. -/
theorem test_set_count :
    (after State.reset (.setCount console 2 300 9)).screens[(1 : ScreenId)].field.occupancy = 300 ∧
      (after State.reset (.setCount console 2 300 9)).cell.urgent.map (fun o => o.payload.take 2) = [[0, 20]] := by
  decide +kernel

/-- R154: a command of another station changes nothing but is counted and answered NOT_CONSOLE (6). -/
theorem test_not_console :
    (after State.reset (.setCount ⟨2, 5⟩ 2 300 9)).screens[(1 : ScreenId)].field.occupancy = 0 ∧
      (after State.reset (.setCount ⟨2, 5⟩ 2 300 9)).mgmt.notConsole = 1 ∧
      (after State.reset (.setCount ⟨2, 5⟩ 2 300 9)).cell.urgent.map (fun o => o.payload.take 2) = [[6, 20]] := by
  decide +kernel

/-- R12: the tick behind the last of a minute. -/
theorem test_minute_wraps :
    (match step { State.reset with time := ⟨9, 99, 59⟩ } with
     | .next t => t.time
     | .fault _ | .refused _ => ⟨1, 1, 1⟩) = ⟨0, 0, 0⟩ := by decide +kernel

/-! ## The witnesses' states -/

/-- A cue that waits for a GO and sets a level. -/
def goCue : CueEntry := { trigger := .go, action := .level, args := #v[10, 2, 0, 0, 0, 0] }

/-- A cue at a place of the pool. -/
def withCue (s : State) (i : Fin 256) (e : CueEntry) : State := s.modSeqr fun q => { q with cues := q.cues.set i e }

/-- A screen with a projector, a panel, a field of ten places and a show. -/
def withShow (s : State) (c : ScreenId) (occupancy : Nat) (state : SeqState) (shown : ShowState) : State :=
  s.modScreen c fun v =>
    { v with
      config :=
        { enabled := true, projector := 21, panel := 31, holdOnFailure := true, capacity := 10, reserved := 1
          tallQuota := 2, high := 8, low := 5, callPolicy := .holdInFeature }
      field := { v.field with occupancy := occupancy, tall := 1, admission := .opened }
      ordering := .opened
      seq :=
        { shown := shown, state := state, holdReason := if state = .held then some .operator else none
          segBase := 16 * c.val, segLimit := 8, cueIndex := 2, clock := 500 } }

/-- Screen 1 shows its feature, screen 2 is held in its preshow, screens 3 and 4 are idle; clip 4 is ready and phrase 0
plays it; every event sends a notice. -/
def site : State :=
  let s := withShow (withShow State.reset 0 4 .running .feature) 1 9 .held .preshow
  let t := s.modSeqr fun q => { q with cues := Vector.replicate 256 goCue }
  t.modAnn fun a =>
    { a with
      events := Vector.replicate 16 { notice := true }, phrases := a.phrases.set 0 [.clip 4]
      clips := a.clips.set 4 { start := 10, length := 5, state := .ready, uses := 2 } }

/-- A state with other loop ports. -/
def withPorts (s : State) (a b : Port) : State := { s with loop := { s.loop with portA := a, portB := b } }

/-- A port that is UP. -/
def upPort : Port := { state := .up }

/-- The site with both ports UP. -/
def linked : State := withPorts site upPort upPort

/-- A state with its outgoing link in another use. -/
def withSending (s : State) (x : Sending) : State := s.modCell fun c => { c with sending := x }

/-- A queued reply, NOTICE and TX_CMD. -/
def aReply : OwnCell := { kind := .mgmtReply, dest := 1, payload := [0], echo := some 7 }
def aNotice : OwnCell := { kind := .notice, dest := 1, payload := [] }
def aTxCmd : OwnCell := { kind := .txCmd, dest := 40, payload := [1], ref := .output 1 }

/-- The 64 bytes of a cell. -/
def cellBytes (dest source kind hops : Byte) (tag : Half) (payload : List Byte) (mark acceptor : Byte) : List Byte :=
  sealBytes ([dest, source, kind, hops] ++ le16 tag.toNat ++ le8 payload.length ++ [0] ++ padTo 50 payload ++
    [mark, acceptor]) false

/-! ## What a witness shows of a state -/

theorem ready {s : State} {n : Nat} {m : Sender}
    (h : m.source.toNat = s.mgmt.site.console ∧ s.mgmt.restart = false ∧
      (∀ l : LaneId, s.gate.lanes[l].station ≠ m.source.toNat) ∧
      (∀ k : KitchenId, s.router.kitchens[k].loopStation ≠ m.source.toNat) ∧
      s.cell.urgent.length + s.cell.normal.length + n ≤ 16) : s.readyFor n m :=
  ⟨h.1, h.2.1, ⟨h.2.2.1, h.2.2.2.1⟩, h.2.2.2.2⟩

theorem strange {s : State} {source : Byte}
    (h : (∀ l : LaneId, s.gate.lanes[l].station ≠ source.toNat) ∧
      ∀ k : KitchenId, s.router.kitchens[k].loopStation ≠ source.toNat) : s.stranger source :=
  ⟨h.1, h.2⟩

theorem room {s : State} {n : Nat} (h : s.cell.urgent.length + s.cell.normal.length + n ≤ 16) : s.hasRoom n := h

theorem waits {s : State} {c : ScreenId}
    (h : (s.currentCue c).trigger = .go ∧ s.screens[c].seq.goPending = false) : s.waitsForGo c := ⟨h.1, h.2⟩

theorem free {s : State} {c : ScreenId}
    (h : s.screens[c].seq.state = .running ∧ s.screens[c].seq.resting = false ∧
      s.screens[c].seq.rehearsal = false) : s.runsFreely c := ⟨h.1, h.2.1, h.2.2⟩

theorem lane {s : State} {source : Byte} {l : LaneId}
    (h : source ≠ 0 ∧ s.gate.lanes[l].station = source.toNat ∧
      (∀ j, j ≠ l → s.gate.lanes[j].station ≠ source.toNat) ∧
      ∀ k : KitchenId, s.router.kitchens[k].loopStation ≠ source.toNat) : s.fromLane source l :=
  ⟨h.1, h.2.1, h.2.2.1, h.2.2.2⟩

theorem kitchen {s : State} {source : Byte} {k : KitchenId}
    (h : source ≠ 0 ∧ s.router.kitchens[k].loopStation = source.toNat ∧
      (∀ j, j ≠ k → s.router.kitchens[j].loopStation ≠ source.toNat) ∧
      ∀ l : LaneId, s.gate.lanes[l].station ≠ source.toNat) : s.fromKitchen source k :=
  ⟨h.1, h.2.1, h.2.2.1, h.2.2.2⟩

theorem stored {s : State}
    (h : Memory.wf 0 s.ann.memory ∧ ∀ c : ScreenId, Memory.wf zeroFrame s.sound.lines[c].frames) : s.storesFit := h

theorem tracked {c : CellProcessor}
    (h : c.tracker.length ≤ 32 ∧ c.tracker.Pairwise fun e f => e.tag ≠ f.tag) : c.trackerFits := h

theorem sends {s : State} {k : KitchenId} {x : TicketId} {v : Ticket} (rest : List TicketId)
    (h : s.router.kitchens[k].state = .present ∧ s.router.kitchens[k].sent < s.router.kitchens[k].limit ∧
      s.router.kitchens[k].backlog = x :: rest ∧
      (rest = [] ∨ s.router.kitchens[k].limit ≤ s.router.kitchens[k].sent + 1) ∧
      s.router.tickets[x] = some v ∧ v.kitchen = k) : s.sendsOne k x v :=
  ⟨h.1, h.2.1, ⟨rest, h.2.2.1, h.2.2.2.1⟩, h.2.2.2.2.1, h.2.2.2.2.2⟩

/-! ## Witnesses: running, ports and cells -/

theorem test_witness_StepRunsFrontCommand :
    ({ site with pending := [.portBTurn, .showClockTick] } : State).pending = .portBTurn :: [.showClockTick] := rfl

theorem test_witness_EmptyQueueTicks :
    let s : State := { site with time := ⟨9, 99, 59⟩ }
    s.pending = [] ∧ s.time.ms ≤ 9 ∧ s.time.tens ≤ 99 ∧ s.time.secs ≤ 59 := by decide +kernel

theorem test_witness_MaintenanceSymbols :
    let s := withPorts site { state := .down } upPort
    ((s.port .a).held = false ∧ (s.port .a).quiet = none ∧ s.loop.arriving = none) ∧
      (s.port .b).held = false ∧ (s.port .b).quiet = none := by decide +kernel

theorem test_witness_DeafPortsStayAsTheyAre :
    let s := withPorts site { state := .up, held := true } { state := .down, quiet := some 1 }
    (s.port .a).held = true ∧ (s.port .b).quiet.isSome ∧ (s.port .b).state = .down := by decide +kernel

theorem test_witness_HailCutsPortB :
    let s := withSending linked (.own [1])
    let t := withSending linked (.passing true)
    let u := withSending linked (.passed [1] false)
    (s.loop.portB.held = false ∧ s.loop.portB.quiet = none ∧ s.loop.portB.state = .up) ∧
      (t.loop.portB.held = false ∧ t.loop.portB.quiet = none ∧ t.loop.portB.state = .up) ∧
      (u.loop.portB.held = false ∧ u.loop.portB.quiet = none ∧ u.loop.portB.state = .up) ∧
      linked.loop.portB.held = false ∧ linked.loop.portB.quiet = none ∧ linked.loop.portB.state = .up ∧
      linked.cell.sending = .idle := by decide +kernel

theorem test_witness_LossOfSignalRaisesLinkDown :
    ((linked.port .b).held = false ∧ (linked.port .b).state ≠ .down ∧ linked.loop.arriving = none ∧
      linked.cell.sending = .idle ∧ linked.ann.events[(15 : Fin 16)].phrase = none ∧
      linked.ann.events[(15 : Fin 16)].notice = true) ∧ linked.hasRoom 1 :=
  ⟨by decide +kernel, room (by decide +kernel)⟩

theorem test_witness_LineErrors :
    let s := withPorts site { state := .down } { state := .up, window := 15 }
    let t := withPorts site { state := .up, window := 14 } { state := .up, window := 14 }
    (s.loop.portB.held = false ∧ s.loop.portB.quiet = none ∧ s.loop.portB.state ≠ .down ∧ s.loop.errorRunB = false ∧
      s.loop.portB.window < 255 ∧ ¬ s.loop.portB.window + 1 < s.mgmt.site.errorLimit) ∧
      (t.loop.portB.held = false ∧ t.loop.portB.quiet = none ∧ t.loop.portB.state ≠ .down ∧
        t.loop.errorRunB = false ∧ t.loop.portB.window < 255 ∧ t.loop.portB.window + 1 < t.mgmt.site.errorLimit) ∧
      (s.loop.portA.held = false ∧ s.loop.portA.quiet = none ∧ s.loop.arriving = none ∧ s.loop.portA.state = .down) ∧
      t.loop.portA.held = false ∧ t.loop.portA.quiet = none ∧ t.loop.arriving = none ∧ t.loop.portA.state ≠ .down ∧
      t.loop.gapError = false ∧ t.loop.portA.window + 1 < t.mgmt.site.errorLimit ∧ t.loop.portA.window < 255 := by
  decide +kernel

theorem test_witness_LineErrors_quiet :
    ((withPorts site { state := .down, quiet := some 1 } upPort).port .a).quiet.isSome := by decide +kernel

/-- A tap that drops TX_STATUS cells, and behind it one that copies what is for station 66 from 7 or 8. -/
def dropTap : TapEntry := { valid := true, kind := 0x51, kindAny := false, action := .drop }
def copyTap : TapEntry :=
  { valid := true, sourceLow := 7, sourceHigh := 8, dest := 66, destAny := false, action := .copy }

def tapped : State := linked.modCell fun c => { c with taps := (c.taps.set 3 dropTap).set 5 copyTap }

theorem test_witness_HeaderJudged :
    (tapped.loop.portA.held = false ∧ tapped.loop.portA.quiet = none ∧ tapped.loop.portA.state = .up ∧
      tapped.loop.arriving = none ∧ tapped.cell.buffer.length ≤ 1) ∧
      tapped.station.zeroExtend 8 = (9 : Byte) ∧
      (∀ head ∈ [[66, 9, 0x42, 3, 0, 0, 0, 0], [66, 7, 0x42, 63, 0, 0, 0, 0], [66, 8, 0x42, 62, 0, 0, 0, 0],
          [66, 7, 0x51, 0, 0, 0, 0, 0], ([67, 7, 0x42, 0, 0, 0, 0, 0] : List Byte)],
        8 ≤ head.length ∧ head.length ≤ 63) ∧
      (withPorts site { state := .answering } upPort).loop.portA.state ≠ .up := by decide +kernel

theorem test_witness_HeaderJudged_taps :
    tapped.cell.taps[(3 : Fin 32)].selects 66 7 0x51 ∧ tapped.cell.taps[(5 : Fin 32)].selects 66 8 0x42 ∧
      ∀ j : Fin 32, ¬ tapped.cell.taps[j].selects 67 7 0x42 := by
  refine ⟨⟨by decide +kernel, by decide +kernel, by decide +kernel, by decide +kernel⟩,
    ⟨by decide +kernel, by decide +kernel, by decide +kernel, by decide +kernel⟩, fun j h => ?_⟩
  have none : ∀ j : Fin 32, ¬ (tapped.cell.taps[j].valid = true ∧
      (tapped.cell.taps[j].kindAny = true ∨ tapped.cell.taps[j].kind = (0x42 : Byte).toNat) ∧
      (tapped.cell.taps[j].destAny = true ∨ tapped.cell.taps[j].dest = (67 : Byte).toNat)) := by decide +kernel
  exact none j ⟨h.valid, h.kind, h.dest⟩

/-- A cell from station 7 to station 66, whole. -/
def passing : List Byte := cellBytes 66 7 0x42 62 9 [1] 0 0

theorem test_witness_PassingCellForwarded :
    let head := passing.take 8
    let rest := passing.drop 8
    linked.loop.portA.held = false ∧ linked.loop.portA.quiet = none ∧ linked.loop.portA.state = .up ∧
      linked.loop.arriving = none ∧ linked.loop.portB.state = .up ∧ linked.cell.sending = .idle ∧
      linked.cell.buffer = [] ∧ (∀ i : Fin 32, linked.cell.taps[i].valid = false) ∧ 8 ≤ head.length ∧ rest ≠ [] ∧
      head.length + rest.length = 64 ∧ head.getD 1 0 ≠ linked.station.zeroExtend 8 ∧ (head.getD 3 0).toNat < 63 ∧
      head.getD 0 0 ≠ linked.station.zeroExtend 8 ∧ head.getD 0 0 ≠ 0 ∧
      linked.loop.portA.window + 1 < linked.mgmt.site.errorLimit ∧ linked.loop.portA.window < 255 ∧
      checkField (head ++ rest) = checkWord ((head ++ rest).take 60) ∧
      checkField ((head ++ rest).set 60 1) ≠ checkWord ((head ++ rest).take 60) ∧
      checkField ((head ++ rest).set 60 1) ≠ checkWord ((head ++ rest).take 60) ^^^ 0xFFFFFFFF := by decide +kernel

/-- A STATION_BEAT of station 40 for the part. -/
def beat : List Byte := cellBytes 9 40 0x35 3 9 [] 0 0

theorem test_witness_TakenCellMarked :
    let v : Arriving := { bytes := beat.take 10, verdict := some .passed, place := .leaving }
    let s : State := { withSending linked (.passing false) with loop := { linked.loop with arriving := some v } }
    let rest := beat.drop 10
    (s.loop.portA.held = false ∧ s.loop.portA.quiet = none ∧ s.loop.arriving = some v ∧ v.discard = false ∧
      v.symbolError = false ∧ v.verdict = some .passed ∧ v.place = .leaving ∧ s.cell.sending = .passing false ∧
      8 ≤ v.bytes.length ∧ rest ≠ [] ∧ v.bytes.length + rest.length = 64 ∧ beat.getD 0 0 = s.station.zeroExtend 8 ∧
      beat.getD 2 0 = 0x35 ∧ 1 ≤ (beat.getD 1 0).toNat ∧ (beat.getD 1 0).toNat ≤ 120 ∧ beat.getD 6 0 = 0 ∧
      checkField beat = checkWord (beat.take 60)) ∧ s.stranger (beat.getD 1 0) :=
  ⟨by decide +kernel, strange (by decide +kernel)⟩

/-- A TX_CMD of the part's own that comes back marked by station 41. -/
def returned : List Byte := cellBytes 41 9 0x50 3 77 [2] 1 41

/-- Its tracker entry, and one of a TICKET_VOID. -/
def txEntry : TrackEntry := ⟨77, .txCmd, 40, .soundPath, .output 2, 50⟩
def voidEntry : TrackEntry := ⟨5, .ticketVoid, 44, .orderRouter, .voided 3, 1⟩

/-- The site with both cells on the loop. -/
def tracking : State := linked.modCell fun c => { c with tracker := [voidEntry, txEntry] }

theorem test_witness_ReturnsSettle :
    let v : Arriving := { bytes := returned.take 8, verdict := some .stripped }
    let s : State := { tracking with loop := { linked.loop with arriving := some v } }
    let rest := returned.drop 8
    (s.loop.portA.held = false ∧ s.loop.portA.quiet = none ∧ s.loop.arriving = some v ∧ v.discard = false ∧
      v.symbolError = false ∧ v.verdict = some .stripped ∧ 8 ≤ v.bytes.length ∧ rest ≠ [] ∧
      v.bytes.length + rest.length = 64 ∧ checkField returned = checkWord (returned.take 60) ∧
      returned.getD 2 0 = 0x50 ∧ txEntry ∈ s.cell.tracker ∧
      txEntry.tag.toNat = twoBytes (returned.getD 4 0) (returned.getD 5 0) ∧ txEntry.kind = .txCmd ∧
      txEntry.ref = .output 2 ∧ (returned.getD 58 0).getLsbD 0 = true) ∧
      s.cell.trackerFits ∧ voidEntry ∈ s.cell.tracker ∧ voidEntry.kind = .ticketVoid :=
  ⟨by decide +kernel, tracked (by decide +kernel), by decide +kernel, rfl⟩

theorem test_witness_PortBTurns :
    let buffered := linked.modCell fun c => { c with buffer := [[1], [2]], sending := .own [] }
    let replying := linked.modCell fun c => { c with urgent := [aReply, aNotice], sending := .discardedOwn }
    (withSending linked (.passing true)).cell.sending = .passing true ∧
      ((∀ b, buffered.cell.sending ≠ .passing b) ∧ buffered.cell.buffer = [1] :: [[2]]) ∧
      ((∀ b, replying.cell.sending ≠ .passing b) ∧ replying.cell.buffer = [] ∧ replying.loop.arriving = none ∧
        replying.cell.urgent = aReply :: [aNotice] ∧ aReply.kind = .mgmtReply ∧ aReply.echo = some 7 ∧
        aReply.endsRestart = false) ∧
      (∀ b, linked.cell.sending ≠ .passing b) ∧ linked.cell.urgent = [] ∧ linked.cell.normal = [] := by decide +kernel

theorem test_witness_PortBTurns_tags :
    let s := tracking.modCell fun c => { c with urgent := [aTxCmd, aReply], tagCounter := 76 }
    let t := tracking.modCell fun c => { c with urgent := [aTxCmd, aReply], tagCounter := 77 }
    let full := t.modCell fun c => { c with tracker := List.replicate 32 txEntry }
    ((∀ b, s.cell.sending ≠ .passing b) ∧ s.cell.buffer = [] ∧ s.loop.arriving = none ∧
      s.cell.urgent = aTxCmd :: [aReply] ∧ aTxCmd.kind.tracked = some .soundPath ∧ aTxCmd.echo = none ∧
      aTxCmd.endsRestart = false ∧ s.loop.portB.state = .up ∧ s.cell.tracker.length < 32 ∧
      (76 : Half) = s.cell.tagCounter ∧ ∀ e ∈ s.cell.tracker, e.tag ≠ 76) ∧
      ((78 : Half) = t.cell.tagCounter + 1 ∧ (∃ e ∈ t.cell.tracker, e.tag = t.cell.tagCounter) ∧
        ∀ e ∈ t.cell.tracker, e.tag ≠ 78) ∧
      32 ≤ full.cell.tracker.length ∧ aReply.kind.tracked = none ∧ aReply.echo = some 7 := by decide +kernel

theorem test_witness_OwnCellBytes : ({ aReply with payload := List.replicate 50 1 } : OwnCell).payload.length ≤ 50 := by
  decide

theorem test_witness_WarmRestartTakesEffect :
    let last : OwnCell := { aReply with endsRestart := true }
    let s := linked.modCell fun c => { c with urgent := [last, aReply], normal := [aNotice] }
    (∀ b, s.cell.sending ≠ .passing b) ∧ s.cell.buffer = [] ∧ s.loop.arriving = none ∧
      s.cell.urgent = last :: [aReply] ∧ last.kind = .mgmtReply ∧ last.endsRestart = true ∧
      ∀ c : ScreenId, s.sound.config[outputOf c].delayTarget ≤ 9599 ∧ s.sound.lines[c].write ≤ 9599 := by
  decide +kernel

/-! ## Witnesses: management cells and table writes -/

/-- A cell of station 2, which is not the console; a cell of the console while a warm restart waits. -/
theorem test_witness_NotConsoleOrBusy :
    let waiting := site.modMgmt fun m => { m with restart := true }
    (managementCell (.hold ⟨2, 9⟩ 1) = some (⟨2, 9⟩, 3) ∧ site.stranger 2 ∧ site.hasRoom 1 ∧
      (⟨2, 9⟩ : Sender).source.toNat ≠ site.mgmt.site.console) ∧
      managementCell (.clipData console 4 0 []) = some (console, 6) ∧ waiting.stranger console.source ∧
      waiting.hasRoom 1 ∧ console.source.toNat = waiting.mgmt.site.console ∧ waiting.mgmt.restart = true :=
  ⟨⟨rfl, strange (by decide +kernel), room (by decide +kernel), by decide +kernel⟩, rfl,
    strange (by decide +kernel), room (by decide +kernel), by decide +kernel, by decide +kernel⟩

/-- Fifteen replies and a NOTICE; sixteen replies. -/
theorem test_witness_ReplyAtFullQueue :
    let s := site.modCell fun c => { c with urgent := List.replicate 15 aReply, normal := [aNotice] }
    let t := site.modCell fun c => { c with urgent := List.replicate 16 aReply }
    (s.readyFor 0 console ∧ s.cell.urgent.length + s.cell.normal.length = 16 ∧ s.cell.normal = [] ++ [aNotice] ∧
      aNotice.kind = .notice) ∧
      (t.readyFor 0 console ∧ t.cell.urgent.length + t.cell.normal.length = 16 ∧ t.cell.normal = []) ∧
      1 ≤ (120 : Byte).toNat ∧ (120 : Byte).toNat ≤ 120 ∧ (63 : Byte).toNat ≤ 63 :=
  ⟨⟨ready (by decide +kernel), by decide +kernel⟩, ⟨ready (by decide +kernel), by decide +kernel⟩, by decide⟩

/-- Codes 0 and 13; a PHRASE entry of one byte too few for its count; a LANE index on either side of 1..8. -/
theorem test_witness_WritesNameATable :
    site.readyFor 1 console ∧ ((0 : Byte).toNat = 0 ∧ 12 < (13 : Byte).toNat) ∧
      ([1, 0, 4] : List Byte).length ≠ 1 + 3 * (([1, 0, 4] : List Byte).getD 0 0).toNat ∧
      ([40, 0, 1, 5, 30] : List Byte).length = 5 ∧ (0 : Half).toNat < 1 ∧ 8 < (9 : Half).toNat :=
  ⟨ready (by decide +kernel), by decide⟩

theorem test_witness_SiteWrite : site.readyFor 1 console := ready (by decide +kernel)

/-- Screen 1 runs: a write that disables it changes its show, one that keeps its fields of R5 does not. -/
theorem test_witness_ScreenWrite :
    site.readyFor 3 console ∧ ¬ (2 : Byte).toNat ≤ 1 ∧ (ClockSource.timebase.code = (0 : Byte).toNat) ∧
      CallPolicy.holdInFeature.code = (1 : Byte).toNat ∧ site.screens[(0 : ScreenId)].seq.state ≠ .idle ∧
      site.screens[(0 : ScreenId)].config.enabled ≠ decide ((0 : Byte) = 1) ∧
      (site.screens[(0 : ScreenId)].config.enabled = decide ((1 : Byte) = 1) ∧
        site.screens[(0 : ScreenId)].config.clockSource = .timebase ∧
        site.screens[(0 : ScreenId)].config.projector = (21 : Byte).toNat) ∧
      site.screens[(2 : ScreenId)].seq.state = .idle :=
  ⟨ready (by decide +kernel), by decide +kernel⟩

/-- 200 + 57 lies outside the pool, 200 + 56 does not; screen 1 runs; screen 3 is idle, and 16 + 8 meets the segment of
screen 2. -/
theorem test_witness_SegmentWrite :
    site.readyFor 1 console ∧ 256 < (200 : Byte).toNat + twoBytes 57 0 ∧ (200 : Byte).toNat + twoBytes 56 0 ≤ 256 ∧
      site.screens[(0 : ScreenId)].seq.state ≠ .idle ∧ site.screens[(2 : ScreenId)].seq.state = .idle ∧
      (∃ d : ScreenId, d ≠ 2 ∧ ∃ e < (23 : Byte).toNat + twoBytes 8 0, (23 : Byte).toNat ≤ e ∧
        site.screens[d].seq.segBase ≤ e ∧ e < site.screens[d].seq.segBase + site.screens[d].seq.segLimit) ∧
      ¬ ∃ d : ScreenId, d ≠ 2 ∧ ∃ e < (24 : Byte).toNat + twoBytes 8 0, (24 : Byte).toNat ≤ e ∧
        site.screens[d].seq.segBase ≤ e ∧ e < site.screens[d].seq.segBase + site.screens[d].seq.segLimit :=
  ⟨ready (by decide +kernel), by decide +kernel⟩

/-- Entry 2 is the current one of the show that runs on screen 1, entry 3 stands behind it; a LOOP of entry 2 may not
name entry 2. -/
theorem test_witness_CueWrite :
    let guarded (i : Fin 256) : Prop := ∃ c : ScreenId, site.screens[c].seq.state ≠ .idle ∧
      site.screens[c].seq.segBase ≤ i.val ∧ i.val < site.screens[c].seq.segBase + site.screens[c].seq.segLimit ∧
      i.val ≤ site.screens[c].seq.segBase + site.screens[c].seq.cueIndex
    site.readyFor 1 console ∧ 4 < (5 : Byte).toNat ∧ TriggerKind.dusk.code = (4 : Byte).toNat ∧
      ActionKind.loop.code = (6 : Byte).toNat ∧ ¬ (2 : Byte).toNat < (2 : Fin 256).val ∧
      (1 : Byte).toNat < (2 : Fin 256).val ∧ guarded 2 ∧ ¬ guarded 3 :=
  ⟨ready (by decide +kernel), by decide +kernel⟩

theorem test_witness_OutputWrite :
    site.readyFor 1 console ∧ 2 < (3 : Byte).toNat ∧ DarkRemap.programme.code = (2 : Byte).toNat ∧
      screenNumber (some (3 : ScreenId)) = (4 : Byte).toNat ∧ (120 : Byte).toNat ≤ 120 ∧ (7 : Byte).toNat ≤ 7 ∧
      (3 : OutputId) = outputOf 3 ∧ (4 : OutputId) = paOutput :=
  ⟨ready (by decide +kernel), by decide⟩

/-- A clip of one sample at the last address; one that would go past it; clip 4 is not empty and holds 10 to 14. -/
theorem test_witness_ClipWrite :
    site.readyFor 1 console ∧
      (threeBytes 255 255 127 ≤ 8388607 ∧ 1 ≤ threeBytes 1 0 0 ∧ threeBytes 1 0 0 ≤ 2880000 ∧
        threeBytes 255 255 127 + threeBytes 1 0 0 ≤ 8388608) ∧
      ¬ threeBytes 255 255 127 + threeBytes 2 0 0 ≤ 8388608 ∧ site.ann.clips[(4 : ClipId)].state ≠ .empty ∧
      site.ann.clips[(3 : ClipId)].state = .empty ∧
      (∃ j : ClipId, site.ann.clips[j].state ≠ .empty ∧ ∃ a < threeBytes 14 0 0 + threeBytes 1 0 0,
        threeBytes 14 0 0 ≤ a ∧ site.ann.clips[j].start ≤ a ∧
          a < site.ann.clips[j].start + site.ann.clips[j].length) ∧
      ¬ ∃ j : ClipId, site.ann.clips[j].state ≠ .empty ∧ ∃ a < threeBytes 15 0 0 + threeBytes 1 0 0,
        threeBytes 15 0 0 ≤ a ∧ site.ann.clips[j].start ≤ a ∧
          a < site.ann.clips[j].start + site.ann.clips[j].length :=
  ⟨ready (by decide +kernel), by decide +kernel⟩

/-- Eight parts with gaps of 1 and 2,000 ms that render to 16 items at most; kind 3, clip 64 and base 36. -/
theorem test_witness_PhraseAndEventWrite :
    let parts : List Part := [.number 35, .number 0, .clip 63, .gap 1, .gap 2000, .clip 0, .clip 1, .clip 2]
    site.readyFor 1 console ∧ parts.length ≤ 8 ∧ (∀ ms, Part.gap ms ∈ parts → 1 ≤ ms ∧ ms ≤ 2000) ∧
      2 < (3 : Byte).toNat ∧ 63 < twoBytes 64 0 ∧ 35 < twoBytes 36 0 ∧
      (63 < (64 : Byte).toNat ∧ (64 : Byte) ≠ 255) ∧ (63 : Byte).toNat ≤ 63 ∧ (31 : Byte).toNat ≤ 31 ∧
      (1 : Byte).toNat ≤ 1 :=
  ⟨ready (by decide +kernel), by decide, fun ms h => by simp at h; omega, by decide +kernel⟩

/-- Lanes 3, 5 and 6: an ENTRY with a pending admission, an EXIT, an ENTRY with none; kitchen station 2 with its backlog
full and station 5 without one. -/
def entryLane : Lane :=
  { station := 40, home := 1, silenceLimit := 20, silenceTimer := some 3, pending := some ⟨1, .tall, 3⟩ }
def exitLane : Lane := { station := 41, home := 1, role := .exit, silenceLimit := 9, silenceTimer := some 1 }
def freeLane : Lane := { station := 42, silenceTimer := some 1 }

def gates (s : State) : State :=
  s.modGate fun g => { g with lanes := ((g.lanes.set 2 entryLane).set 4 exitLane).set 5 freeLane }

/-- Order 12 with ticket 7, and order 13 with ticket 8. -/
def orderOf (number : Nat) (ticket : TicketId) (state : OrderState) : Order :=
  { number := number, screen := some 0, origin := 60, placeTag := 8, state := state, rush := true, late := false
    lines := [⟨3, 2⟩], tickets := [ticket], callCount := 1, recallLeft := some 1, callActive := false }

def ticketOf (order : Nat) (station : KitchenId) (state : TicketState) : Ticket :=
  { order := order, kitchen := station, lines := [⟨3, 2⟩], state := state, rush := true, returned := false
    attempts := 0, lateTimer := if state = .sent then some 1 else none }

def fullKitchen : Kitchen := { loopStation := 50, limit := 3, state := .present, sent := 3, backlog := [7] }
def freeKitchen : Kitchen := { loopStation := 51, limit := 3, state := .present, sent := 1 }

def kitchens (s : State) : State :=
  s.modRouter fun r =>
    { r with
      kitchens := (r.kitchens.set 1 fullKitchen).set 4 freeKitchen
      orders := [orderOf 12 7 .opened, orderOf 13 8 .opened]
      tickets := (r.tickets.set 7 (some (ticketOf 12 1 .backlog))).set 8 (some (ticketOf 13 4 .sent))
      menu := r.menu.set 3 { available := true, primary := 1, alternate := some 4, portions := some 5 } }

/-- The site with its lanes and its kitchen. -/
def busy : State := (kitchens (gates site)).modField 1 fun f => { f with pending := 1, tallPending := 1 }

theorem test_witness_LaneWrite :
    busy.readyFor 1 console ∧ ¬ (121 : Byte).toNat ≤ 120 ∧ ((120 : Byte).toNat ≤ 120 ∧ (1 : Byte).toNat ≤ 1 ∧
      1 ≤ (4 : Byte).toNat ∧ (4 : Byte).toNat ≤ 4) ∧
      (∃ j : LaneId, j ≠ 5 ∧ busy.gate.lanes[j].station = (41 : Byte).toNat) ∧
      (∀ j : LaneId, busy.gate.lanes[j].station ≠ (120 : Byte).toNat) ∧
      busy.gate.lanes[(2 : LaneId)].pending.isSome ∧ busy.gate.lanes[(5 : LaneId)].pending = none :=
  ⟨ready (by decide +kernel), by decide +kernel⟩

theorem test_witness_MenuAndStationWrite :
    let served := busy.modKitchen 1 fun k => { k with sent := 0 }
    busy.readyFor 1 console ∧ 8 < (9 : Byte).toNat ∧ (1 ≤ (8 : Byte).toNat ∧ (8 : Byte).toNat ≤ 8) ∧
      120 < (121 : Byte).toNat ∧ (∃ j : KitchenId, j ≠ 1 ∧ busy.router.kitchens[j].loopStation = (51 : Byte).toNat) ∧
      (∀ j : KitchenId, j ≠ 1 → busy.router.kitchens[j].loopStation ≠ (120 : Byte).toNat) ∧
      ((120 : Byte).toNat ≠ busy.router.kitchens[(1 : KitchenId)].loopStation ∧
        0 < busy.router.kitchens[(1 : KitchenId)].sent) ∧
      max 1 (min 16 (2 : Byte).toNat) < busy.router.kitchens[(1 : KitchenId)].sent ∧
      ¬ max 1 (min 16 (3 : Byte).toNat) < busy.router.kitchens[(1 : KitchenId)].sent ∧
      max 1 (min 16 (3 : Byte).toNat) ≤ busy.router.kitchens[(1 : KitchenId)].limit ∧
      busy.router.kitchens[(1 : KitchenId)].limit < max 1 (min 16 (4 : Byte).toNat) ∧
      ¬ 0 < served.router.kitchens[(1 : KitchenId)].sent :=
  ⟨ready (by decide +kernel), by decide +kernel⟩

theorem test_witness_TapWrite :
    site.readyFor 1 console ∧ 2 < (3 : Byte).toNat ∧ TapAction.drop.code = (2 : Byte).toNat ∧
      (1 ≤ (120 : Byte).toNat ∧ (120 : Byte).toNat ≤ (120 : Byte).toNat ∧ (120 : Byte).toNat ≤ 120) ∧
      120 < (121 : Byte).toNat ∧ (121 : Byte).toNat ≤ 255 :=
  ⟨ready (by decide +kernel), by decide⟩

theorem test_witness_OutputStatusRead :
    site.readyFor 1 console ∧ (0 : Half) = 0 ∧ 5 < (6 : Half).toNat ∧ (1 : Half).toNat = (0 : ScreenId).val + 1 ∧
      (4 : Half).toNat = (3 : ScreenId).val + 1 ∧ (5 : Half) = 5 :=
  ⟨ready (by decide +kernel), by decide⟩

/-! ## Witnesses: the operator's commands -/

/-- Screen 3 enabled and idle, with a segment of `limit` entries from 32 on. -/
def idleShow (limit : Nat) : State :=
  (site.modScreen 2 fun v => { v with config := { v.config with enabled := true } }).modSeq 2 fun r =>
    { r with segBase := 32, segLimit := limit }

/-- The same with a first cue that sets PRESHOW. -/
def preshow : State :=
  withCue (idleShow 2) 32 { trigger := .follow, action := .segment, args := #v[1, 0, 0, 0, 0, 0] }

theorem test_witness_StartCommand :
    let r := preshow.screens[(2 : ScreenId)].seq
    site.readyFor 2 console ∧ 4 < (5 : Byte).toNat ∧ site.screens[(2 : ScreenId)].config.enabled = false ∧
      site.screens[(0 : ScreenId)].seq.state ≠ .idle ∧
      ((idleShow 0).screens[(2 : ScreenId)].config.enabled = true ∧
        (idleShow 0).screens[(2 : ScreenId)].seq.state = .idle ∧
        (idleShow 0).screens[(2 : ScreenId)].seq.shown = .dark ∧
        (idleShow 0).screens[(2 : ScreenId)].seq.segLimit = 0) ∧
      (1 ≤ (idleShow 1).screens[(2 : ScreenId)].seq.segLimit ∧
        (idleShow 1).seqr.cues[(Fin.ofNat 256 32 : Fin 256)].trigger = .go) ∧
      2 ≤ r.segLimit ∧ r.segBase + r.segLimit ≤ 256 ∧
      preshow.seqr.cues[(Fin.ofNat 256 r.segBase : Fin 256)].trigger = .follow ∧
      preshow.seqr.cues[(Fin.ofNat 256 r.segBase : Fin 256)].action = .segment ∧
      preshow.seqr.cues[(Fin.ofNat 256 r.segBase : Fin 256)].args[0] = 1 ∧
      preshow.seqr.cues[(Fin.ofNat 256 (r.segBase + 1) : Fin 256)].trigger = .go :=
  ⟨ready (by decide +kernel), by decide +kernel⟩

theorem test_witness_StartCommand_ready :
    (idleShow 0).readyFor 2 console ∧ (idleShow 1).readyFor 2 console ∧ preshow.readyFor 2 console :=
  ⟨ready (by decide +kernel), ready (by decide +kernel), ready (by decide +kernel)⟩

/-- Screen 1 runs and waits for a GO, at its last cue in `ending`; screen 2 is held; screen 3 is idle; in `early` a CLOCK
cue is not due. -/
theorem test_witness_GoCommand :
    let ending := site.modSeq 0 fun r => { r with cueIndex := 7 }
    let early := withCue site 2 { trigger := .clock, time := 501 }
    let r := site.screens[(0 : ScreenId)].seq
    site.readyFor 2 console ∧ site.screens[(2 : ScreenId)].seq.state = .idle ∧
      (site.screens[(1 : ScreenId)].seq.state = .held ∧ site.waitsForGo 1) ∧
      (site.runsFreely 0 ∧ site.waitsForGo 0 ∧ (site.currentCue 0).action = .level ∧ r.segBase + r.segLimit ≤ 256 ∧
        r.cueIndex + 1 < r.segLimit ∧
        site.seqr.cues[(Fin.ofNat 256 (r.segBase + (r.cueIndex + 1)) : Fin 256)].trigger = .go) ∧
      (ending.readyFor 2 console ∧ ending.runsFreely 0 ∧ ending.waitsForGo 0 ∧
        (ending.currentCue 0).action = .level ∧
        ending.screens[(0 : ScreenId)].seq.cueIndex + 1 = ending.screens[(0 : ScreenId)].seq.segLimit) ∧
      early.readyFor 2 console ∧ early.screens[(0 : ScreenId)].seq.state = .running ∧
      (early.currentCue 0).trigger = .clock ∧
      early.screens[(0 : ScreenId)].seq.clock < (early.currentCue 0).time :=
  ⟨ready (by decide +kernel), by decide +kernel, ⟨by decide +kernel, waits (by decide +kernel)⟩,
    ⟨free (by decide +kernel), waits (by decide +kernel), by decide +kernel⟩,
    ⟨ready (by decide +kernel), free (by decide +kernel), waits (by decide +kernel), by decide +kernel⟩,
    ready (by decide +kernel), by decide +kernel⟩

theorem test_witness_HoldRehearseAbort :
    site.readyFor 3 console ∧ 4 < (5 : Byte).toNat ∧ 1 < (2 : Byte).toNat ∧
      site.screens[(2 : ScreenId)].seq.state = .idle ∧ site.screens[(0 : ScreenId)].seq.state ≠ .idle ∧
      site.screens[(1 : ScreenId)].seq.state ≠ .idle :=
  ⟨ready (by decide +kernel), by decide +kernel⟩

theorem test_witness_PanelKeys :
    let idle := site.modScreen 2 fun v => { v with config := { v.config with panel := 31 } }
    (site.stranger 31 ∧ site.stranger 32 ∧ idle.stranger 31) ∧ 4 < (5 : Byte).toNat ∧
      site.screens[(0 : ScreenId)].config.panel ≠ (32 : Byte).toNat ∧
      (site.screens[(0 : ScreenId)].config.panel ≠ 0 ∧
        site.screens[(0 : ScreenId)].config.panel = (31 : Byte).toNat) ∧
      site.screens[(0 : ScreenId)].seq.state = .running ∧
      (idle.screens[(2 : ScreenId)].config.panel = (31 : Byte).toNat ∧
        idle.screens[(2 : ScreenId)].seq.state = .idle) ∧
      (site.screens[(1 : ScreenId)].config.panel = (31 : Byte).toNat ∧
        site.screens[(1 : ScreenId)].seq.state = .held ∧
        site.screens[(1 : ScreenId)].seq.pausedByHold = false) ∧ site.waitsForGo 1 :=
  ⟨⟨strange (by decide +kernel), strange (by decide +kernel), strange (by decide +kernel)⟩, by decide,
    by decide +kernel, by decide +kernel, by decide +kernel, by decide +kernel, by decide +kernel,
    waits (by decide +kernel)⟩

/-- A state whose screen 1 is on the PROGRAMME clock with its input locked. -/
def onProgramme (s : State) : State :=
  s.modScreen 0 fun v =>
    { v with config := { v.config with clockSource := .programme }, sound := { v.sound with locked := true } }

theorem test_witness_ShowClocks :
    let due := onProgramme (withCue site 2 { trigger := .clock, time := 501, action := .level })
    let resting := site.modSeq 1 fun r => { r with resting := true }
    let r := due.screens[(0 : ScreenId)].seq
    (∀ c : ScreenId, site.waitsForGo c) ∧
      ¬ site.screens[(0 : ScreenId)].config.clockSource = .programme ∧
      ((onProgramme site).screens[(0 : ScreenId)].seq.state = .running ∧
        (onProgramme site).screens[(0 : ScreenId)].config.clockSource = .programme ∧
        (onProgramme site).screens[(0 : ScreenId)].sound.locked = true) ∧ (onProgramme site).waitsForGo 0 ∧
      due.runsFreely 0 ∧
      (r.state = .running ∧ due.screens[(0 : ScreenId)].config.clockSource = .programme ∧
        due.screens[(0 : ScreenId)].sound.locked = true ∧ r.clock < 16777215 ∧ (due.currentCue 0).trigger = .clock ∧
        (due.currentCue 0).time ≤ r.clock + 1 ∧ (due.currentCue 0).action = .level ∧ r.cueIndex + 1 < r.segLimit ∧
        r.goPending = false ∧
        due.seqr.cues[(Fin.ofNat 256 (r.segBase + (r.cueIndex + 1)) : Fin 256)].trigger = .go) ∧
      site.screens[(0 : ScreenId)].seq.resting = false ∧ resting.screens[(1 : ScreenId)].seq.resting = true ∧
      resting.screens[(1 : ScreenId)].seq.state ≠ .running :=
  ⟨fun c => waits (by revert c; decide +kernel), by decide +kernel, by decide +kernel, waits (by decide +kernel),
    free (by decide +kernel), by decide +kernel⟩

theorem test_witness_SkyAndProjectors :
    let dusk := withCue site 2 { trigger := .dusk, action := .level }
    let r := dusk.screens[(0 : ScreenId)].seq
    (site.stranger 21 ∧ site.stranger 22 ∧ dusk.stranger 22) ∧ (∀ c : ScreenId, site.waitsForGo c) ∧
      dusk.runsFreely 0 ∧
      ((dusk.currentCue 0).trigger = .dusk ∧ r.goPending = false ∧ (dusk.currentCue 0).action = .level ∧
        r.cueIndex + 1 < r.segLimit ∧
        dusk.seqr.cues[(Fin.ofNat 256 (r.segBase + (r.cueIndex + 1)) : Fin 256)].trigger = .go ∧
        ∀ d : ScreenId, d ≠ 0 → dusk.screens[d].seq.state ≠ .running) ∧
      ((20 : Half).toNat ≤ dusk.mgmt.site.dusk ∧ ¬ (21 : Half).toNat ≤ dusk.mgmt.site.dusk) ∧
      (∀ c : ScreenId, site.screens[c].config.projector ≠ (22 : Byte).toNat) ∧
      (ProjState.fault ≠ .unknown ∧ ProjState.fault.code = (4 : Byte).toNat) ∧
      site.screens[(0 : ScreenId)].config.projector = (21 : Byte).toNat :=
  ⟨⟨strange (by decide +kernel), strange (by decide +kernel), strange (by decide +kernel)⟩,
    fun c => waits (by revert c; decide +kernel), free (by decide +kernel), by decide +kernel⟩

/-! ## Witnesses: announcements -/

theorem test_witness_ClipSealAndDelete :
    site.readyFor 1 console ∧ 63 < (64 : Byte).toNat ∧ site.ann.clips[(4 : ClipId)].state ≠ .loading ∧
      site.ann.clips[(4 : ClipId)].uses ≠ 0 ∧ site.ann.clips[(5 : ClipId)].uses = 0 :=
  ⟨ready (by decide +kernel), by decide +kernel⟩

/-- Clip 4 loads, clip 5 is cleared first. -/
def loading : State := site.modAnn fun a =>
  { a with
    clips := (a.clips.set 4 { start := 100, length := 30, state := .loading }).set 5
      { start := 150, length := 4, state := .clearing }
    fillOrder := [5], memory := [(99, 4), (103, 7), (153, 9)] }

/-- Runs of three samples that end at the end of clip 4 and one past it. -/
theorem test_witness_ClipLoading :
    loading.readyFor 1 console ∧ loading.storesFit ∧
      (∀ k ∈ ([4, 5, 0] : List ClipId), loading.ann.clips[k].start + loading.ann.clips[k].length ≤ 8388608) ∧
      ([5, 0, 7] : List Sample16) ≠ [] ∧ loading.ann.clips[(4 : ClipId)].state = .loading ∧
      ¬ loading.ann.clips[(4 : ClipId)].length < (27 : BitVec 24).toNat + ([5, 0, 7] : List Sample16).length ∧
      loading.ann.clips[(4 : ClipId)].length < (28 : BitVec 24).toNat + ([5, 0, 7] : List Sample16).length ∧
      loading.ann.clips[(5 : ClipId)].state = .clearing ∧ loading.ann.clips[(0 : ClipId)].state = .empty ∧
      63 < (64 : Byte).toNat ∧ loading.ann.fillOrder = 5 :: [] ∧ site.ann.fillOrder = [] :=
  ⟨ready (by decide +kernel), stored (by decide +kernel), by decide +kernel⟩

/-- An entry of clip 4. -/
def entryOf (priority : Nat) : QueueEntry :=
  { origin := .event, priority := priority, mode := .replace, items := [.clip 4], order := none, next := 0
    offset := 3, join := 1 }

theorem test_witness_AnnounceCommand :
    let spent := site.modAnn fun a => { a with clips := a.clips.set 4 { a.clips[(4 : ClipId)] with uses := 255 } }
    let playing := site.modAnn fun a => { a with queues := a.queues.set 1 { playing := some (entryOf 2) } }
    (site.readyFor 1 console ∧ site.ann.phrases[(0 : PhraseId)] = [.clip 4] ∧
      site.ann.clips[(4 : ClipId)].state = .ready ∧ site.ann.clips[(4 : ClipId)].uses < 255 ∧
      site.ann.queues[(4 : OutputId)].waiting = [] ∧ site.ann.queues[(4 : OutputId)].playing = none) ∧
      (63 < (64 : Byte).toNat ∧ 31 < (32 : Byte).toNat ∧ 1 < (2 : Byte).toNat) ∧
      (spent.readyFor 1 console ∧ spent.ann.phrases[(0 : PhraseId)] = [.clip 4] ∧
        255 ≤ spent.ann.clips[(4 : ClipId)].uses) ∧
      playing.readyFor 1 console ∧ playing.ann.queues[(1 : OutputId)].waiting = [] ∧
      playing.ann.queues[(1 : OutputId)].playing = some (entryOf 2) ∧ (entryOf 2).priority < 3 :=
  ⟨⟨ready (by decide +kernel), by decide +kernel⟩, by decide,
    ⟨ready (by decide +kernel), by decide +kernel⟩, ready (by decide +kernel), by decide +kernel⟩

theorem test_witness_EntryStartAndEnd :
    let waiting := site.modAnn fun a => { a with queues := a.queues.set 0 { waiting := [entryOf 3, entryOf 2] } }
    let playing := site.modAnn fun a =>
      { a with queues := a.queues.set 4 { playing := some (entryOf 3), waiting := [entryOf 2] } }
    let cut := waiting.modScreenSound 0 fun v => { v with cut := true }
    site.ann.queues[(4 : OutputId)].waiting = [] ∧ site.ann.queues[(4 : OutputId)].playing = none ∧
      ((0 : OutputId) = outputOf 0 ∧ cut.screens[(0 : ScreenId)].sound.cut = true) ∧
      ((∀ c : ScreenId, (0 : OutputId) = outputOf c → waiting.screens[c].sound.cut = false) ∧
        waiting.ann.queues[(0 : OutputId)].playing = none ∧
        waiting.ann.queues[(0 : OutputId)].waiting = entryOf 3 :: [entryOf 2]) ∧
      playing.ann.queues[(4 : OutputId)].playing = some (entryOf 3) ∧ (entryOf 3).items = [.clip 4] ∧
      (entryOf 3).order = none ∧
      ∀ c : ScreenId, (4 : OutputId) = outputOf c →
        playing.screens[c].heldCalls = [] ∧ playing.screens[c].sound.cut = false := by decide +kernel

/-! ## Witnesses: field, ordering and site commands -/

theorem test_witness_SetCount :
    site.readyFor 3 console ∧ 4 < (5 : Byte).toNat ∧
      site.screens[(0 : ScreenId)].config.low < site.screens[(0 : ScreenId)].config.high ∧
      (site.screens[(2 : ScreenId)].config.high = 0 ∧ site.screens[(2 : ScreenId)].config.low = 0) :=
  ⟨ready (by decide +kernel), by decide +kernel⟩

theorem test_witness_SetAdmissionAndOrdering :
    site.readyFor 1 console ∧ 4 < (5 : Byte).toNat ∧ 1 < (2 : Byte).toNat ∧ 2 < (3 : Byte).toNat ∧
      site.screens[(2 : ScreenId)].seq.shown = .dark ∧ site.screens[(0 : ScreenId)].seq.shown ≠ .dark :=
  ⟨ready (by decide +kernel), by decide +kernel⟩

theorem test_witness_CancelOrder :
    (busy.readyFor 1 console ∧ busy.hasRoom 2) ∧ (∀ o ∈ busy.router.orders, o.number ≠ (14 : Half).toNat) ∧
      busy.order? (12 : Half).toNat = some (orderOf 12 7 .opened) ∧ (orderOf 12 7 .opened).tickets = [7] ∧
      busy.router.tickets[(7 : TicketId)] = some (ticketOf 12 1 .backlog) ∧
      (ticketOf 12 1 .backlog).lines = [⟨3, 2⟩] :=
  ⟨⟨ready (by decide +kernel), room (by decide +kernel)⟩, by decide +kernel⟩

/-- Order 13 is cancelled with its ticket SENT: station 5 has no backlog, or sends ticket 10 in its place. -/
theorem test_witness_CancelOrder_sent :
    let voided (s : State) (sent : Nat) : State :=
      { s with
        router :=
          { s.router with
            tickets := s.router.tickets.set 8 none
            kitchens := s.router.kitchens.set 4 { s.router.kitchens[(4 : KitchenId)] with sent := sent } } }
    let waiting := busy.modRouter fun r =>
      { r with
        kitchens := r.kitchens.set 4 { freeKitchen with sent := 3, backlog := [10, 11] }
        tickets := r.tickets.set 10 (some (ticketOf 15 4 .backlog)) }
    (busy.readyFor 1 console ∧ waiting.readyFor 1 console ∧ busy.hasRoom 4 ∧ waiting.hasRoom 4 ∧
      (voided waiting 2).sendsOne 4 10 (ticketOf 15 4 .backlog) ∧ (voided busy 0).sendsNone 4) ∧
      busy.order? (13 : Half).toNat = some (orderOf 13 8 .opened) ∧
      waiting.order? (13 : Half).toNat = some (orderOf 13 8 .opened) ∧ (orderOf 13 8 .opened).tickets = [8] ∧
      waiting.router.tickets[(8 : TicketId)] = some (ticketOf 13 4 .sent) ∧ (ticketOf 13 4 .sent).kitchen = 4 ∧
      (ticketOf 13 4 .sent).state = .sent :=
  ⟨⟨ready (by decide +kernel), ready (by decide +kernel), room (by decide +kernel), room (by decide +kernel),
    sends [11] (by decide +kernel), .inl (by decide +kernel)⟩, by decide +kernel⟩

theorem test_witness_ClearCounters : busy.readyFor 1 console := ready (by decide +kernel)

theorem test_witness_RestartWarmCommand :
    let full := site.modCell fun c => { c with urgent := List.replicate 16 aReply }
    site.readyFor 1 console ∧ full.readyFor 0 console ∧ full.cell.normal = [] ∧ full.cell.urgent.length = 16 ∧
      full.screens[(0 : ScreenId)].seq.state = .running :=
  ⟨ready (by decide +kernel), ready (by decide +kernel), by decide +kernel⟩

/-! ## Witnesses: the Sound Path -/

/-- The site with input 1 at a run, locked or not. -/
def heard (run : Nat) (locked : Bool) : State :=
  (site.modInput 0 fun i => { i with run := run, fresh := false, lostDelay := some 1 }).modScreenSound 0 fun v =>
    { v with locked := locked }

/-- Frames on both sides of the limits: 20,600 and 21,100 ns, 31 and 32 bit clocks, runs of 46 and 47. -/
theorem test_witness_ProgrammeFrames :
    (site.storesFit ∧ (heard 46 false).storesFit ∧ (heard 47 false).storesFit ∧ (heard 48 true).storesFit) ∧
      site.sound.inputs[(0 : ScreenId)].fresh = true ∧ (heard 46 false).sound.inputs[(0 : ScreenId)].fresh = false ∧
      21100 < 21101 ∧ (31 ≠ 32 ∨ 20599 < 20600) ∧
      ((heard 46 false).screens[(0 : ScreenId)].sound.locked = false ∧
        (heard 46 false).sound.inputs[(0 : ScreenId)].run < 47) ∧
      ((heard 47 false).screens[(0 : ScreenId)].sound.locked = false ∧
        (heard 47 false).sound.inputs[(0 : ScreenId)].run = 47) ∧
      ((heard 48 true).screens[(0 : ScreenId)].sound.locked = true ∧
        (heard 48 true).screens[(0 : ScreenId)].config.clockSource = .timebase) ∧
      site.sound.inputs[(0 : ScreenId)].lostDelay = none ∧
      (heard 46 false).sound.inputs[(0 : ScreenId)].lostDelay.isSome ∧ (heard 46 false).hasRoom 2 :=
  ⟨⟨stored (by decide +kernel), stored (by decide +kernel), stored (by decide +kernel), stored (by decide +kernel)⟩,
    by decide +kernel, by decide +kernel, by decide, by decide, by decide +kernel, by decide +kernel,
    by decide +kernel, by decide +kernel, by decide +kernel, room (by decide +kernel)⟩

/-- Screen 1 is locked and shows, screen 2 is cut, screen 3 is dark and muted, screen 4 dark on the PA; output 5 plays, and
takes its programme from screen 1. -/
def sounding : State :=
  let s := (site.modScreenSound 0 fun v => { v with locked := true }).modScreenSound 1 fun v => { v with cut := true }
  let t := s.modOutputConfig 3 fun g => { g with darkRemap := .pa }
  let u := t.modOutputConfig 4 fun g => { g with paSource := some 0, gainTarget := 4000, ceiling := 9 }
  u.modAnn fun a => { a with queues := a.queues.set 4 { playing := some (entryOf 3) } }

theorem test_witness_SamplePeriod :
    sounding.storesFit ∧
      (∀ o : OutputId, sounding.ann.queues[o].waiting = [] ∧ sounding.sound.outputs[o].blockPos < 479) ∧
      (∀ o : OutputId, ∀ e ∈ sounding.ann.queues[o].playing, e.next < e.items.length) ∧
      (∀ c : ScreenId, sounding.sound.lines[c].read ≤ 9599 ∧ sounding.sound.lines[c].write ≤ 9599) ∧
      sounding.sound.lines[(0 : ScreenId)].phase < 63 ∧ sounding.screens[(1 : ScreenId)].sound.cut = true ∧
      (sounding.screens[(2 : ScreenId)].seq.shown = .dark ∧
        sounding.sound.config[outputOf 2].darkRemap = .mute) ∧
      (sounding.screens[(3 : ScreenId)].seq.shown = .dark ∧ sounding.sound.config[outputOf 3].darkRemap = .pa) ∧
      sounding.screens[(0 : ScreenId)].seq.shown ≠ .dark ∧ sounding.sound.config[paOutput].paSource = some 0 ∧
      site.sound.config[paOutput].paSource = none :=
  ⟨stored (by decide +kernel), by decide +kernel, by decide +kernel, by decide +kernel⟩

/-- An output at the end of a block of peak 9 under a threshold of 10, or of 9. -/
def levelled (threshold run : Nat) (void latched : Bool) : State :=
  (site.modOutputConfig 0 fun g => { g with silenceThreshold := threshold, deadAirBlocks := 500 }).modOutput 0 fun v =>
    { v with blockPos := 480, peak := 9, silentRun := run, blockVoid := void, deadAir := latched }

theorem test_witness_SlewStepAndBlockEnd :
    let block (s : State) : OutputState := s.sound.outputs[(0 : OutputId)]
    let silence (s : State) : Nat := s.sound.config[(0 : OutputId)].silenceThreshold
    let limit (s : State) : Nat := s.sound.config[(0 : OutputId)].deadAirBlocks
    (site.sound.lines[(0 : ScreenId)].read ≤ 9599 ∧ site.sound.lines[(0 : ScreenId)].write ≤ 9599) ∧
      (block (levelled 10 498 true false)).blockVoid = true ∧
      ((block (levelled 9 498 false true)).blockVoid = false ∧
        silence (levelled 9 498 false true) ≤ (block (levelled 9 498 false true)).peak) ∧
      ((block (levelled 10 498 false false)).blockVoid = false ∧
        (block (levelled 10 498 false false)).peak < silence (levelled 10 498 false false) ∧
        (block (levelled 10 498 false false)).silentRun + 1 < limit (levelled 10 498 false false)) ∧
      ((block (levelled 10 499 false false)).peak < silence (levelled 10 499 false false) ∧
        limit (levelled 10 499 false false) ≤ (block (levelled 10 499 false false)).silentRun + 1 ∧
        (block (levelled 10 499 false false)).deadAir = false ∧
        (levelled 10 499 false false).ann.events[(7 : Fin 16)].notice = true) ∧
      (levelled 10 499 false false).hasRoom 1 :=
  ⟨by decide +kernel, by decide +kernel, by decide +kernel, by decide +kernel, by decide +kernel,
    room (by decide +kernel)⟩

/-- Output 1 with a transmitter at station 40 that REFLECTED or HOT cuts. -/
def watched : State :=
  (site.modOutputConfig 0 fun g => { g with txStation := 40, autocut := 5, txSilenceLimit := 9 }).modTransmitter 0
    fun x => { x with silenceTimer := some 1 }

theorem test_witness_TransmitterWatch :
    let cut := watched.modScreenSound 0 fun v => { v with cut := true }
    (watched.stranger 40 ∧ watched.stranger 41 ∧ watched.hasRoom 3) ∧ 2 < (3 : Byte).toNat ∧
      (∀ c : ScreenId, watched.sound.config[outputOf c].txStation ≠ (41 : Byte).toNat) ∧
      (Carrier.on.code = (1 : Byte).toNat ∧ watched.sound.config[outputOf 0].txStation = (40 : Byte).toNat ∧
        ∀ d : ScreenId, d ≠ 0 → watched.sound.config[outputOf d].txStation ≠ (40 : Byte).toNat) ∧
      (((2 : Byte).truncate 3 : BitVec 3) &&& watched.sound.config[outputOf 0].autocut = 0 ∧
        ((4 : Byte).truncate 3 : BitVec 3) &&& watched.sound.config[outputOf 0].autocut ≠ 0) ∧
      (watched.sound.transmitters[(1 : ScreenId)].silenceTimer = none ∧
        watched.sound.transmitters[(0 : ScreenId)].silenceTimer.isSome) ∧
      watched.screens[(0 : ScreenId)].sound.cut = false ∧ cut.screens[(0 : ScreenId)].sound.cut = true ∧
      watched.readyFor 2 console ∧ cut.readyFor 2 console :=
  ⟨⟨strange (by decide +kernel), strange (by decide +kernel), room (by decide +kernel)⟩, by decide,
    by decide +kernel, by decide +kernel, by decide +kernel, by decide +kernel, by decide +kernel, by decide +kernel,
    ready (by decide +kernel), ready (by decide +kernel)⟩

/-! ## Witnesses: the Gate Counter -/

/-- Lane 6 asks; screen 1 has five places and screen 2 none; in `closed` no screen admits. -/
theorem test_witness_AdmitAsk :
    let closed := (busy.modField 0 fun f => { f with admission := .closed }).modField 1 fun f =>
      { f with admission := .closed }
    let places (s : State) (c : ScreenId) : Int :=
      (s.screens[c].config.capacity : Int) - s.screens[c].field.occupancy - s.screens[c].config.reserved -
        s.screens[c].field.pending
    (site.stranger 99 ∧ site.hasRoom 1) ∧
      (busy.fromLane 42 5 ∧ busy.fromLane 41 4 ∧ busy.fromLane 40 2 ∧ busy.hasRoom 2) ∧
      (busy.gate.lanes[(4 : LaneId)].role = .exit ∧ busy.gate.lanes[(2 : LaneId)].role = .entry ∧
        busy.gate.lanes[(2 : LaneId)].pending.isSome) ∧
      (busy.gate.lanes[(5 : LaneId)].role = .entry ∧ busy.gate.lanes[(5 : LaneId)].pending = none) ∧
      (4 < (5 : Byte).toNat ∧ 1 < (2 : Byte).toNat ∧ Vehicle.tall.code = (1 : Byte).toNat) ∧
      (busy.screens[(0 : ScreenId)].config.enabled = true ∧
        busy.screens[(0 : ScreenId)].field.admission = .opened ∧ 0 < places busy 0 ∧
        busy.screens[(0 : ScreenId)].field.tall + busy.screens[(0 : ScreenId)].field.tallPending <
          busy.screens[(0 : ScreenId)].config.tallQuota) ∧
      (busy.screens[(1 : ScreenId)].field.admission = .opened ∧ ¬ 0 < places busy 1) ∧
      (∀ c : ScreenId, closed.screens[c].field.admission ≠ .opened) ∧ closed.fromLane 42 5 ∧ closed.hasRoom 2 :=
  ⟨⟨strange (by decide +kernel), room (by decide +kernel)⟩,
    ⟨lane (by decide +kernel), lane (by decide +kernel), lane (by decide +kernel), room (by decide +kernel)⟩,
    by decide +kernel, by decide +kernel, by decide, by decide +kernel, by decide +kernel, by decide +kernel,
    lane (by decide +kernel), room (by decide +kernel)⟩

theorem test_witness_Passages :
    (site.stranger 99 ∧ busy.fromLane 42 5 ∧ busy.fromLane 41 4 ∧ busy.fromLane 40 2) ∧ 1 < (2 : Byte).toNat ∧
      (busy.gate.lanes[(4 : LaneId)].role = .exit ∧ busy.gate.lanes[(4 : LaneId)].home = 1) ∧
      (busy.gate.lanes[(5 : LaneId)].role = .entry ∧ busy.gate.lanes[(5 : LaneId)].pending = none ∧
        busy.gate.lanes[(5 : LaneId)].home = 0) ∧
      (busy.gate.lanes[(2 : LaneId)].role = .entry ∧
        busy.gate.lanes[(2 : LaneId)].pending = some ⟨1, .tall, 3⟩) ∧
      (∀ c : ScreenId, busy.screens[c].config.low < busy.screens[c].config.high ∨
        (busy.screens[c].config.high = 0 ∧ busy.screens[c].config.low = 0)) ∧
      Vehicle.car.code = (0 : Byte).toNat :=
  ⟨⟨strange (by decide +kernel), lane (by decide +kernel), lane (by decide +kernel), lane (by decide +kernel)⟩,
    by decide, by decide +kernel⟩

theorem test_witness_LaneBeatAndTimers :
    site.stranger 99 ∧ busy.fromLane 42 5 ∧ busy.gate.lanes[(5 : LaneId)].pending = none ∧
      busy.gate.lanes[(2 : LaneId)].pending = some ⟨1, .tall, 3⟩ ∧
      busy.gate.lanes[(0 : LaneId)].silenceTimer = none ∧ busy.gate.lanes[(5 : LaneId)].silenceTimer.isSome ∧
      busy.gate.lanes[(2 : LaneId)].silenceTimer.isSome ∧ busy.gate.lanes[(2 : LaneId)].home = 1 :=
  ⟨strange (by decide +kernel), lane (by decide +kernel), by decide +kernel⟩

/-! ## Witnesses: the Order Router -/

/-- Item 3 has five portions and both its stations; item 4 is off the menu; item 5's stations are not there; tickets and
orders run out in `sold` and `booked`; 60 has placed with tag 8. -/
theorem test_witness_OrderPlace :
    let s := busy.modRouter fun r =>
      { r with menu := r.menu.set 5 { available := true, primary := 2, alternate := some 3 }
               kitchens := r.kitchens.set 1 { loopStation := 50, limit := 3, state := .present, sent := 2 } }
    let sold := s.modRouter fun r => { r with tickets := Vector.replicate 256 (some (ticketOf 12 1 .sent)) }
    let booked := s.modRouter fun r => { r with orders := List.replicate 128 (orderOf 12 7 .opened) }
    (s.stranger 60 ∧ s.stranger 61 ∧ s.hasRoom 2 ∧ sold.stranger 61 ∧ sold.hasRoom 2 ∧ booked.stranger 61 ∧
      booked.hasRoom 2) ∧
      (s.router.orders = [] ++ orderOf 12 7 .opened :: [orderOf 13 8 .opened] ∧
        (orderOf 12 7 .opened).origin = (60 : Byte).toNat ∧ (orderOf 12 7 .opened).placeTag = 8) ∧
      (∀ o ∈ s.router.orders, ¬ (o.origin = (61 : Byte).toNat ∧ o.placeTag = 8)) ∧
      (4 < (5 : Byte).toNat ∧ 15 < (16 : Byte).toNat) ∧ s.mgmt.site.walkUp = false ∧
      ((1 : Byte).toNat = (0 : ScreenId).val + 1 ∧ s.screens[(0 : ScreenId)].ordering ≠ .closed ∧
        s.screens[(2 : ScreenId)].ordering = .closed) ∧
      (s.router.menu[(Fin.ofNat 256 (4 : Byte).toNat : Fin 256)].available = false ∧
        s.router.menu[(Fin.ofNat 256 (3 : Byte).toNat : Fin 256)].available = true ∧
        s.router.menu[(Fin.ofNat 256 (3 : Byte).toNat : Fin 256)].portions = some 5) ∧
      (¬ (6 : Byte).toNat ≤ 5 ∧ (5 : Byte).toNat ≤ 5) ∧
      (s.router.kitchens[(1 : KitchenId)].state = .present ∧ s.router.kitchens[(2 : KitchenId)].state ≠ .present ∧
        s.router.kitchens[(3 : KitchenId)].state ≠ .present ∧ s.router.kitchens[(1 : KitchenId)].backlog = []) ∧
      (s.router.orders.length < 128 ∧ s.router.tickets[(0 : TicketId)] = none ∧ 1 ≤ s.router.nextNumber ∧
        s.router.nextNumber ≤ 999 ∧ ∀ o ∈ s.router.orders, o.number ≠ s.router.nextNumber) ∧
      128 ≤ booked.router.orders.length ∧ ∀ x : TicketId, sold.router.tickets[x] ≠ none :=
  ⟨⟨strange (by decide +kernel), strange (by decide +kernel), room (by decide +kernel), strange (by decide +kernel),
    room (by decide +kernel), strange (by decide +kernel), room (by decide +kernel)⟩, by decide +kernel,
    by decide +kernel, by decide, by decide +kernel, by decide +kernel, by decide +kernel, by decide,
    by decide +kernel, by decide +kernel, by decide +kernel, by decide +kernel⟩

/-- Kitchen station 2 comes back to its one-ticket backlog; station 5 bumps the only ticket of order 13. -/
theorem test_witness_BeatAndBump :
    let away := busy.modKitchen 1 fun k => { k with state := .absent, sent := 2 }
    (site.stranger 99 ∧ busy.fromKitchen 51 4 ∧ busy.fromKitchen 50 1 ∧ away.fromKitchen 50 1 ∧ away.hasRoom 1 ∧
      (away.modKitchen 1 fun k => { k with state := .present }).sendsOne 1 7 (ticketOf 12 1 .backlog)) ∧
      busy.router.kitchens[(4 : KitchenId)].state = .present ∧
      away.router.kitchens[(1 : KitchenId)].state ≠ .present ∧
      busy.order? (14 : Half).toNat = none ∧ busy.order? (13 : Half).toNat = some (orderOf 13 8 .opened) ∧
      ((orderOf 13 8 .opened).tickets = [] ++ 8 :: [] ∧
        busy.router.tickets[(8 : TicketId)] = some (ticketOf 13 4 .sent) ∧ (ticketOf 13 4 .sent).kitchen = 4 ∧
        (ticketOf 13 4 .sent).state = .sent ∧ busy.router.kitchens[(4 : KitchenId)].backlog = []) ∧
      busy.mgmt.site.board = 0 :=
  ⟨⟨strange (by decide +kernel), kitchen (by decide +kernel), kitchen (by decide +kernel), kitchen (by decide +kernel),
    room (by decide +kernel), sends [] (by decide +kernel)⟩, by decide +kernel⟩

/-- Order 13 has the BUMPED ticket 9 before ticket 8, which station 5 holds at its limit, tickets 10 and 11 behind it; the
dispatch of the bump sends ticket 10. With ticket 7 in it the order is not finished. -/
def rushed (board : Nat) (others : List TicketId) : State :=
  (busy.modRouter fun r =>
    { r with
      kitchens := r.kitchens.set 4 { freeKitchen with sent := 3, backlog := [10, 11] }
      orders := [{ orderOf 13 8 .opened with tickets := 9 :: 8 :: others }]
      tickets := (r.tickets.set 9 (some (ticketOf 13 2 .bumped))).set 10 (some (ticketOf 15 4 .backlog)) }).modMgmt
    fun m => { m with site := { m.site with board := board } }

theorem test_witness_BeatAndBump_dispatch :
    let s := rushed 70 []
    let bumped : State :=
      (s.modTicket 8 fun w => { w with state := .bumped, lateTimer := none }).modKitchen 4 fun w =>
        { w with sent := w.sent - 1 }
    (s.fromKitchen 51 4 ∧ bumped.sendsOne 4 10 (ticketOf 15 4 .backlog) ∧ s.hasRoom 1 ∧
      (bumped.withSent 4 10 (ticketOf 15 4 .backlog)).hasRoom 1) ∧
      (s.router.kitchens[(4 : KitchenId)].state = .present ∧
        s.order? (13 : Half).toNat = some { orderOf 13 8 .opened with tickets := [9] ++ 8 :: [] } ∧
        s.router.tickets[(8 : TicketId)] = some (ticketOf 13 4 .sent) ∧
        s.router.tickets[(9 : TicketId)] = some (ticketOf 13 2 .bumped) ∧ (ticketOf 13 2 .bumped).state = .bumped ∧
        (8 : TicketId) ∉ [(9 : TicketId)] ++ [] ∧ (10 : TicketId) ∉ [(9 : TicketId)] ++ 8 :: [] ∧
        s.mgmt.site.board ≠ 0) ∧
      (rushed 0 [7]).order? (13 : Half).toNat = some { orderOf 13 8 .opened with tickets := [9] ++ 8 :: [7] } ∧
      ∃ y ∈ [(9 : TicketId)] ++ [7], ∀ w ∈ (rushed 0 [7]).router.tickets[y], w.state ≠ .bumped :=
  ⟨⟨kitchen (by decide +kernel), sends [11] (by decide +kernel), room (by decide +kernel), room (by decide +kernel)⟩,
    by decide +kernel⟩

/-- The calls of a walk-up and of screen 1, with the PA call and without; screen 1 shows a FEATURE, which holds calls or
not. -/
theorem test_witness_BeatAndBump_called :
    let pa := busy.modMgmt fun m => { m with site := { m.site with paCall := true } }
    let anytime := busy.modScreen 0 fun v => { v with config := { v.config with callPolicy := .callAnytime } }
    (busy.ann.phrases[busy.mgmt.site.callPhrase] = [.clip 4] ∧ busy.ann.clips[(4 : ClipId)].state = .ready ∧
      busy.ann.clips[(4 : ClipId)].uses < 254) ∧
      (∀ o : OutputId, busy.ann.queues[o].playing = none ∧ busy.ann.queues[o].waiting = []) ∧
      ({ orderOf 13 8 .ready with screen := none } : Order).screen = none ∧ (orderOf 13 8 .ready).screen = some 0 ∧
      pa.mgmt.site.paCall = true ∧ busy.mgmt.site.paCall = false ∧
      13 ∈ (busy.setHeldCalls 0 [13]).screens[(0 : ScreenId)].heldCalls ∧
      13 ∉ busy.screens[(0 : ScreenId)].heldCalls ∧
      (busy.screens[(0 : ScreenId)].config.callPolicy = .holdInFeature ∧
        busy.screens[(0 : ScreenId)].seq.shown = .feature) ∧
      anytime.screens[(0 : ScreenId)].config.callPolicy ≠ .holdInFeature := by decide +kernel

/-- R142: order 13 READY, called on screen 1's output and on the PA. -/
theorem test_call_on_two_outputs :
    let s := busy.modMgmt fun m => { m with site := { m.site with paCall := true } }
    let t := after (s.modScreen 0 fun v => { v with config := { v.config with callPolicy := .callAnytime } }) (.bump 51 13 5)
    [(0 : OutputId), 4].map (fun o => t.ann.queues[o].waiting.map fun e => e.order) = [[some 13], [some 13]] ∧
      t.ann.clips[(4 : ClipId)].uses = 4 := by decide +kernel

/-- Order 13 READY on its first and on its last call; the counter is station 71, the board station 70. -/
theorem test_witness_RecallLatePickup :
    let manned := busy.modMgmt fun m => { m with site := { m.site with board := 70, counter := 71 } }
    let called := manned.modRouter fun r => { r with orders := [orderOf 13 8 .ready] }
    let last := called.modRouter fun r => { r with orders := [{ orderOf 13 8 .ready with callCount := 3 }] }
    let late := manned.modRouter fun r => { r with orders := [{ orderOf 13 8 .opened with late := true }] }
    (manned.stranger 71 ∧ manned.stranger 72 ∧ called.stranger 71 ∧ called.hasRoom 1) ∧
      manned.order? (14 : Half).toNat = none ∧
      (called.order? (13 : Half).toNat = some (orderOf 13 8 .ready) ∧ (orderOf 13 8 .ready).state = .ready ∧
        (orderOf 13 8 .ready).recallLeft.isSome ∧ (orderOf 13 8 .ready).callActive = false ∧
        (orderOf 13 8 .ready).callCount < called.mgmt.site.maxCalls) ∧
      (last.order? (13 : Half).toNat = some { orderOf 13 8 .ready with callCount := 3 } ∧
        last.mgmt.site.maxCalls ≤ 3) ∧
      (manned.order? (13 : Half).toNat = some (orderOf 13 8 .opened) ∧ (orderOf 13 8 .opened).tickets = [8] ∧
        manned.router.tickets[(8 : TicketId)] = some (ticketOf 13 4 .sent) ∧
        (ticketOf 13 4 .sent).order = (13 : Half).toNat ∧ (ticketOf 13 4 .sent).lateTimer.isSome ∧
        (orderOf 13 8 .opened).late = false) ∧
      (manned.order? (12 : Half).toNat = some (orderOf 12 7 .opened) ∧
        manned.router.tickets[(7 : TicketId)] = some (ticketOf 12 1 .backlog) ∧
        (ticketOf 12 1 .backlog).state ≠ .sent) ∧
      late.order? (13 : Half).toNat = some { orderOf 13 8 .opened with late := true } ∧
      (manned.mgmt.site.counter ≠ 0 ∧ manned.mgmt.site.counter = (71 : Byte).toNat ∧
        manned.mgmt.site.counter ≠ (72 : Byte).toNat ∧ manned.mgmt.site.board ≠ 0) :=
  ⟨⟨strange (by decide +kernel), strange (by decide +kernel), strange (by decide +kernel), room (by decide +kernel)⟩,
    by decide +kernel⟩

/-! ## Witnesses: the clauses of timers, turns and failures -/

/-- Timers at 1 and at 2 on a tick of 1 ms, of 10 ms, of 1 s; port A has a loss timer, port B a quiet timer. -/
def ticking (time : Timebase) (n : Nat) : State :=
  let s : State := { withPorts busy { upPort with lossTimer := true } { state := .down, quiet := some n } with time := time }
  let t := (s.modCell fun c => { c with tracker := [voidEntry, txEntry] }).modSeqr fun q => { q with skyTimer := some n }
  ((t.modInput 0 fun i => { i with lostDelay := some n }).modTransmitter 0 fun x =>
    { x with silenceTimer := some n }).modLane 5 fun l => { l with silenceTimer := some n }

theorem test_witness_EmptyQueueTicks_timers :
    let s := ticking ⟨9, 98, 59⟩ 1
    let t := ticking ⟨9, 99, 58⟩ 2
    (s.pending = [] ∧ (s.port .b).quiet = some 1 ∧ (t.port .b).quiet = some 2 ∧ (s.port .a).quiet = none ∧
      (s.port .a).held = false ∧ (s.port .a).state ≠ .down ∧ (s.port .a).lossTimer = true) ∧ s.cell.trackerFits ∧
      (s.time.ms = 9 ∧ s.time.tens < 99) ∧ (∀ c : ScreenId, s.waitsForGo c) ∧
      (t.time.ms = 9 ∧ t.time.tens = 99 ∧ t.seqr.skyTimer = some 2 ∧ (ticking ⟨9, 99, 58⟩ 1).seqr.skyTimer = some 1 ∧
        t.sound.inputs[(0 : ScreenId)].lostDelay = some 2 ∧
        t.sound.transmitters[(0 : ScreenId)].silenceTimer = some 2 ∧
        t.gate.lanes[(5 : LaneId)].silenceTimer = some 2 ∧ t.gate.lanes[(2 : LaneId)].pending = some ⟨1, .tall, 3⟩ ∧
        t.gate.lanes[(2 : LaneId)].silenceTimer = some 3) :=
  ⟨by decide +kernel, tracked (by decide +kernel), by decide +kernel, fun c => waits (by revert c; decide +kernel),
    by decide +kernel⟩

/-- A minute with no show: the late timer of the ticket of order 13, and the recall countdown of order 12. -/
theorem test_witness_EmptyQueueTicks_minute :
    let calling : Order := { orderOf 12 7 .ready with recallLeft := some 2 }
    let s : State := { (kitchens State.reset).modRouter fun r => { r with orders := [calling, orderOf 13 8 .opened] } with
      time := ⟨9, 99, 59⟩ }
    (s.time = ⟨9, 99, 59⟩ ∧ s.cell.tracker = [] ∧ ∀ c : ScreenId, s.screens[c].seq.state = .idle) ∧
      (s.router.tickets[(8 : TicketId)] = some (ticketOf 13 4 .sent) ∧ (ticketOf 13 4 .sent).lateTimer = some 1 ∧
        ∀ o ∈ s.router.orders, 8 ∈ o.tickets → o.state ≠ .ready) ∧
      (s.router.orders.Pairwise fun o w => o.number ≠ w.number) ∧
      (calling ∈ s.router.orders ∧ calling.state = .ready ∧ calling.callActive = false) := by decide +kernel

/-- Signal is lost in a cell with a symbol error and in one without; 14 + 1 is below the limit of 16, 15 + 1 is not. -/
theorem test_witness_LineErrors_cut :
    let cut (window : Nat) (error : Bool) : State := { withPorts site { upPort with window := window } upPort with
      loop := { (withPorts site { upPort with window := window } upPort).loop with
        arriving := some { bytes := [1], symbolError := error } } }
    (cut 14 true).loop.portA.held = false ∧ (cut 14 true).loop.portA.quiet = none ∧
      (cut 14 true).loop.portA.state ≠ .down ∧
      (cut 14 true).loop.arriving = some { bytes := [1], symbolError := true } ∧
      (cut 14 false).loop.arriving = some { bytes := [1], symbolError := false } ∧
      (cut 14 true).loop.portA.window + 1 < site.mgmt.site.errorLimit ∧
      ¬ (cut 15 true).loop.portA.window + 1 < site.mgmt.site.errorLimit := by decide +kernel

/-- R18: the symbol error of a cell that a loss of signal cuts short is counted. -/
theorem test_error_in_lost_cell :
    let s : State := { linked with loop := { linked.loop with arriving := some { bytes := [1], symbolError := true } } }
    (after s (.lossOfSignal .a)).loop.portA.lineErrors = 1 := by decide +kernel

/-- R15: the ports send HAIL after reset; port B in UP sends its cell, or IDLE. -/
theorem test_port_sends :
    State.reset.portSends .a = .hail ∧ linked.portSends .b = .idle ∧ linked.portSends .a = .idle ∧
      (withSending linked (.own [])).portSends .b = .cell := by decide +kernel

/-- The tracker entry of a PROJ_CMD for screen 1, and of the ticket of order 13 at send serial 0. -/
def projEntry : TrackEntry := ⟨78, .projCmd, 21, .showSequencer, .screen 0, 50⟩
def sendEntry (serial : Byte) : TrackEntry := ⟨79, .ticket, 51, .orderRouter, .ticket 8 serial, 1⟩

/-- The kitchen with the ticket of order 13 under way, after so many failures, its station in a state, with a returned
ticket and another in its backlog. -/
def failing (attempts : Nat) (station : KitchenState) : State :=
  (busy.modCell fun c => { c with tracker := [projEntry, sendEntry 0] }).modRouter fun r =>
    { r with
      kitchens := r.kitchens.set 4 { freeKitchen with state := station, backlog := [9, 10] }
      tickets := ((r.tickets.set 8 (some { ticketOf 13 4 .sent with attempts := attempts })).set 9
        (some { ticketOf 14 4 .backlog with returned := true })).set 10 (some (ticketOf 15 4 .backlog)) }

theorem test_witness_ReturnsSettle_failures :
    let s := failing 1 .present
    s.cell.trackerFits ∧ (projEntry ∈ s.cell.tracker ∧ projEntry.kind = .projCmd ∧ projEntry.ref = .screen 0) ∧
      (sendEntry 0 ∈ s.cell.tracker ∧ (sendEntry 0).kind = .ticket ∧ (sendEntry 0).ref = .ticket 8 0) ∧
      (s.router.tickets[(8 : TicketId)] = some { ticketOf 13 4 .sent with attempts := 1 } ∧
        s.router.serials[(8 : TicketId)] = 0 ∧ s.router.serials[(8 : TicketId)] ≠ 1) ∧
      (s.router.kitchens[(4 : KitchenId)].state = .present ∧ 1 + 1 < 3 ∧ 3 ≤ 2 + 1 ∧
        (failing 2 .present).router.tickets[(8 : TicketId)] = some { ticketOf 13 4 .sent with attempts := 2 } ∧
        (failing 0 .absent).router.kitchens[(4 : KitchenId)].state = .absent) ∧
      (s.router.kitchens[(4 : KitchenId)].backlog = [9] ++ [10] ∧
        (∃ w, s.router.tickets[(9 : TicketId)] = some w ∧ w.returned = true) ∧
        ¬ ∃ w, s.router.tickets[(10 : TicketId)] = some w ∧ w.returned = true) ∧ s.hasRoom 1 :=
  ⟨tracked (by decide +kernel), by decide +kernel, by decide +kernel, by decide +kernel, by decide +kernel,
    ⟨by decide +kernel, ⟨{ ticketOf 14 4 .backlog with returned := true }, by decide +kernel, rfl⟩, by
      rintro ⟨w, h, hw⟩
      have : some w = some (ticketOf 15 4 .backlog) := h.symm.trans (by decide +kernel)
      cases this
      exact absurd hw (by decide)⟩, room (by decide +kernel)⟩

/-- The TICKET of order 13 that comes back ACCEPTED by its station, which had failed twice. -/
theorem test_witness_ReturnsSettle_delivered :
    let back := cellBytes 51 9 0x32 3 79 [13, 0] 1 51
    let v : Arriving := { bytes := back.take 8, verdict := some .stripped }
    let s : State := { linked with
      loop := { linked.loop with arriving := some v }
      cell := { linked.cell with tracker := [projEntry, sendEntry 0] }
      router := (busy.modKitchen 4 fun k => { k with failRun := 2 }).router }
    let rest := back.drop 8
    (s.loop.portA.held = false ∧ s.loop.portA.quiet = none ∧ s.loop.arriving = some v ∧ v.discard = false ∧
      v.symbolError = false ∧ v.verdict = some .stripped ∧ 8 ≤ v.bytes.length ∧ rest ≠ [] ∧
      v.bytes.length + rest.length = 64 ∧ checkField back = checkWord (back.take 60) ∧ back.getD 2 0 = 0x32 ∧
      sendEntry 0 ∈ s.cell.tracker ∧ (sendEntry 0).tag.toNat = twoBytes (back.getD 4 0) (back.getD 5 0) ∧
      (sendEntry 0).kind = .ticket ∧ (sendEntry 0).ref = .ticket 8 s.router.serials[(8 : TicketId)] ∧
      s.router.tickets[(8 : TicketId)] = some (ticketOf 13 4 .sent) ∧ (ticketOf 13 4 .sent).state = .sent ∧
      (back.getD 58 0).getLsbD 0 = true) ∧ s.cell.trackerFits :=
  ⟨by decide +kernel, tracked (by decide +kernel)⟩

/-- The first 8 bytes of a cell, and all but one, have arrived, its head leaves port B; below the limit and at it. -/
theorem test_witness_LineErrors_leaving :
    let cut (window n : Nat) : State :=
      let s := withSending (withPorts site { upPort with window := window } upPort) (.passing true)
      { s with loop := { s.loop with
          arriving := some { bytes := passing.take n, verdict := some .passed, place := .leaving } } }
    (∀ n ∈ [8, 63], (cut 14 n).loop.portA.held = false ∧ (cut 14 n).loop.portA.quiet = none ∧
      (cut 14 n).loop.portA.state = .up ∧ 8 ≤ (passing.take n).length ∧ (passing.take n).length ≤ 63 ∧
      (cut 14 n).cell.sending = .passing true ∧ (cut 14 n).loop.portA.window < 255) ∧
      (cut 14 8).loop.portA.window + 1 < (cut 14 8).mgmt.site.errorLimit ∧
      ¬ (cut 15 8).loop.portA.window + 1 < (cut 15 8).mgmt.site.errorLimit := by decide +kernel

/-- R21: HAIL in the middle of a passing cell: the completed cell fails its check in the stomped form. -/
theorem test_cut_cell_is_stomped :
    let s := withSending linked (.passing false)
    let t := after { s with loop := { s.loop with
      arriving := some { bytes := passing.take 20, verdict := some .passed, place := .leaving } } } (.hailReceived .a)
    (match t.cell.sending with
      | .passed bytes _ => decide (bytes.length = 64 ∧ bytes.getD 3 0 = 63 ∧ bytes.getD 8 0 = 1 ∧ bytes.getD 30 0 = 0) &&
          decide (checkField bytes = checkWord (bytes.take 60) ^^^ 0xFFFFFFFF)
      | _ => false) = true := by decide +kernel

/-- A passing cell of which nothing more leaves port B; a queue of one tracked cell before a full tracker. -/
theorem test_witness_PortBTurns_held :
    let v : Arriving := { bytes := [1], verdict := some .copied, place := .gone }
    let s : State := { withSending linked .discardedForward with loop := { linked.loop with arriving := some v } }
    let full := linked.modCell fun c => { c with urgent := [aTxCmd], tracker := List.replicate 32 txEntry }
    (s.cell.sending = .discardedForward ∧ s.cell.buffer = [] ∧ s.loop.arriving = some v ∧ v.discard = false ∧
      v.place = .gone ∧ v.verdict = some .copied) ∧
      (∀ b, full.cell.sending ≠ .passing b) ∧ full.cell.buffer = [] ∧ full.loop.arriving = none ∧
      full.cell.urgent = [aTxCmd] ∧ full.cell.normal = [] ∧ aTxCmd.kind.tracked = some .soundPath ∧
      32 ≤ full.cell.tracker.length := by decide +kernel

/-- Screen 1 holds the call of order 12, which its queue has room for. -/
theorem test_witness_ScreenWrite_release :
    let s := site.setHeldCalls 0 [12]
    let g := s.screens[(0 : ScreenId)].config
    s.readyFor 3 console ∧ (g.callPolicy = .holdInFeature ∧ CallPolicy.callAnytime.code = (0 : Byte).toNat ∧
      g.capacity = min 2000 (twoBytes 10 0) ∧ g.reserved = min 2000 (twoBytes 1 0) ∧
      g.high = min 2000 (twoBytes 8 0) ∧ g.low = min 2000 (twoBytes 5 0)) ∧
      s.screens[(0 : ScreenId)].heldCalls = [12] ∧
      s.ann.queues[outputOf 0] = { playing := none, waiting := [] } ∧
      s.ann.phrases[s.mgmt.site.callPhrase] = [.clip 4] ∧ s.ann.clips[(4 : ClipId)].state = .ready ∧
      s.ann.clips[(4 : ClipId)].uses < 255 :=
  ⟨ready (by decide +kernel), by decide +kernel⟩

/-- Nine parts, where eight are the most; gap times 0, 1, 2,000 and 2,001 and what they are stored as. -/
theorem test_witness_PhraseAndEventWrite_bounds :
    site.readyFor 1 console ∧ (8 < (9 : Byte).toNat ∧ ¬ 8 < (8 : Byte).toNat) ∧
      (List.replicate 27 (0 : Byte)).length = 3 * (9 : Byte).toNat ∧
      (max 1 (min 2000 (twoBytes 0 0)) = 1 ∧ max 1 (min 2000 (twoBytes 1 0)) = 1 ∧
        max 1 (min 2000 (twoBytes 0xD0 7)) = 2000 ∧ max 1 (min 2000 (twoBytes 0xD1 7)) = 2000) :=
  ⟨ready (by decide +kernel), by decide⟩

/-- R99: a phrase of nine parts is refused RANGE (1); a gap of 2,001 ms is stored as one of 2,000. -/
theorem test_phrase_bounds :
    (after site (.phraseWrite console 1 (9 :: List.replicate 27 0))).cell.urgent.map (fun o => o.payload.take 1) = [[1]] ∧
      (after site (.phraseWrite console 1 [1, 2, 0xD1, 7])).ann.phrases[(1 : PhraseId)] = [.gap 2000] := by
  decide +kernel

/-- Station 2 at its limit of 3 with ticket 7 behind it: a limit of 4 lets it go, but not to an absent station. -/
theorem test_witness_MenuAndStationWrite_sent :
    let absent := busy.modKitchen 1 fun k => { k with state := .absent }
    (busy.readyFor 1 console ∧ busy.hasRoom 2) ∧ (50 : Byte).toNat = busy.router.kitchens[(1 : KitchenId)].loopStation ∧
      (∀ j : KitchenId, j ≠ 1 → busy.router.kitchens[j].loopStation ≠ (50 : Byte).toNat) ∧
      (busy.router.kitchens[(1 : KitchenId)].state = .present ∧ absent.router.kitchens[(1 : KitchenId)].state ≠ .present) ∧
      (busy.router.kitchens[(1 : KitchenId)].limit < max 1 (min 16 (4 : Byte).toNat) ∧
        busy.router.kitchens[(1 : KitchenId)].sent < max 1 (min 16 (4 : Byte).toNat)) ∧
      busy.router.kitchens[(1 : KitchenId)].backlog = [7] ∧
      busy.router.tickets[(7 : TicketId)] = some (ticketOf 12 1 .backlog) ∧ (ticketOf 12 1 .backlog).kitchen = 1 :=
  ⟨⟨ready (by decide +kernel), room (by decide +kernel)⟩, by decide +kernel⟩

/-- R132, R138: the raised limit sends the head ticket. -/
theorem test_raised_limit :
    (after busy (.stationWrite console 2 [50, 4, 10])).cell.normal.map (fun o => (o.kind, o.dest)) = [(.ticket, 50)] ∧
      (after busy (.stationWrite console 2 [50, 4, 10])).router.kitchens[(1 : KitchenId)].backlog = [] := by
  decide +kernel

/-- R157: a menu item written by MGMT_WRITE. -/
theorem test_menu_by_code :
    (after site (.mgmtWrite console 10 9 [1, 8, 0, 0xFF, 0xFF])).router.menu[(9 : Fin 256)] =
      { available := true, primary := 7, alternate := none, portions := none } := by decide +kernel

/-- Screen 1 at a DUSK cue by day. -/
theorem test_witness_GoCommand_dusk :
    let s := (withCue site 2 { trigger := .dusk, action := .level }).modSeqr fun q => { q with lux := some 21 }
    let r := s.screens[(0 : ScreenId)].seq
    s.readyFor 2 console ∧ s.runsFreely 0 ∧ ((s.currentCue 0).trigger = .dusk ∧ (s.currentCue 0).action = .level) ∧
      (∀ lux, s.seqr.lux = some lux → s.mgmt.site.dusk < lux) ∧
      (r.segBase + r.segLimit ≤ 256 ∧ r.cueIndex + 1 < r.segLimit ∧
        s.seqr.cues[(Fin.ofNat 256 (r.segBase + (r.cueIndex + 1)) : Fin 256)].trigger = .go) :=
  ⟨ready (by decide +kernel), free (by decide +kernel), by decide +kernel, fun lux h => by
    have : (some 21 : Option Nat) = some lux := h
    cases this
    decide +kernel, by decide +kernel⟩

/-- Screen 1 rests on a FOLLOW cue, on a CLOCK cue whose time is its clock, and on a GO cue with a GO pending. -/
theorem test_witness_ShowClocks_rest :
    let resting (e : CueEntry) (pending : Bool) : State :=
      (withCue site 2 e).modSeq 0 fun r => { r with resting := true, goPending := pending }
    let follow := resting { trigger := .follow, action := .level } false
    let clock := resting { trigger := .clock, time := 500, action := .level } false
    let go := resting goCue true
    let r := follow.screens[(0 : ScreenId)].seq
    (r.resting = true ∧ r.state = .running ∧ r.rehearsal = false ∧ r.cueIndex + 1 < r.segLimit ∧
      follow.seqr.cues[(Fin.ofNat 256 (r.segBase + (r.cueIndex + 1)) : Fin 256)].trigger = .go ∧
      r.goPending = false ∧ (follow.currentCue 0).trigger = .follow ∧ (follow.currentCue 0).action = .level) ∧
      ((clock.currentCue 0).trigger = .clock ∧
        (clock.currentCue 0).time ≤ clock.screens[(0 : ScreenId)].seq.clock ∧
        (clock.currentCue 0).action = .level ∧ clock.screens[(0 : ScreenId)].seq.goPending = false) ∧
      ((go.currentCue 0).trigger = .go ∧ go.screens[(0 : ScreenId)].seq.goPending = true ∧
        (go.currentCue 0).action = .level) := by decide +kernel

/-- The 479th and the 480th frame of the PROGRAMME clock, and a lost input that locks. -/
theorem test_witness_ProgrammeFrames_clock :
    let counted (n : Nat) : State := (onProgramme (heard 48 true)).modSeq 0 fun r => { r with frameCount := n }
    let lost := (heard 47 false).modScreenSound 0 fun v => { v with lost := true }
    ((counted 478).storesFit ∧ (counted 479).storesFit ∧ lost.storesFit) ∧
      ((counted 479).screens[(0 : ScreenId)].sound.locked = true ∧
        (counted 479).screens[(0 : ScreenId)].seq.state = .running ∧
        (counted 479).screens[(0 : ScreenId)].config.clockSource = .programme ∧
        (counted 478).screens[(0 : ScreenId)].seq.frameCount + 1 < 480 ∧
        ¬ (counted 479).screens[(0 : ScreenId)].seq.frameCount + 1 < 480) ∧
      (counted 479).waitsForGo 0 ∧
      (lost.screens[(0 : ScreenId)].sound.locked = false ∧ lost.sound.inputs[(0 : ScreenId)].run = 47 ∧
        lost.screens[(0 : ScreenId)].sound.lost = true) ∧ lost.hasRoom 1 :=
  ⟨⟨stored (by decide +kernel), stored (by decide +kernel), stored (by decide +kernel)⟩, by decide +kernel,
    waits (by decide +kernel), by decide +kernel, room (by decide +kernel)⟩

/-- The slew phase wraps on a LOCKED line and on an UNLOCKED one whose delay is its target. -/
theorem test_witness_SamplePeriod_slew :
    let s := (sounding.modLine 0 fun l => { l with phase := 63, write := 5 }).modLine 2 fun l =>
      { l with phase := 63, write := 3 }
    let t := s.modOutputConfig 2 fun g => { g with delayTarget := 3 }
    t.storesFit ∧
      (t.screens[(0 : ScreenId)].sound.locked = true ∧ t.sound.lines[(0 : ScreenId)].phase = 63 ∧
        t.screens[(2 : ScreenId)].sound.locked = false ∧ t.sound.lines[(2 : ScreenId)].phase = 63 ∧
        t.sound.config[outputOf 2].delayTarget = 3 ∧
        (t.sound.lines[(2 : ScreenId)].write + 9600 - t.sound.lines[(2 : ScreenId)].read) % 9600 = 3) ∧
      ∀ c : ScreenId, t.sound.lines[c].read ≤ 9599 ∧ t.sound.lines[c].write ≤ 9599 :=
  ⟨stored (by decide +kernel), by decide +kernel⟩

/-- R77: an UNLOCKED line that has reached its target stays there where the phase wraps. -/
theorem test_target_is_kept :
    let s := (site.modLine 2 fun l => { l with phase := 63, write := 3 }).modOutputConfig 2 fun g =>
      { g with delayTarget := 3 }
    (after s .samplePeriod).sound.lines[(2 : ScreenId)].delay = 3 := by decide +kernel

/-- Order numbers 14 free and 12 held; station 2 full with a returned ticket, a RUSH one and another in its backlog; items
3 and 5 of two stations, items 3 and 6 of one. -/
theorem test_witness_OrderPlace_more :
    let waiting : Kitchen := { fullKitchen with backlog := [7, 9] }
    let next (n : Nat) : State := busy.modRouter fun r =>
      { r with
        nextNumber := n, kitchens := r.kitchens.set 1 waiting
        tickets := r.tickets.set 9 (some { ticketOf 14 1 .backlog with rush := false }) }
    let both := busy.modRouter fun r =>
      { r with
        kitchens := r.kitchens.set 1 { fullKitchen with sent := 2, backlog := [] }
        menu := (r.menu.set 5 { available := true, primary := 4 }).set 6 { available := true, primary := 1 } }
    ((next 14).stranger 61 ∧ (next 12).stranger 61 ∧ both.stranger 61 ∧ both.hasRoom 3) ∧
      (∀ o ∈ (next 14).router.orders, ¬ (o.origin = (61 : Byte).toNat ∧ o.placeTag = 8)) ∧
      ((next 14).router.orders.length < 128 ∧ (next 14).screens[(0 : ScreenId)].ordering ≠ .closed ∧
        (next 14).router.menu[(3 : Fin 256)].available = true ∧ (next 14).router.menu[(3 : Fin 256)].primary = 1 ∧
        (next 14).router.kitchens[(1 : KitchenId)].state = .present ∧
        (next 14).router.kitchens[(1 : KitchenId)].limit ≤ (next 14).router.kitchens[(1 : KitchenId)].sent ∧
        (next 14).router.kitchens[(1 : KitchenId)].backlog = [7] ++ [9] ∧
        (next 14).router.tickets[(7 : TicketId)] = some (ticketOf 12 1 .backlog) ∧
        (ticketOf 12 1 .backlog).rush = true ∧
        (next 14).router.tickets[(9 : TicketId)] = some { ticketOf 14 1 .backlog with rush := false } ∧
        (next 14).router.tickets[(0 : TicketId)] = none) ∧
      (∀ o ∈ (next 14).router.orders, o.number ≠ (next 14).router.nextNumber) ∧
      ((∃ o ∈ (next 13).router.orders, o.number = (next 13).router.nextNumber) ∧
        ∀ o ∈ (next 13).router.orders, o.number ≠ 14) ∧
      5 < (2 : Byte).toNat + (4 : Byte).toNat ∧
      (both.router.kitchens[(1 : KitchenId)].backlog = [] ∧ both.router.kitchens[(4 : KitchenId)].backlog = [] ∧
        both.router.kitchens[(1 : KitchenId)].sent < both.router.kitchens[(1 : KitchenId)].limit ∧
        both.router.kitchens[(4 : KitchenId)].sent < both.router.kitchens[(4 : KitchenId)].limit ∧
        both.router.menu[(5 : Fin 256)].primary = 4 ∧ both.router.menu[(6 : Fin 256)].primary = 1 ∧
        both.router.menu[(5 : Fin 256)].portions = none ∧
        both.router.tickets[(0 : TicketId)] = none ∧ both.router.tickets[(1 : TicketId)] = none) :=
  ⟨⟨strange (by decide +kernel), strange (by decide +kernel), strange (by decide +kernel), room (by decide +kernel)⟩,
    by decide +kernel⟩

/-- R136, R138: an order for two stations makes a ticket for each, the lower station's first. -/
theorem test_two_stations :
    let s := busy.modRouter fun r =>
      { r with
        kitchens := r.kitchens.set 1 { fullKitchen with sent := 2, backlog := [] }
        menu := r.menu.set 5 { available := true, primary := 4 } }
    (after s (.orderPlace ⟨61, 8⟩ 1 [(5, 1), (3, 2)])).cell.normal.map (fun o => (o.kind, o.dest)) =
      [(.orderReply, 61), (.ticket, 50), (.ticket, 51)] := by decide +kernel

/-- R156: an ORDER read of a number that no live order holds is refused RANGE, 0 and 1,000 among them. -/
theorem test_order_read_range :
    busy.readOrder 0 = .refused busy .range ∧ busy.readOrder 1000 = .refused busy .range := ⟨rfl, rfl⟩

/-! ## Witnesses: what every step keeps -/

/-- Every screen of the busy site is coherent, with every count within its bounds. -/
theorem test_witness_EveryStepKeepsScreens : busy.screensCoherent := fun c => by
  have h : ∀ d : ScreenId,
      (busy.screens[d].config.enabled = false → busy.screens[d].seq.state = .idle) ∧
        (busy.screens[d].seq.state = .idle → busy.screens[d].seq.shown = .dark) ∧
        (busy.screens[d].seq.shown = .dark →
          busy.screens[d].field.admission = .closed ∧ busy.screens[d].ordering = .closed) ∧
        (busy.screens[d].seq.holdReason.isSome ↔ busy.screens[d].seq.state = .held) := by decide +kernel
  exact ⟨(h c).1, (h c).2.1, (h c).2.2.1, (h c).2.2.2⟩

theorem test_witness_EveryStepKeepsBounds : busy.fits where
  stores := stored (by decide +kernel)
  queue := by unfold CellProcessor.queueFits; decide +kernel
  tracker := tracked (by decide +kernel)
  tags := by unfold CellProcessor.tagsFit; decide +kernel
  announcements := fun o => by
    have h : ∀ d : OutputId, busy.ann.queues[d].size ≤ 8 ∧
        busy.ann.queues[d].waiting.Pairwise fun e f => f.priority ≤ e.priority := by decide +kernel
    exact h o
  pending := by unfold State.pendingCounted; decide +kernel
  counts := by unfold State.countsFit; decide +kernel

theorem test_witness_EveryStepKeepsRanges : busy.inRange where
  ticks := by decide +kernel
  errorLimit := by decide +kernel
  windows := fun p => by cases p <;> decide +kernel
  marks := fun c => by
    have h : ∀ d : ScreenId, busy.screens[d].config.low < busy.screens[d].config.high ∨
        (busy.screens[d].config.high = 0 ∧ busy.screens[d].config.low = 0) := by decide +kernel
    exact h c
  segments := by decide +kernel
  lines := by decide +kernel
  delays := by decide +kernel
  clips := by decide +kernel
  nextNumber := by decide +kernel

end Sys2Proof.Tests
end

/-! PROOFS. What every step keeps: screen records stay coherent (01, note after R11) and quantities stay in their ranges
(R4, R12, R18, R19, R51, R75, R76, R94, R151). Each operation of the model is shown once to keep both (`Keeps`). -/

namespace Sys2Proof.Machine

/-! ## `Keeps`: coherent records stay coherent, quantities in range stay in range -/

/-- `t` follows from `s` with no tick of the Site Timebase, and keeps what is coherent and what is in range. -/
structure Keeps (s t : State) : Prop where
  pending : t.pending = s.pending
  station : t.station = s.station
  time : t.time = s.time
  coherent : s.screensCoherent → t.screensCoherent
  ranges : s.inRange → t.inRange

theorem Keeps.refl (s : State) : Keeps s s := ⟨rfl, rfl, rfl, id, id⟩

theorem Keeps.trans {s t u : State} (h : Keeps s t) (k : Keeps t u) : Keeps s u :=
  ⟨k.pending.trans h.pending, k.station.trans h.station, k.time.trans h.time, k.coherent ∘ h.coherent,
    k.ranges ∘ h.ranges⟩

theorem Keeps.foldl {α : Type} (f : State → α → State) (h : ∀ s a, Keeps s (f s a)) (l : List α) (s : State) :
    Keeps s (l.foldl f s) := by
  induction l generalizing s with
  | nil => exact .refl s
  | cons a l ih => exact (h s a).trans (ih _)

/-- A screen record's marks and segment are in their ranges (R4, R51). -/
structure Screen.bounded (c : Screen) : Prop where
  marks : c.config.marksStand
  segment : c.seq.segBase + c.seq.segLimit ≤ 256

theorem State.inRange.bounded {s : State} (h : s.inRange) (c : ScreenId) : s.screens[c].bounded :=
  ⟨h.marks c, h.segments c⟩

/-- A screen that is not IDLE is enabled (R5). -/
theorem Screen.coherent.enabled {c : Screen} (h : c.coherent) (busy : c.seq.state ≠ .idle) : c.config.enabled = true := by
  by_contra hc
  exact busy (h.disabledIdle (Bool.eq_false_iff.2 hc))

/-- What is shown on a screen that is not IDLE is free, and so is what a screen's held calls hold. -/
theorem Screen.coherent.of_same {c d : Screen} (h : c.coherent) (config : d.config.enabled = c.config.enabled)
    (state : d.seq.state = c.seq.state) (shown : d.seq.shown = c.seq.shown) (reason : d.seq.holdReason = c.seq.holdReason)
    (admission : d.field.admission = c.field.admission) (ordering : d.ordering = c.ordering) : d.coherent := by
  refine ⟨?_, ?_, ?_, ?_⟩
  · rw [config, state]; exact h.disabledIdle
  · rw [state, shown]; exact h.idleDark
  · rw [shown, admission, ordering]; exact h.darkClosed
  · rw [reason, state]; exact h.heldReason

/-- Every screen record of `t` is that of `s`, up to fields that coherence does not read. -/
theorem State.screensCoherent.of_same {s t : State} (h : s.screensCoherent)
    (screens : ∀ c : ScreenId, t.screens[c] = { s.screens[c] with heldCalls := t.screens[c].heldCalls }) :
    t.screensCoherent := fun c => by
  rw [screens c]
  exact (h c).of_same rfl rfl rfl rfl rfl rfl

/-! ## Changes of one record -/

theorem Kept.keeps {s t : State} (h : Kept s t) : Keeps s t where
  pending := h.pending
  station := h.station
  time := h.time
  coherent hs := hs.of_same h.screens
  ranges hs :=
    { ticks := h.time ▸ hs.ticks
      errorLimit := by rw [h.mgmt]; exact hs.errorLimit
      windows := fun p => by
        have hp : t.port p = s.port p := by cases p <;> simp only [State.port, h.loop]
        exact hp ▸ hs.windows p
      marks := fun c => by rw [h.screens c]; exact hs.marks c
      segments := fun c => by rw [h.screens c]; exact hs.segments c
      lines := h.sound ▸ hs.lines
      delays := h.sound ▸ hs.delays
      clips := fun k => by rw [h.ann.clips k]; exact hs.clips k
      nextNumber := by rw [h.router.rest]; exact hs.nextNumber }

theorem Keeps.modSeqr (s : State) (f : Sequencer → Sequencer) : Keeps s (s.modSeqr f) :=
  ⟨rfl, rfl, rfl, id, fun h => { h with }⟩

theorem Keeps.modGate (s : State) (f : GateCounter → GateCounter) : Keeps s (s.modGate f) :=
  ⟨rfl, rfl, rfl, id, fun h => { h with }⟩

theorem Keeps.modLane (s : State) (l : LaneId) (f : Lane → Lane) : Keeps s (s.modLane l f) := .modGate s _

theorem Keeps.modCell (s : State) (f : CellProcessor → CellProcessor) : Keeps s (s.modCell f) :=
  ⟨rfl, rfl, rfl, id, fun h => { h with windows := fun p => by cases p <;> [exact h.windows .a; exact h.windows .b] }⟩

theorem Keeps.draw (s : State) : Keeps s s.draw := (Kept.draw s).keeps

theorem Keeps.modMgmt (s : State) (f : Management → Management)
    (h : (f s.mgmt).site.errorLimit ≤ 255 ∨ (f s.mgmt).site = s.mgmt.site) : Keeps s (s.modMgmt f) := by
  refine ⟨rfl, rfl, rfl, id, fun hs => { hs with errorLimit := ?_ }⟩
  rcases h with h | h
  · exact h
  · simpa only [State.modMgmt, h] using hs.errorLimit

/-- The next order number stays in 1..999. -/
theorem Keeps.modRouter (s : State) (f : Router → Router) (h : (f s.router).nextNumber = s.router.nextNumber) :
    Keeps s (s.modRouter f) :=
  ⟨rfl, rfl, rfl, id, fun hs => { hs with nextNumber := by simpa only [State.modRouter, h] using hs.nextNumber }⟩

theorem Keeps.modOrder (s : State) (n : Nat) (f : Order → Order) : Keeps s (s.modOrder n f) := .modRouter s _ rfl

theorem Keeps.modKitchen (s : State) (k : KitchenId) (f : Kitchen → Kitchen) : Keeps s (s.modKitchen k f) :=
  .modRouter s _ rfl

/-- A clip record or another part of the Composer changes, the regions of clips do not. -/
theorem Keeps.modAnn (s : State) (f : Composer → Composer)
    (h : ∀ k : ClipId, s.ann.clips[k].start + s.ann.clips[k].length ≤ 8388608 →
      (f s.ann).clips[k].start + (f s.ann).clips[k].length ≤ 8388608) : Keeps s (s.modAnn f) :=
  ⟨rfl, rfl, rfl, id, fun hs => { hs with clips := fun k => h k (hs.clips k) }⟩

theorem Keeps.modClip (s : State) (k : ClipId) (f : Clip → Clip)
    (h : s.ann.clips[k].start + s.ann.clips[k].length ≤ 8388608 →
      (f s.ann.clips[k]).start + (f s.ann.clips[k]).length ≤ 8388608) : Keeps s (s.modClip k f) := by
  refine .modAnn s _ fun j hj => ?_
  simp only [Fin.getElem_fin, Vector.getElem_set]
  split
  · next e => cases Fin.ext e; exact h hj
  · exact hj

/-- The Sound Path changes, its lines' positions and its delay targets stay in range. -/
theorem Keeps.modSound (s : State) (f : SoundPath → SoundPath)
    (lines : ∀ c : ScreenId, s.sound.lines[c].inRing → (f s.sound).lines[c].inRing)
    (delays : ∀ o : OutputId, s.sound.config[o].delayTarget ≤ 9599 → (f s.sound).config[o].delayTarget ≤ 9599) :
    Keeps s (s.modSound f) := by
  refine ⟨rfl, rfl, rfl, id, fun hs => { hs with lines := fun c => ?_, delays := fun o => delays o (hs.delays o) }⟩
  obtain ⟨hw, hr⟩ := hs.lines c
  obtain ⟨kr, kw⟩ := lines c ⟨Nat.lt_succ_of_le hr, Nat.lt_succ_of_le hw⟩
  exact ⟨Nat.le_of_lt_succ kw, Nat.le_of_lt_succ kr⟩

theorem Keeps.modInput (s : State) (c : ScreenId) (f : ProgInput → ProgInput) : Keeps s (s.modInput c f) :=
  .modSound s _ (fun _ => id) fun _ => id

theorem Keeps.modTransmitter (s : State) (c : ScreenId) (f : Transmitter → Transmitter) :
    Keeps s (s.modTransmitter c f) := .modSound s _ (fun _ => id) fun _ => id

theorem Keeps.modOutput (s : State) (o : OutputId) (f : OutputState → OutputState) : Keeps s (s.modOutput o f) :=
  .modSound s _ (fun _ => id) fun _ => id

theorem Keeps.modOutputConfig (s : State) (o : OutputId) (f : OutputConfig → OutputConfig)
    (h : s.sound.config[o].delayTarget ≤ 9599 → (f s.sound.config[o]).delayTarget ≤ 9599) :
    Keeps s (s.modOutputConfig o f) := by
  refine .modSound s _ (fun _ => id) fun d hd => ?_
  simp only [Fin.getElem_fin, Vector.getElem_set]
  split
  · next e => cases Fin.ext e; exact h hd
  · exact hd

theorem Keeps.modLine (s : State) (c : ScreenId) (f : DelayLine → DelayLine)
    (h : s.sound.lines[c].inRing → (f s.sound.lines[c]).inRing) : Keeps s (s.modLine c f) := by
  refine .modSound s _ (fun d hd => ?_) fun _ => id
  simp only [Fin.getElem_fin, Vector.getElem_set]
  split
  · next e => cases Fin.ext e; exact h hd
  · exact hd

theorem Keeps.modScreen (s : State) (c : ScreenId) (f : Screen → Screen)
    (coherent : s.screens[c].coherent → (f s.screens[c]).coherent)
    (bounded : s.screens[c].bounded → (f s.screens[c]).bounded) : Keeps s (s.modScreen c f) := by
  have key {P : Screen → Prop} (hs : ∀ d : ScreenId, P s.screens[d]) (hc : P (f s.screens[c])) (d : ScreenId) :
      P (s.modScreen c f).screens[d] := by
    simp only [Fin.getElem_fin, State.modScreen_get]
    split
    · exact hc
    · exact hs d
  refine ⟨rfl, rfl, rfl, fun hs => key hs (coherent (hs c)), fun hs => ?_⟩
  have hb := key (P := Screen.bounded) hs.bounded (bounded (hs.bounded c))
  exact { hs with marks := fun d => (hb d).marks, segments := fun d => (hb d).segment }

/-- A change of the field counts that leaves admission as it is. -/
theorem Keeps.modField (s : State) (c : ScreenId) (f : FieldCounts → FieldCounts)
    (h : (f s.screens[c].field).admission = s.screens[c].field.admission) : Keeps s (s.modField c f) :=
  .modScreen s c _ (fun hc => hc.of_same rfl rfl rfl rfl h rfl) fun hb => ⟨hb.marks, hb.segment⟩

theorem Keeps.modScreenSound (s : State) (c : ScreenId) (f : ScreenSound → ScreenSound) :
    Keeps s (s.modScreenSound c f) :=
  .modScreen s c _ (fun hc => hc.of_same rfl rfl rfl rfl rfl rfl) fun hb => ⟨hb.marks, hb.segment⟩

/-- The loop ports change, their window counts stay in range (R19). -/
theorem Keeps.modLoop (s : State) (f : LoopPorts → LoopPorts)
    (a : s.loop.portA.window ≤ 254 → (f s.loop).portA.window ≤ 254)
    (b : s.loop.portB.window ≤ 254 → (f s.loop).portB.window ≤ 254) : Keeps s (s.modLoop f) := by
  refine ⟨rfl, rfl, rfl, id, fun hs => { hs with windows := fun p => ?_ }⟩
  cases p
  · exact a (hs.windows .a)
  · exact b (hs.windows .b)

theorem Keeps.modPort (s : State) (p : PortId) (f : Port → Port)
    (h : (s.port p).window ≤ 254 → (f (s.port p)).window ≤ 254) : Keeps s (s.modPort p f) := by
  cases p
  · exact .modLoop s (fun l => { l with portA := f l.portA }) h id
  · exact .modLoop s (fun l => { l with portB := f l.portB }) id h

end Sys2Proof.Machine

namespace Sys2Proof.Machine

/-! ## Field flags and lanes (07) -/

theorem State.raise_keeps (s : State) (e : Event) (n v : Nat) (c : Option ScreenId) : Keeps s (s.raise e n v c) :=
  (s.raise_kept e n v c).keeps

theorem State.judgeFull_keeps (s : State) (c : ScreenId) : Keeps s (s.judgeFull c) := by
  unfold State.judgeFull
  split
  · exact (Keeps.modField s c _ rfl).trans (State.raise_keeps _ _ _ _ _)
  · split
    · exact .modField s c _ rfl
    · exact .refl s

theorem State.judgeNearFull_keeps (s : State) (c : ScreenId) : Keeps s (s.judgeNearFull c) := by
  unfold State.judgeNearFull
  simp only
  split
  · exact (Keeps.modField s c _ rfl).trans (State.raise_keeps _ _ _ _ _)
  · split
    · exact (Keeps.modField s c _ rfl).trans (State.raise_keeps _ _ _ _ _)
    · exact .refl s

theorem State.judgeFlags_keeps (s : State) (c : ScreenId) : Keeps s (s.judgeFlags c) :=
  (s.judgeNearFull_keeps c).trans (State.judgeFull_keeps _ c)

theorem State.flagUncertain_keeps (s : State) (c : ScreenId) : Keeps s (s.flagUncertain c) := by
  unfold State.flagUncertain
  split
  · exact .refl s
  · exact (Keeps.modField s c _ rfl).trans (State.raise_keeps _ _ _ _ _)

theorem State.laneSeen_keeps (s : State) (n : Nat) : Keeps s (s.laneSeen n) := by
  unfold State.laneSeen
  split
  · exact .refl s
  · exact .modLane s _ _

theorem State.cellSeen_keeps (s : State) (source : Byte) : Keeps s (s.cellSeen source) :=
  (s.laneSeen_keeps _).trans (State.kitchenSeen_kept _ _).keeps

theorem State.grant_keeps (s : State) (c : ScreenId) (l : LaneId) (v : Vehicle) : Keeps s (s.grant c l v) :=
  ((Keeps.modLane s l _).trans (.modField _ c _ rfl)).trans (State.judgeFull_keeps _ c)

theorem State.handUrgent_keeps {s t : State} {o : OwnCell} {a : HandOver} (h : s.handUrgent o = (t, a)) : Keeps s t := by
  have := s.handUrgent_kept o
  rw [h] at this
  exact this.keeps

theorem State.handNormal_keeps {s t : State} {o : OwnCell} {a : HandOver} (h : s.handNormal o = (t, a)) : Keeps s t := by
  have := s.handNormal_kept o
  rw [h] at this
  exact this.keeps

theorem State.takeAdmitAsk_keeps (s : State) (m : Sender) (screen vehicle : Byte) :
    Keeps s (s.takeAdmitAsk m screen vehicle) := by
  unfold State.takeAdmitAsk
  simp only
  split
  · next h _ => exact (State.handUrgent_keeps h).trans (State.grant_keeps _ _ _ _)
  · next h _ => exact State.handUrgent_keeps h

theorem State.clearPending_keeps (s : State) (l : LaneId) (p : PendingAdmission) : Keeps s (s.clearPending l p) :=
  (Keeps.modLane s l _).trans (.modField _ p.screen _ rfl)

theorem State.passExpires_keeps (s : State) (l : LaneId) : Keeps s (s.passExpires l) := by
  unfold State.passExpires
  split
  · exact .refl s
  · exact ((s.clearPending_keeps l _).trans (.modField _ _ _ rfl)).trans (State.judgeFull_keeps _ _)

theorem State.silenceExpires_keeps (s : State) (l : LaneId) : Keeps s (s.silenceExpires l) := by
  unfold State.silenceExpires
  simp only
  split
  · exact .refl s
  · have silent := (Keeps.modLane s l fun n => { n with state := .silent, silenceTimer := none }).trans
      (State.raise_keeps _ .laneSilent (numberOf l) s.gate.lanes[l].station none)
    split
    · exact silent.trans (State.flagUncertain_keeps _ _)
    · next p _ =>
      have flagged := ((silent.trans (State.clearPending_keeps _ l p)).trans (State.judgeFull_keeps _ p.screen)).trans
        (State.flagUncertain_keeps _ s.gate.lanes[l].home)
      split
      · exact flagged
      · exact flagged.trans (State.flagUncertain_keeps _ _)

theorem State.enters_keeps (s : State) (l : LaneId) (v : Vehicle) : Keeps s (s.enters l v) := by
  unfold State.enters
  split
  · exact ((s.clearPending_keeps l _).trans (.modField _ _ _ rfl)).trans (State.judgeFlags_keeps _ _)
  · exact (Keeps.modField s _ _ rfl).trans (State.judgeFlags_keeps _ _)

theorem State.backsOut_keeps (s : State) (l : LaneId) : Keeps s (s.backsOut l) := by
  unfold State.backsOut
  split
  · exact (s.clearPending_keeps l _).trans (State.judgeFull_keeps _ _)
  · exact .modGate s _

theorem State.exits_keeps (s : State) (l : LaneId) (v : Vehicle) : Keeps s (s.exits l v) :=
  (Keeps.modField s _ _ rfl).trans (State.judgeFlags_keeps _ _)

theorem State.takePassage_keeps (s : State) (source : Byte) (p : Option Passage) (vehicle : Byte) :
    Keeps s (s.takePassage source p vehicle) := by
  unfold State.takePassage
  split
  · split
    · exact s.enters_keeps _ _
    · exact s.backsOut_keeps _
    · exact s.exits_keeps _ _
    · exact .modGate s _
  · exact .modGate s _

/-! ## Orders (08) -/

theorem State.replyOrder_keeps (s : State) (m : Sender) (v : PlaceVerdict) : Keeps s (s.replyOrder m v) := by
  unfold State.replyOrder
  split
  · next h => exact State.handNormal_keeps h
  · next h => exact (State.handNormal_keeps h).trans (.modRouter _ _ rfl)

theorem State.joinBacklog_keeps (s : State) (k : KitchenId) (t : TicketId) : Keeps s (s.joinBacklog k t) :=
  .modKitchen s k _

theorem State.makeTicket_keeps (n : Nat) (rush : Bool) (s : State) (t : TicketId × KitchenId × List OrderLine) :
    Keeps s (State.makeTicket n rush s t) :=
  (Kept.of_ticket s t.1 _).keeps.trans (State.joinBacklog_keeps _ _ _)

theorem nextOrderNumber_range (n : Nat) : 1 ≤ nextOrderNumber n ∧ nextOrderNumber n ≤ 999 := by
  unfold nextOrderNumber
  split <;> omega

/-- R136: the order entered takes the number before the next one, which stays in 1..999. -/
theorem State.enterOrder_keeps (s : State) (m : Sender) (screen : Option ScreenId) (lines : List OrderLine)
    (chosen : List KitchenId) (n : Nat) : Keeps s (s.enterOrder m screen lines chosen n) := by
  have portions := Keeps.foldl State.takePortions (fun s l => .modRouter s _ rfl) lines s
  refine (portions.trans ?_).trans (.foldl _ (State.makeTicket_keeps n _) _ _)
  exact ⟨rfl, rfl, rfl, id, fun hs => { hs with nextNumber := nextOrderNumber_range n }⟩

theorem State.takeOrderPlace_keeps (s : State) (m : Sender) (screen : Byte) (raw : List (Byte × Byte)) :
    Keeps s (s.takeOrderPlace m screen raw) := by
  unfold State.takeOrderPlace
  simp only
  split
  · exact (Keeps.modRouter s _ rfl).trans (State.replyOrder_keeps _ _ _)
  · split
    · exact (Keeps.modRouter s _ rfl).trans (State.replyOrder_keeps _ _ _)
    · exact ((s.enterOrder_keeps _ _ _ _ _).trans (State.replyOrder_keeps _ _ _)).trans
        (.foldl _ (fun s k => (s.dispatch_kept k).keeps) _ _)

theorem State.tellBoard_keeps (s : State) (o : Order) (b : BoardState) : Keeps s (s.tellBoard o b) := by
  unfold State.tellBoard
  split
  · exact .refl s
  · split
    · next h => exact State.handNormal_keeps h
    · next h => exact (State.handNormal_keeps h).trans (.modRouter _ _ rfl)

theorem State.callOrder_keeps (s : State) (o : Order) : Keeps s (s.callOrder o) :=
  (((Keeps.modOrder s _ _).trans (State.announce_kept _ _).keeps).trans (.modOrder _ _ _)).trans
    (State.tellBoard_keeps _ _ _)

theorem State.freeOrder_keeps (s : State) (o : Order) : Keeps s (s.freeOrder o) :=
  (Keeps.foldl _ (fun s t => (Kept.of_ticket s t none).keeps) _ s).trans (.modRouter _ _ rfl)

theorem State.abandon_keeps (s : State) (o : Order) : Keeps s (s.abandon o) :=
  (((Keeps.modRouter s _ rfl).trans (State.raise_keeps _ _ _ _ _)).trans (State.tellBoard_keeps _ _ _)).trans
    (State.freeOrder_keeps _ _)

theorem State.recallExpires_keeps (s : State) (n : Nat) : Keeps s (s.recallExpires n) := by
  unfold State.recallExpires
  split
  · exact .refl s
  · split
    · split
      · exact s.callOrder_keeps _
      · exact s.abandon_keeps _
    · exact .refl s

theorem State.bumpTicket_keeps (s : State) (o : Order) (k : KitchenId) (t : TicketId) : Keeps s (s.bumpTicket o k t) := by
  have bumped := ((Kept.of_modTicket s t fun v => { v with state := .bumped, lateTimer := none }).keeps.trans
    (.modKitchen _ k fun st => { st with sent := st.sent - 1 })).trans (State.dispatch_kept _ k).keeps
  unfold State.bumpTicket
  simp only
  split
  · exact (bumped.trans (.modOrder _ _ _)).trans (State.callOrder_keeps _ _)
  · exact bumped

theorem State.takeBump_keeps (s : State) (source : Byte) (n : Half) (kitchen : Byte) :
    Keeps s (s.takeBump source n kitchen) := by
  unfold State.takeBump
  simp only
  split
  · exact .modRouter s _ rfl
  · split
    · split
      · exact .modRouter s _ rfl
      · split
        · exact .modRouter s _ rfl
        · exact s.bumpTicket_keeps _ _ _
    · exact .modRouter s _ rfl

theorem State.lateExpires_keeps (s : State) (t : TicketId) : Keeps s (s.lateExpires t) := by
  unfold State.lateExpires
  split
  · exact .refl s
  · split
    · have expired := (Kept.of_modTicket s t fun v => { v with lateTimer := none }).keeps
      simp only
      split
      · exact expired
      · split
        · exact expired
        · exact (expired.trans (.modOrder _ _ _)).trans (State.raise_keeps _ _ _ _ _)
    · exact .refl s

theorem State.lateOf_keeps (s : State) (n : Nat) (k : KitchenId) : Keeps s (s.lateOf n k) := by
  unfold State.lateOf
  split
  · exact .refl s
  · split
    · exact .refl s
    · exact s.lateExpires_keeps _

theorem State.takePickup_keeps (s : State) (source : Byte) (n : Half) : Keeps s (s.takePickup source n) := by
  unfold State.takePickup
  split
  · split
    · split
      · exact ((s.withdrawCalls_kept _).keeps.trans (State.tellBoard_keeps _ _ _)).trans (State.freeOrder_keeps _ _)
      · exact .modRouter s _ rfl
    · exact .modRouter s _ rfl
  · exact .modRouter s _ rfl

theorem State.sendVoid_keeps (s : State) (o : Order) (k : KitchenId) (t : TicketId) : Keeps s (s.sendVoid o k t) := by
  unfold State.sendVoid
  split
  · next h => exact State.handNormal_keeps h
  · next h => exact (State.handNormal_keeps h).trans (.modRouter _ _ rfl)

theorem State.cancelTicket_keeps (o : Order) (s : State) (t : TicketId) : Keeps s (State.cancelTicket o s t) := by
  have freed := (Kept.of_ticket s t none).keeps
  unfold State.cancelTicket
  split
  · exact .refl s
  · split
    · exact (freed.trans (.modKitchen _ _ _)).trans (.foldl _ (fun s l => .modRouter s _ rfl) _ _)
    · exact ((freed.trans (.modKitchen _ _ _)).trans (State.sendVoid_keeps _ _ _ _)).trans
        (State.dispatch_kept _ _).keeps
    · exact freed

theorem State.doCancel_keeps (s : State) (n : Half) : Keeps s (s.doCancel n).1 := by
  unfold State.doCancel
  split
  · exact .refl s
  · exact (((Keeps.foldl _ (State.cancelTicket_keeps _) _ s).trans (State.withdrawCalls_kept _ _).keeps).trans
      (State.tellBoard_keeps _ _ _)).trans (State.freeOrder_keeps _ _)

end Sys2Proof.Machine

namespace Sys2Proof.Machine

/-! ## `Staged`: what the Show Sequencer leaves as it is (04) -/

/-- What cue runs, operator commands and failure holds leave: the ports, the gate, the inputs and transmitters, the sky,
the tracker and what is bounded; a coherent site stays coherent. -/
structure Staged (s t : State) : Prop where
  pending : t.pending = s.pending
  station : t.station = s.station
  time : t.time = s.time
  loop : t.loop = s.loop
  gate : t.gate = s.gate
  inputs : t.sound.inputs = s.sound.inputs
  transmitters : t.sound.transmitters = s.sound.transmitters
  lines : t.sound.lines = s.sound.lines
  delays : ∀ o : OutputId, t.sound.config[o].delayTarget = s.sound.config[o].delayTarget
  sky : t.seqr.skyTimer = s.seqr.skyTimer ∧ t.seqr.lux = s.seqr.lux
  configs : ∀ c : ScreenId, t.screens[c].config = s.screens[c].config
  sounds : ∀ c : ScreenId, t.screens[c].sound = s.screens[c].sound
  segments : ∀ c : ScreenId,
    t.screens[c].seq.segBase = s.screens[c].seq.segBase ∧ t.screens[c].seq.segLimit = s.screens[c].seq.segLimit
  site : t.mgmt.site = s.mgmt.site
  tracker : t.cell.tracker = s.cell.tracker
  clips : ∀ k : ClipId, t.ann.clips[k].start = s.ann.clips[k].start ∧ t.ann.clips[k].length = s.ann.clips[k].length
  nextNumber : t.router.nextNumber = s.router.nextNumber
  coherent : s.screensCoherent → t.screensCoherent

theorem Staged.refl (s : State) : Staged s s where
  pending := rfl
  station := rfl
  time := rfl
  loop := rfl
  gate := rfl
  inputs := rfl
  transmitters := rfl
  lines := rfl
  delays _ := rfl
  sky := ⟨rfl, rfl⟩
  configs _ := rfl
  sounds _ := rfl
  segments _ := ⟨rfl, rfl⟩
  site := rfl
  tracker := rfl
  clips _ := ⟨rfl, rfl⟩
  nextNumber := rfl
  coherent := id

theorem Staged.trans {s t u : State} (h : Staged s t) (k : Staged t u) : Staged s u where
  pending := k.pending.trans h.pending
  station := k.station.trans h.station
  time := k.time.trans h.time
  loop := k.loop.trans h.loop
  gate := k.gate.trans h.gate
  inputs := k.inputs.trans h.inputs
  transmitters := k.transmitters.trans h.transmitters
  lines := k.lines.trans h.lines
  delays o := (k.delays o).trans (h.delays o)
  sky := ⟨k.sky.1.trans h.sky.1, k.sky.2.trans h.sky.2⟩
  configs c := (k.configs c).trans (h.configs c)
  sounds c := (k.sounds c).trans (h.sounds c)
  segments c := ⟨(k.segments c).1.trans (h.segments c).1, (k.segments c).2.trans (h.segments c).2⟩
  site := k.site.trans h.site
  tracker := k.tracker.trans h.tracker
  clips i := ⟨(k.clips i).1.trans (h.clips i).1, (k.clips i).2.trans (h.clips i).2⟩
  nextNumber := k.nextNumber.trans h.nextNumber
  coherent := k.coherent ∘ h.coherent

theorem Staged.foldl {α : Type} (f : State → α → State) (h : ∀ s a, Staged s (f s a)) (l : List α) (s : State) :
    Staged s (l.foldl f s) := by
  induction l generalizing s with
  | nil => exact .refl s
  | cons a l ih => exact (h s a).trans (ih _)

theorem Kept.staged {s t : State} (h : Kept s t) : Staged s t where
  pending := h.pending
  station := h.station
  time := h.time
  loop := h.loop
  gate := h.gate
  inputs := by rw [h.sound]
  transmitters := by rw [h.sound]
  lines := by rw [h.sound]
  delays _ := by rw [h.sound]
  sky := by rw [h.seqr]; exact ⟨rfl, rfl⟩
  configs c := by rw [h.screens c]
  sounds c := by rw [h.screens c]
  segments c := by rw [h.screens c]; exact ⟨rfl, rfl⟩
  site := by rw [h.mgmt]
  tracker := by rw [h.cell.rest]
  clips k := by rw [h.ann.clips k]; exact ⟨rfl, rfl⟩
  nextNumber := by rw [h.router.rest]
  coherent := h.keeps.coherent

theorem Staged.keeps {s t : State} (h : Staged s t) : Keeps s t where
  pending := h.pending
  station := h.station
  time := h.time
  coherent := h.coherent
  ranges hs :=
    { ticks := h.time ▸ hs.ticks
      errorLimit := h.site ▸ hs.errorLimit
      windows := fun p => by
        have hp : t.port p = s.port p := by cases p <;> simp only [State.port, h.loop]
        exact hp ▸ hs.windows p
      marks := fun c => by rw [h.configs c]; exact hs.marks c
      segments := fun c => by rw [(h.segments c).1, (h.segments c).2]; exact hs.segments c
      lines := h.lines ▸ hs.lines
      delays := fun o => by rw [h.delays o]; exact hs.delays o
      clips := fun k => by rw [(h.clips k).1, (h.clips k).2]; exact hs.clips k
      nextNumber := h.nextNumber ▸ hs.nextNumber }

/-- A change of the Show Sequencer's pool or counters. -/
theorem Staged.modSeqr (s : State) (f : Sequencer → Sequencer) (timer : (f s.seqr).skyTimer = s.seqr.skyTimer)
    (lux : (f s.seqr).lux = s.seqr.lux) : Staged s (s.modSeqr f) :=
  { Staged.refl s with sky := ⟨timer, lux⟩, coherent := id }

/-- A change of one screen record that stays coherent and keeps its configuration, sound and segment. -/
theorem Staged.modScreen (s : State) (c : ScreenId) (f : Screen → Screen)
    (config : (f s.screens[c]).config = s.screens[c].config) (sound : (f s.screens[c]).sound = s.screens[c].sound)
    (base : (f s.screens[c]).seq.segBase = s.screens[c].seq.segBase)
    (limit : (f s.screens[c]).seq.segLimit = s.screens[c].seq.segLimit)
    (coherent : s.screens[c].coherent → (f s.screens[c]).coherent) : Staged s (s.modScreen c f) := by
  have key {P : Screen → Screen → Prop} (same : ∀ v, P v v) (hc : P (f s.screens[c]) s.screens[c]) (d : ScreenId) :
      P (s.modScreen c f).screens[d] s.screens[d] := by
    simp only [Fin.getElem_fin, State.modScreen_get]
    split
    · next e => cases Fin.ext e; exact hc
    · exact same _
  exact
    { Staged.refl s with
      configs := key (P := fun v w => v.config = w.config) (fun _ => rfl) config
      sounds := key (P := fun v w => v.sound = w.sound) (fun _ => rfl) sound
      segments := key (P := fun v w => v.seq.segBase = w.seq.segBase ∧ v.seq.segLimit = w.seq.segLimit)
        (fun _ => ⟨rfl, rfl⟩) ⟨base, limit⟩
      coherent := fun hs d =>
        key (P := fun v w => w.coherent → v.coherent) (fun _ => id) coherent d (hs d) }

/-- A change of one show record that stays coherent and keeps its segment. -/
theorem Staged.modSeq (s : State) (c : ScreenId) (f : ShowRecord → ShowRecord)
    (base : (f s.screens[c].seq).segBase = s.screens[c].seq.segBase)
    (limit : (f s.screens[c].seq).segLimit = s.screens[c].seq.segLimit)
    (coherent : s.screens[c].coherent → { s.screens[c] with seq := f s.screens[c].seq }.coherent) :
    Staged s (s.modSeq c f) := .modScreen s c _ rfl rfl base limit coherent

/-- A change of a show record that coherence does not read. -/
theorem Staged.modSeq_same (s : State) (c : ScreenId) (f : ShowRecord → ShowRecord)
    (base : (f s.screens[c].seq).segBase = s.screens[c].seq.segBase)
    (limit : (f s.screens[c].seq).segLimit = s.screens[c].seq.segLimit)
    (state : (f s.screens[c].seq).state = s.screens[c].seq.state)
    (shown : (f s.screens[c].seq).shown = s.screens[c].seq.shown)
    (reason : (f s.screens[c].seq).holdReason = s.screens[c].seq.holdReason) : Staged s (s.modSeq c f) :=
  .modSeq s c f base limit fun h => h.of_same rfl state shown reason rfl rfl

/-! ## Show states -/

/-- R10: a screen that comes to show DARK has its admission and ordering CLOSED. -/
def Screen.darkened (v : Screen) : Screen :=
  { v with seq := { v.seq with shown := .dark }, field := { v.field with admission := .closed }, ordering := .closed }

/-- Table 1-1: what R62 sets as the sequencer enters IDLE. -/
def ShowRecord.idled (r : ShowRecord) (index : Nat) : ShowRecord :=
  { r with
    state := .idle, goPending := false, rehearsal := false, resting := false, pausedByHold := false
    holdReason := none, cueIndex := index }

theorem Screen.darkened_idled_coherent (v : Screen) (index : Nat) :
    { v.darkened with seq := v.darkened.seq.idled index }.coherent where
  disabledIdle _ := rfl
  idleDark _ := rfl
  darkClosed _ := ⟨rfl, rfl⟩
  heldReason := by simp [ShowRecord.idled]

/-- Two changes of one screen record after each other. -/
theorem State.modScreen_modScreen (s : State) (c : ScreenId) (f g : Screen → Screen) :
    (s.modScreen c f).modScreen c g = s.modScreen c (g ∘ f) := by
  simp [State.modScreen]

/-- R10: the reactions to a change of show state that follow the change of the record. -/
def State.showReactions (s : State) (c : ScreenId) (old new : ShowState) : State :=
  (if old = .feature then s.releaseHeld c else s).raise .showState (numberOf c) new.code (some c)

theorem State.showReactions_kept (s : State) (c : ScreenId) (old new : ShowState) : Kept s (s.showReactions c old new) := by
  unfold State.showReactions
  split
  · exact (s.releaseHeld_kept c).trans (State.raise_kept _ _ _ _ _)
  · exact State.raise_kept _ _ _ _ _

/-- R10: a change of show state to DARK, and to another state. -/
theorem State.changeShow_same (s : State) (c : ScreenId) (new : ShowState) (h : s.screens[c].seq.shown = new) :
    s.changeShow c new = s := by
  simp only [State.changeShow, if_pos h]

theorem State.changeShow_dark (s : State) (c : ScreenId) (h : s.screens[c].seq.shown ≠ .dark) :
    s.changeShow c .dark = (s.modScreen c Screen.darkened).showReactions c s.screens[c].seq.shown .dark := by
  simp only [State.changeShow, if_neg h, if_true, State.modSeq, State.modField, State.setOrderingState,
    State.modScreen_modScreen]
  rfl

theorem State.changeShow_lit (s : State) (c : ScreenId) (new : ShowState) (h : s.screens[c].seq.shown ≠ new)
    (lit : new ≠ .dark) :
    s.changeShow c new =
      (s.modSeq c fun r => { r with shown := new }).showReactions c s.screens[c].seq.shown new := by
  simp only [State.changeShow, if_neg h, if_neg lit]
  rfl

/-- R9, R10: a running show changes what its screen shows. -/
theorem State.changeShow_staged (s : State) (c : ScreenId) (new : ShowState) (busy : s.screens[c].seq.state ≠ .idle) :
    Staged s (s.changeShow c new) := by
  by_cases h : s.screens[c].seq.shown = new
  · rw [s.changeShow_same c new h]
    exact .refl s
  · by_cases lit : new = .dark
    · subst lit
      rw [s.changeShow_dark c h]
      exact (Staged.modScreen s c _ rfl rfl rfl rfl fun hc =>
        ⟨hc.disabledIdle, fun _ => rfl, fun _ => ⟨rfl, rfl⟩, hc.heldReason⟩).trans (State.showReactions_kept _ _ _ _).staged
    · rw [s.changeShow_lit c new h lit]
      exact (Staged.modSeq s c _ rfl rfl fun hc =>
        ⟨hc.disabledIdle, fun hi => absurd hi busy, fun hd => absurd hd lit, hc.heldReason⟩).trans
        (State.showReactions_kept _ _ _ _).staged

/-- R62: the sequencer enters IDLE, the screen DARK: the record, then the reactions to a change from a lit state. -/
theorem State.toIdle_dark (s : State) (c : ScreenId) (index : Nat) (h : s.screens[c].seq.shown = .dark) :
    s.toIdle c index = s.modSeq c (·.idled index) := by
  rw [show s.toIdle c index = (s.modSeq c (·.idled index)).changeShow c .dark from rfl]
  refine State.changeShow_same _ c .dark ?_
  simpa [State.modSeq, ShowRecord.idled] using h

theorem State.toIdle_lit (s : State) (c : ScreenId) (index : Nat) (h : s.screens[c].seq.shown ≠ .dark) :
    s.toIdle c index =
      (s.modScreen c fun v => { v.darkened with seq := v.darkened.seq.idled index }).showReactions c
        s.screens[c].seq.shown .dark := by
  rw [show s.toIdle c index = (s.modSeq c (·.idled index)).changeShow c .dark from rfl]
  have hs : (s.modSeq c (·.idled index)).screens[c].seq.shown = s.screens[c].seq.shown := by
    simp [State.modSeq, ShowRecord.idled]
  rw [State.changeShow_dark _ c (hs ▸ h), hs, State.modSeq, State.modScreen_modScreen]
  rfl

theorem State.toIdle_staged (s : State) (c : ScreenId) (index : Nat) : Staged s (s.toIdle c index) := by
  by_cases h : s.screens[c].seq.shown = .dark
  · rw [s.toIdle_dark c index h]
    exact .modSeq s c _ rfl rfl fun hc =>
      ⟨fun _ => rfl, fun _ => h, fun _ => hc.darkClosed h, by simp [ShowRecord.idled]⟩
  · rw [s.toIdle_lit c index h]
    exact (Staged.modScreen s c _ rfl rfl rfl rfl fun _ => Screen.darkened_idled_coherent _ index).trans
      (State.showReactions_kept _ _ _ _).staged

/-! ## Cues -/

theorem State.sendProj_staged (s : State) (c : ScreenId) (command argument : Nat) :
    Staged s (s.sendProj c command argument) := by
  have hu := s.handUrgent_kept (s.projCell c command argument)
  unfold State.sendProj
  split
  · exact .modSeqr s _ rfl rfl
  · split
    · next h => rw [h] at hu; exact hu.staged
    · next h => rw [h] at hu; exact (hu.trans (State.projUnanswered_kept _ _)).staged

/-- R59: admission opens only on a screen that is not DARK. -/
theorem State.admitAction_staged (s : State) (c : ScreenId) (a : Admission) : Staged s (s.admitAction c a) := by
  unfold State.admitAction
  split
  · exact .modSeqr s _ rfl rfl
  · next h =>
    refine .modScreen s c _ rfl rfl rfl rfl fun hc => ⟨hc.disabledIdle, hc.idleDark, fun hd => ⟨?_, (hc.darkClosed hd).2⟩,
      hc.heldReason⟩
    cases a
    · rfl
    · exact absurd ⟨rfl, hd⟩ h

theorem State.ordersAction_staged (s : State) (c : ScreenId) (o : OrderingState) : Staged s (s.ordersAction c o) := by
  unfold State.ordersAction
  split
  · exact .modSeqr s _ rfl rfl
  · next h =>
    refine .modScreen s c _ rfl rfl rfl rfl fun hc => ⟨hc.disabledIdle, hc.idleDark, fun hd => ⟨(hc.darkClosed hd).1, ?_⟩,
      hc.heldReason⟩
    by_contra ho
    exact h ⟨ho, hd⟩

theorem State.loopAction_staged (s : State) (c : ScreenId) (target count : Nat) :
    Staged s (s.loopAction c target count).1 := by
  unfold State.loopAction
  simp only
  split
  · exact Staged.modSeqr s (fun q => { q with loopTargetBelow := bump16 q.loopTargetBelow }) rfl rfl
  · split
    · split
      · exact Staged.modSeq_same s c (fun r => { r with goPending := false }) rfl rfl rfl rfl rfl
      · exact .refl s
    · split
      · exact .refl s
      · exact Staged.modSeqr s (fun q => { q with loopCounters := q.loopCounters.set (s.currentEntry c) _ }) rfl rfl

theorem Staged.modGainTarget (s : State) (o : OutputId) (n : Nat) :
    Staged s (s.modOutputConfig o fun v => { v with gainTarget := n }) := by
  refine { Staged.refl s with delays := fun d => ?_, coherent := id }
  simp only [Fin.getElem_fin, State.modOutputConfig_get]
  split
  · next e => cases Fin.ext e; rfl
  · rfl

/-- R58 to R62: the action of a cue, taken by a show that runs. -/
theorem State.act_staged (s : State) (c : ScreenId) (busy : s.screens[c].seq.state ≠ .idle) : Staged s (s.act c).1 := by
  unfold State.act
  simp only
  split
  · split
    · exact s.changeShow_staged c _ busy
    · exact .refl s
  · exact s.sendProj_staged c _ _
  · split
    · exact (s.announce_kept _).staged
    · exact .refl s
  · exact .modGainTarget s _ _
  · split
    · exact s.admitAction_staged c _
    · exact .refl s
  · split
    · exact s.ordersAction_staged c _
    · exact .refl s
  · exact s.loopAction_staged c _ _
  · exact s.toIdle_staged c _

theorem State.beforeFiring_staged (s : State) (c : ScreenId) (t : CueTest) : Staged s (s.beforeFiring c t) := by
  have taken : Staged s (if t = .firesOnPending then s.modSeq c fun r => { r with goPending := false } else s) := by
    split
    · exact .modSeq_same s c _ rfl rfl rfl rfl rfl
    · exact .refl s
  unfold State.beforeFiring
  simp only
  split
  · exact taken.trans (.modSeqr _ _ rfl rfl)
  · exact taken

theorem State.beforeFiring_state (s : State) (c : ScreenId) (t : CueTest) :
    (s.beforeFiring c t).screens[c].seq.state = s.screens[c].seq.state := by
  unfold State.beforeFiring
  simp only
  split <;> split <;> simp [State.modSeq, State.modSeqr]

theorem State.moveOn_staged (s : State) (c : ScreenId) (f : Flow) : Staged s (s.moveOn c f) := by
  unfold State.moveOn
  simp only
  split
  · exact .refl s
  · exact .modSeq_same s c _ rfl rfl rfl rfl rfl
  · split
    · exact s.toIdle_staged c _
    · exact .modSeq_same s c _ rfl rfl rfl rfl rfl

/-- A RUNNING show HELD for a reason. -/
theorem Staged.hold (s : State) (c : ScreenId) (reason : HoldReason) (running : s.screens[c].seq.state = .running) :
    Staged s (s.modSeq c fun r => { r with state := .held, holdReason := some reason }) := by
  have busy : s.screens[c].seq.state ≠ .idle := by rw [running]; exact nofun
  exact .modSeq s c _ rfl rfl fun hc =>
    ⟨fun he => absurd (hc.disabledIdle he) busy, nofun, hc.darkClosed, by simp⟩

theorem State.stepHold_staged (s : State) (c : ScreenId) : Staged s (s.stepHold c) := by
  unfold State.stepHold
  split
  · next h => exact .hold s c .step h.1
  · exact .refl s

theorem State.fire_staged (s : State) (c : ScreenId) (t : CueTest) (running : s.screens[c].seq.state = .running) :
    Staged s (s.fire c t) := by
  have busy : (s.beforeFiring c t).screens[c].seq.state ≠ .idle := by
    rw [s.beforeFiring_state, running]; exact nofun
  exact (((s.beforeFiring_staged c t).trans (State.act_staged _ c busy)).trans
    (.modSeq_same _ c (fun r => { r with afterRef := r.clock }) rfl rfl rfl rfl rfl)).trans
    ((State.moveOn_staged _ c _).trans (State.stepHold_staged _ c))

theorem State.testable_running {s : State} {c : ScreenId} (h : s.testable c = true) :
    s.screens[c].seq.state = .running := by
  simp only [State.testable, Bool.and_eq_true, decide_eq_true_eq] at h
  exact h.1

theorem State.runCues_staged (c : ScreenId) (n : Nat) (byGo : Bool) (s : State) :
    Staged s (State.runCues c n byGo s) := by
  induction n generalizing byGo s with
  | zero => exact .refl s
  | succ n ih =>
    unfold State.runCues
    split
    · next h =>
      split
      · exact .refl s
      · exact (s.fire_staged c _ (State.testable_running h)).trans (ih _ _)
    · exact .refl s

theorem State.test_staged (s : State) (c : ScreenId) : Staged s (s.test c) := State.runCues_staged c _ _ s

/-! ## The operator's commands -/

/-- R5, R54: an enabled screen's show starts RUNNING in the show state that stands. -/
theorem Staged.start (s : State) (c : ScreenId) (enabled : s.screens[c].config.enabled = true) :
    Staged s (s.modSeq c ShowRecord.started) :=
  .modSeq s c _ rfl rfl fun hc =>
    ⟨fun he => Bool.noConfusion (enabled.symm.trans he), nofun, hc.darkClosed, by simp [ShowRecord.started]⟩

theorem State.unloadSegment_staged (s : State) (c : ScreenId) : Staged s (s.unloadSegment c) := by
  unfold State.unloadSegment
  simp only
  exact .modSeqr s _ rfl rfl

theorem State.doStart_staged (s : State) (c : ScreenId) : Staged s (s.doStart c).1 := by
  unfold State.doStart
  split
  · next h =>
    have started : Staged s ((s.modSeq c ShowRecord.started).unloadSegment c) :=
      (Staged.start s c h.1).trans (State.unloadSegment_staged _ c)
    simp only
    split
    · exact started.trans (State.toIdle_staged _ c 0)
    · exact started.trans (State.test_staged _ c)
  · exact .refl s

theorem State.resumePlay_staged (s : State) (c : ScreenId) : Staged s (s.resumePlay c) := by
  unfold State.resumePlay
  split
  · exact (s.sendProj_staged c _ _).trans (.modSeq_same _ c _ rfl rfl rfl rfl rfl)
  · exact .refl s

theorem State.doGo_staged (s : State) (c : ScreenId) : Staged s (s.doGo c).1 := by
  unfold State.doGo
  split
  · exact .refl s
  · next held =>
    have busy : s.screens[c].seq.state ≠ .idle := by rw [held]; exact nofun
    have running : Staged s (s.modSeq c fun r => { r with state := .running, holdReason := none }) :=
      .modSeq s c _ rfl rfl fun hc => ⟨fun he => absurd (hc.disabledIdle he) busy, nofun, hc.darkClosed, by simp⟩
    exact ((running.trans (State.resumePlay_staged _ c)).trans (.modSeq_same _ c _ rfl rfl rfl rfl rfl)).trans
      (State.test_staged _ c)
  · split
    · exact State.runCues_staged c _ _ s
    · exact (Staged.modSeq_same s c _ rfl rfl rfl rfl rfl).trans (State.test_staged _ c)

theorem State.doHold_staged (s : State) (c : ScreenId) : Staged s (s.doHold c).1 := by
  unfold State.doHold
  split
  · exact .refl s
  · exact .refl s
  · next h => exact .hold s c .operator h

theorem State.doAbort_staged (s : State) (c : ScreenId) : Staged s (s.doAbort c).1 := by
  unfold State.doAbort
  split
  · exact .refl s
  · exact (s.toIdle_staged c _).trans (State.sendProj_staged _ c _ _)

theorem State.doRehearse_staged (s : State) (c : ScreenId) (on : Bool) : Staged s (s.doRehearse c on).1 := by
  unfold State.doRehearse
  split
  · exact .refl s
  · exact Staged.modSeq_same s c (fun r => { r with rehearsal := on }) rfl rfl rfl rfl rfl

theorem keyCommand_staged {key : Nat} {command : State → ScreenId → State × Reply} (h : keyCommand key = some command)
    (s : State) (c : ScreenId) : Staged s (command s c).1 := by
  unfold keyCommand at h
  split at h <;> cases h
  · exact s.doStart_staged c
  · exact s.doGo_staged c
  · exact s.doHold_staged c
  · exact s.doAbort_staged c

theorem State.takePanelKey_staged (s : State) (source screen key : Byte) : Staged s (s.takePanelKey source screen key) := by
  unfold State.takePanelKey
  simp only
  split
  · next c command _ hk =>
    have acted := keyCommand_staged hk s c
    split
    · split
      · next h => rw [h] at acted; exact acted
      · next h => rw [h] at acted; exact acted.trans (.modSeqr _ _ rfl rfl)
    · exact .modSeqr s _ rfl rfl
  · exact .modSeqr s _ rfl rfl

/-! ## Clocks, the sky and failures -/

theorem State.advanceClock_staged (s : State) (c : ScreenId) : Staged s (s.advanceClock c) := by
  unfold State.advanceClock
  split
  · exact (Staged.modSeq_same s c _ rfl rfl rfl rfl rfl).trans (State.test_staged _ c)
  · exact .refl s

theorem State.timebaseClock_staged (s : State) (c : ScreenId) : Staged s (s.timebaseClock c) := by
  unfold State.timebaseClock
  split
  · exact s.advanceClock_staged c
  · exact .refl s

theorem State.programmeClock_staged (s : State) (c : ScreenId) : Staged s (s.programmeClock c) := by
  unfold State.programmeClock
  split
  · exact (Staged.modSeq_same s c _ rfl rfl rfl rfl rfl).trans (State.advanceClock_staged _ c)
  · exact .refl s

theorem State.countFrame_staged (s : State) (c : ScreenId) : Staged s (s.countFrame c) := by
  unfold State.countFrame
  split
  · split
    · exact .modSeq_same s c _ rfl rfl rfl rfl rfl
    · exact s.programmeClock_staged c
  · exact .refl s

theorem State.endRest_staged (s : State) (c : ScreenId) : Staged s (s.endRest c) := by
  unfold State.endRest
  split
  · exact (Staged.modSeq_same s c _ rfl rfl rfl rfl rfl).trans (State.test_staged _ c)
  · exact .refl s

theorem State.tenMsTick_staged (s : State) (c : ScreenId) : Staged s (s.tenMsTick c) := by
  unfold State.tenMsTick
  split
  · exact (s.timebaseClock_staged c).trans (State.endRest_staged _ c)
  · exact s.timebaseClock_staged c

theorem State.tensTick_staged (s : State) : Staged s s.tensTick := .foldl _ State.tenMsTick_staged _ s

theorem State.takeSkyReport_keeps (s : State) (lux : Half) : Keeps s (s.takeSkyReport lux) :=
  (Keeps.modSeqr s _).trans (Staged.foldl _ State.test_staged _ _).keeps

theorem State.skyExpires_keeps (s : State) : Keeps s s.skyExpires := by
  unfold State.skyExpires
  split
  · exact .refl s
  · exact .modSeqr s _

theorem State.failureHold_staged (s : State) (c : ScreenId) (reason : HoldReason) : Staged s (s.failureHold c reason) := by
  unfold State.failureHold
  split
  · next h =>
    have held := Staged.hold s c reason h.2.1
    simp only
    split
    · exact held
    · split
      · exact held.trans (State.sendProj_staged _ c _ _)
      · exact (held.trans (State.sendProj_staged _ c _ _)).trans (.modSeq_same _ c _ rfl rfl rfl rfl rfl)
  · exact .refl s

theorem State.projReport_staged (source : Nat) (p : ProjState) (s : State) (c : ScreenId) :
    Staged s (State.projReport source p s c) := by
  unfold State.projReport
  split
  · have told : Staged s (s.modSeq c fun r => { r with projState := p }) := .modSeq_same s c _ rfl rfl rfl rfl rfl
    simp only
    split
    · exact told.trans (State.failureHold_staged _ c _)
    · exact told
  · exact .refl s

theorem State.takeProjState_staged (s : State) (source state : Byte) : Staged s (s.takeProjState source state) := by
  unfold State.takeProjState
  simp only
  split
  · exact .modSeqr s _ rfl rfl
  · split
    · exact .foldl _ (State.projReport_staged _ _) _ s
    · exact .modSeqr s _ rfl rfl

end Sys2Proof.Machine

namespace Sys2Proof.Machine

/-! ## The Sound Path (05) -/

theorem State.unlock_keeps (s : State) (c : ScreenId) : Keeps s (s.unlock c) := by
  unfold State.unlock
  split
  · exact (Keeps.modScreenSound s c _).trans (.modInput _ c _)
  · exact .refl s

theorem State.relock_keeps (s : State) (c : ScreenId) : Keeps s (s.relock c) := by
  have locked := (Keeps.modScreenSound s c fun v => { v with locked := true, lost := false }).trans
    (.modInput _ c fun i => { i with lostDelay := none })
  unfold State.relock
  simp only
  split
  · exact locked.trans (State.raise_keeps _ _ _ _ _)
  · exact locked

theorem State.missFrame_keeps (s : State) (c : ScreenId) : Keeps s (s.missFrame c) :=
  (Keeps.modInput s c _).trans (State.unlock_keeps _ c)

theorem State.malformedFrame_keeps (s : State) (c : ScreenId) : Keeps s (s.malformedFrame c) :=
  (Keeps.modInput s c _).trans (State.unlock_keeps _ c)

theorem State.goodFrame_keeps (s : State) (c : ScreenId) (f : Frame) : Keeps s (s.goodFrame c f) := by
  have counted := Keeps.modInput s c fun i => { i with run := min (s.sound.inputs[c].run + 1) 48 }
  have put (t : State) : Keeps t (t.modLine c fun l => l.put f) := .modLine t c _ fun h => DelayLine.put_inRing h f
  unfold State.goodFrame
  simp only
  split
  · exact (counted.trans (put _)).trans (State.countFrame_staged _ c).keeps
  · split
    · exact (counted.trans (State.relock_keeps _ c)).trans (put _)
    · exact counted

theorem State.takeFrame_keeps (s : State) (c : ScreenId) (left right gap : Nat) (f : Frame) :
    Keeps s (s.takeFrame c left right gap f) := by
  unfold State.takeFrame
  split
  · exact .modInput s c _
  · split
    · exact (s.missFrame_keeps c).trans (.modInput _ c _)
    · split
      · exact s.malformedFrame_keeps c
      · exact s.goodFrame_keeps c f

theorem State.lostDelayExpires_keeps (s : State) (c : ScreenId) : Keeps s (s.lostDelayExpires c) := by
  unfold State.lostDelayExpires
  split
  · exact .refl s
  · exact (((Keeps.modInput s c _).trans (.modScreenSound _ c _)).trans (State.raise_keeps _ _ _ _ _)).trans
      (State.failureHold_staged _ c _).keeps

theorem State.endBlock_keeps (s : State) (o : OutputId) : Keeps s (s.endBlock o) := by
  unfold State.endBlock
  simp only
  split
  · exact .modOutput s o _
  · split
    · split
      · exact (Keeps.modOutput s o _).trans (State.raise_keeps _ _ _ _ _)
      · exact .modOutput s o _
    · exact .modOutput s o _

theorem State.queuePeriod_keeps (s : State) (o : OutputId) : Keeps s (s.queuePeriod o) := by
  unfold State.queuePeriod
  split
  · split
    · exact (s.endEntry_kept o).keeps
    · exact .refl s
  · exact (s.startEntry_kept o).keeps

theorem State.blockPeriod_keeps (s : State) (o : OutputId) : Keeps s (s.blockPeriod o) := by
  unfold State.blockPeriod
  split
  · exact s.endBlock_keeps o
  · exact .refl s

theorem DelayLine.fillAndMove_inRing {l : DelayLine} (h : l.inRing) (n : Nat) : (l.fillAndMove n).inRing := by
  unfold DelayLine.fillAndMove
  split
  · exact DelayLine.advance_inRing (DelayLine.put_inRing h _) n
  · exact DelayLine.put_inRing (DelayLine.advance_inRing h n) _

theorem State.movedLine_inRing (s : State) (c : ScreenId) (h : s.sound.lines[c].inRing) : (s.movedLine c).inRing := by
  have moved (n : Nat) :
      (if s.screens[c].sound.locked then s.sound.lines[c].advance n else s.sound.lines[c].fillAndMove n).inRing := by
    split
    · exact DelayLine.advance_inRing h n
    · exact DelayLine.fillAndMove_inRing h n
  exact ⟨(moved _).read, (moved _).write⟩

theorem State.movePeriod_keeps (s : State) : Keeps s s.movePeriod := by
  refine .modSound s _ (fun c h => ?_) fun _ => id
  simp only [Fin.getElem_fin, Vector.getElem_ofFn]
  exact s.movedLine_inRing c h

theorem State.deliverPeriod_keeps (s : State) : Keeps s s.deliverPeriod := by
  unfold State.deliverPeriod
  exact .modSound s _ (fun _ => id) fun _ => id

theorem Keeps.advanceFeeds (s : State) : Keeps s (s.modAnn Composer.advanceFeeds) := .modAnn s _ fun _ => id

theorem State.samplePeriod_keeps (s : State) : Keeps s s.samplePeriod := by
  unfold State.samplePeriod
  have started := Keeps.foldl _ State.queuePeriod_keeps allOutputs s
  have delivered := (started.trans (State.movePeriod_keeps _)).trans (State.deliverPeriod_keeps _)
  exact (delivered.trans (.advanceFeeds _)).trans (.foldl _ State.blockPeriod_keeps _ _)

theorem State.sendTx_keeps (s : State) (c : ScreenId) (command : Nat) : Keeps s (s.sendTx c command) := by
  unfold State.sendTx
  simp only
  split
  · exact .modSound s _ (fun _ => id) fun _ => id
  · split
    · next h => exact State.handUrgent_keeps h
    · next h => exact (State.handUrgent_keeps h).trans (.modTransmitter _ c _)

theorem State.loadSilence_keeps (s : State) (c : ScreenId) : Keeps s (s.loadSilence c) := by
  unfold State.loadSilence
  exact .modTransmitter s c _

theorem State.cutOutput_keeps (s : State) (c : ScreenId) : Keeps s (s.cutOutput c) :=
  ((((Keeps.modScreenSound s c _).trans (State.sendTx_keeps _ c _)).trans (State.raise_keeps _ _ _ _ _)).trans
    (State.failureHold_staged _ c _).keeps).trans (State.stopQueue_kept _ c).keeps

theorem State.txReport_keeps (source : Nat) (carrier : Carrier) (flags : BitVec 3) (s : State) (c : ScreenId) :
    Keeps s (State.txReport source carrier flags s c) := by
  unfold State.txReport
  simp only
  split
  · have told := (Keeps.modTransmitter s c fun t => { t with carrier := carrier, sticky := t.sticky ||| flags }).trans
      (State.loadSilence_keeps _ c)
    split
    · exact told.trans (State.cutOutput_keeps _ c)
    · exact told
  · exact .refl s

theorem State.takeTxStatus_keeps (s : State) (source carrier flags : Byte) : Keeps s (s.takeTxStatus source carrier flags) := by
  have unmatched := Keeps.modSound s (fun p => { p with unmatchedTx := bump16 p.unmatchedTx }) (fun _ => id) fun _ => id
  unfold State.takeTxStatus
  simp only
  split
  · exact unmatched
  · split
    · exact .foldl _ (State.txReport_keeps _ _ _) _ s
    · exact unmatched

theorem State.clearFault_keeps (s : State) (c : ScreenId) : Keeps s (s.clearFault c) := by
  have emptied := Keeps.modTransmitter s c fun t => { t with sticky := 0 }
  unfold State.clearFault
  simp only
  split
  · exact (emptied.trans (.modScreenSound _ c _)).trans (State.sendTx_keeps _ c _)
  · exact emptied

theorem State.txSilent_keeps (s : State) (c : ScreenId) : Keeps s (s.txSilent c) := by
  unfold State.txSilent
  split
  · exact .refl s
  · exact (Keeps.modTransmitter s c _).trans (State.raise_keeps _ _ _ _ _)

/-! ## Warm restart and counters (R160, R161) -/

/-- R3, R50: a show that a warm restart holds keeps a coherent record. -/
theorem Screen.coherent.restart {v : Screen} (h : v.coherent) : { v with seq := v.seq.restart }.coherent := by
  unfold ShowRecord.restart
  split
  · next hr =>
    have busy : v.seq.state ≠ .idle := by rw [hr]; exact nofun
    exact ⟨fun he => absurd (h.disabledIdle he) busy, nofun, h.darkClosed, by simp⟩
  · exact h

theorem ShowRecord.restart_segment (r : ShowRecord) :
    r.restart.segBase = r.segBase ∧ r.restart.segLimit = r.segLimit := by
  unfold ShowRecord.restart
  split <;> exact ⟨rfl, rfl⟩

/-- R161: every block restarts, before the Composer's queues are emptied. -/
def State.blocksRestarted (s : State) : State :=
  { s with
    cell := s.cell.restart
    screens := s.screens.map fun c => { c with seq := c.seq.restart }
    sound := s.sound.restart
    gate := s.gate.restart
    mgmt := { s.mgmt with restart := false } }

theorem State.warmRestart_eq (s : State) : s.warmRestart = s.blocksRestarted.emptyQueues := rfl

theorem State.blocksRestarted_screen (s : State) (c : ScreenId) :
    s.blocksRestarted.screens[c] = { s.screens[c] with seq := s.screens[c].seq.restart } := by
  simp [State.blocksRestarted]

theorem State.blocksRestarted_line (s : State) (c : ScreenId) :
    s.blocksRestarted.sound.lines[c] = s.sound.lines[c].restart s.sound.config[outputOf c].delayTarget := by
  simp [State.blocksRestarted, SoundPath.restart]

theorem State.blocksRestarted_keeps (s : State) : Keeps s s.blocksRestarted := by
  refine ⟨rfl, rfl, rfl, fun hs c => ?_, fun hs => { hs with marks := ?_, segments := ?_, lines := ?_, windows := ?_ }⟩
  · rw [s.blocksRestarted_screen c]; exact (hs c).restart
  · exact fun p => by cases p <;> [exact hs.windows .a; exact hs.windows .b]
  · exact fun c => by rw [s.blocksRestarted_screen c]; exact hs.marks c
  · intro c
    obtain ⟨base, limit⟩ := s.screens[c].seq.restart_segment
    rw [s.blocksRestarted_screen c, base, limit]
    exact hs.segments c
  · intro c
    rw [s.blocksRestarted_line c]
    exact ⟨(hs.lines c).1, Nat.le_of_lt_succ (Nat.mod_lt _ (by decide))⟩

theorem State.warmRestart_keeps (s : State) : Keeps s s.warmRestart :=
  s.blocksRestarted_keeps.trans (State.emptyQueues_kept _).keeps

theorem State.clearCounters_keeps (s : State) : Keeps s s.clearCounters := by
  have screen (c : ScreenId) :
      s.clearCounters.screens[c] = { s.screens[c] with field := s.screens[c].field.clearCounters } := by
    simp [State.clearCounters]
  refine ⟨rfl, rfl, rfl, fun hs c => ?_, fun hs => { hs with windows := ?_, marks := ?_, segments := ?_ }⟩
  · rw [screen c]; exact (hs c).of_same rfl rfl rfl rfl rfl rfl
  · exact fun p => by cases p <;> [exact hs.windows .a; exact hs.windows .b]
  · exact fun c => by rw [screen c]; exact hs.marks c
  · exact fun c => by rw [screen c]; exact hs.segments c

/-! ## Writable tables (09 section 9.3) -/

theorem clampTo_range (lo hi n : Nat) (h : lo ≤ hi) : lo ≤ clampTo lo hi n ∧ clampTo lo hi n ≤ hi := by
  unfold clampTo
  omega

theorem siteOf_errorLimit {e : List Byte} {v : Site} (h : siteOf e = some v) : v.errorLimit ≤ 255 := by
  unfold siteOf at h
  split at h
  · cases h
  · simp only [Option.bind_eq_bind, Option.bind_eq_some_iff, Option.pure_def, Option.some.injEq] at h
    obtain ⟨_, _, _, _, _, _, _, _, _, _, _, _, rfl⟩ := h
    exact (clampTo_range 1 255 _ (by decide)).2

theorem State.writeSite_keeps (s : State) (i : Nat) (e : List Byte) : Keeps s (s.writeSite i e).1 := by
  unfold State.writeSite
  split
  · exact .refl s
  · split
    · exact .refl s
    · next h => exact Keeps.modMgmt s (fun m => { m with site := _ }) (.inl (siteOf_errorLimit h))

theorem screenConfigOf_marks {e : List Byte} {g : ScreenConfig} (h : screenConfigOf e = some g) : g.marksStand := by
  simp only [screenConfigOf, Option.bind_eq_bind, Option.bind_eq_some_iff, Option.pure_def] at h
  obtain ⟨_, _, _, _, _, _, _, _, _, _, _, _, h⟩ := h
  split at h
  · next hm =>
    cases h
    simpa [marksFit, ScreenConfig.marksStand] using hm
  · cases h

/-- R5, R6: a write keeps a screen enabled while its sequencer is not IDLE. -/
theorem State.applyScreen_keeps (s : State) (c : ScreenId) (g : ScreenConfig) (marks : g.marksStand)
    (same : s.screens[c].seq.state = .idle ∨ s.screens[c].config.enabled = g.enabled) :
    Keeps s (s.applyScreen c g) := by
  have stored : Keeps s (s.modScreen c fun v => { v with config := g }) := by
    refine .modScreen s c _ (fun hc => ⟨fun he => ?_, hc.idleDark, hc.darkClosed, hc.heldReason⟩) fun hb =>
      ⟨marks, hb.segment⟩
    rcases same with idle | enabled
    · exact idle
    · exact hc.disabledIdle (enabled.trans he)
  have near (t : State) (old : ScreenConfig) : Keeps t (t.rejudgeNear c old g) := by
    unfold State.rejudgeNear
    split
    · exact .modField t c _ rfl
    · split
      · exact .refl t
      · exact t.judgeNearFull_keeps c
  have full (t : State) (old : ScreenConfig) : Keeps t (t.rejudgeFull c old g) := by
    unfold State.rejudgeFull
    split
    · exact .refl t
    · exact t.judgeFull_keeps c
  unfold State.applyScreen
  simp only
  split
  · exact ((stored.trans (near _ _)).trans (full _ _)).trans (State.releaseHeld_kept _ c).keeps
  · exact (stored.trans (near _ _)).trans (full _ _)

theorem State.writeScreen_keeps (s : State) (i : Nat) (e : List Byte) : Keeps s (s.writeScreen i e).1 := by
  unfold State.writeScreen
  split
  · exact .refl s
  · split
    · exact .refl s
    · next g hg =>
      split
      · exact .refl s
      · next c _ _ h =>
        refine s.applyScreen_keeps c g (screenConfigOf_marks hg) ?_
        by_cases idle : s.screens[c].seq.state = .idle
        · exact .inl idle
        · simp only [not_and, Bool.not_eq_true, Bool.not_eq_false'] at h
          have := h idle
          simp only [ScreenConfig.sameShow, Bool.and_eq_true, decide_eq_true_eq] at this
          exact .inr this.1.1

theorem State.writeSegment_keeps (s : State) (i : Nat) (e : List Byte) : Keeps s (s.writeSegment i e).1 := by
  unfold State.writeSegment
  split
  · exact .refl s
  · next c _ =>
    simp only
    split
    · exact .refl s
    · next fits =>
      split
      · exact .refl s
      · split
        · exact .refl s
        · dsimp only
          exact .modScreen s c _ (fun hc => hc.of_same rfl rfl rfl rfl rfl rfl) fun hb =>
            ⟨hb.marks, Nat.le_of_not_lt fits⟩

theorem outputConfigOf_delay {e : List Byte} {g : OutputConfig} (h : outputConfigOf e = some g) :
    g.delayTarget ≤ 9599 := by
  simp only [outputConfigOf, Option.bind_eq_bind, Option.bind_eq_some_iff, Option.pure_def] at h
  obtain ⟨_, _, _, _, _, _, h⟩ := h
  split at h
  · cases h
    exact (clampTo_range 0 9599 _ (by decide)).2
  · cases h

theorem State.writeOutput_keeps (s : State) (i : Nat) (e : List Byte) : Keeps s (s.writeOutput i e).1 := by
  unfold State.writeOutput
  split
  · exact .refl s
  · next o _ =>
    split
    · exact .refl s
    · next g hg =>
      have written := Keeps.modOutputConfig s o (fun _ => g) fun _ => outputConfigOf_delay hg
      simp only
      split
      · exact written.trans (State.loadSilence_keeps _ _)
      · exact written

theorem State.writeClip_keeps (s : State) (i : Nat) (e : List Byte) : Keeps s (s.writeClip i e).1 := by
  unfold State.writeClip
  split
  · exact .refl s
  · simp only
    split
    · exact .refl s
    · next fits =>
      split
      · exact .refl s
      · split
        · exact .refl s
        · have region : triAt e 0 + triAt e 3 ≤ 8388608 := by omega
          dsimp only
          exact (Keeps.modClip s _ _ fun _ => region).trans (.modAnn _ _ fun _ => id)

/-- R30, R52, R99, R110, R114, R130, R132: the writes of the tables that no range speaks of. -/
theorem State.writeCue_keeps (s : State) (i : Nat) (e : List Byte) : Keeps s (s.writeCue i e).1 := by
  unfold State.writeCue
  split
  · exact .refl s
  · split
    · exact .refl s
    · split
      · exact .refl s
      · dsimp only
        exact .modSeqr s _

theorem State.writePhrase_keeps (s : State) (i : Nat) (e : List Byte) : Keeps s (s.writePhrase i e).1 := by
  unfold State.writePhrase
  split
  · exact .refl s
  · split
    · exact .refl s
    · exact Keeps.modAnn s (fun a => { a with phrases := _ }) fun _ => id

theorem State.writeEvent_keeps (s : State) (i : Nat) (e : List Byte) : Keeps s (s.writeEvent i e).1 := by
  unfold State.writeEvent
  split
  · exact .refl s
  · split
    · exact .refl s
    · exact (Keeps.modAnn s _ fun _ => id).trans (.draw _)

theorem State.writeLane_keeps (s : State) (i : Nat) (e : List Byte) : Keeps s (s.writeLane i e).1 := by
  unfold State.writeLane
  split
  · exact .refl s
  · split
    · exact .refl s
    · split
      · exact .refl s
      · split
        · exact .refl s
        · dsimp only
          exact .modLane s _ _

theorem State.writeMenu_keeps (s : State) (i : Nat) (e : List Byte) : Keeps s (s.writeMenu i e).1 := by
  unfold State.writeMenu
  split
  · exact .refl s
  · split
    · exact .refl s
    · exact (Keeps.modRouter s _ rfl).trans (.draw _)

theorem State.writeStation_keeps (s : State) (i : Nat) (e : List Byte) : Keeps s (s.writeStation i e).1 := by
  unfold State.writeStation
  split
  · exact .refl s
  · next k _ =>
    simp only
    split
    · exact .refl s
    · split
      · exact .refl s
      · split
        · exact .refl s
        · have written := Keeps.modKitchen s k fun v => v.configured (byteAt e 0) (clampTo 1 16 (byteAt e 1))
            (clampTo 1 30 (byteAt e 2))
          split
          · exact written.trans (State.dispatch_kept _ k).keeps
          · exact written

theorem State.writeTap_keeps (s : State) (i : Nat) (e : List Byte) : Keeps s (s.writeTap i e).1 := by
  have drawn (t : State) : Keeps t t.draw.draw.draw := ((Keeps.draw t).trans (.draw _)).trans (.draw _)
  unfold State.writeTap
  split
  · exact .refl s
  · split
    · exact drawn s
    · exact (Keeps.modCell s _).trans (drawn _)

theorem State.writeTable_keeps (s : State) (t : Table) (i : Nat) (e : List Byte) : Keeps s (s.writeTable t i e).1 := by
  cases t with
  | site => exact s.writeSite_keeps i e
  | screen => exact s.writeScreen_keeps i e
  | segment => exact s.writeSegment_keeps i e
  | cue => exact s.writeCue_keeps i e
  | output => exact s.writeOutput_keeps i e
  | clip => exact s.writeClip_keeps i e
  | phrase => exact s.writePhrase_keeps i e
  | event => exact s.writeEvent_keeps i e
  | lane => exact s.writeLane_keeps i e
  | menu => exact s.writeMenu_keeps i e
  | station => exact s.writeStation_keeps i e
  | tap => exact s.writeTap_keeps i e
  | screenStatus | outputStatus | laneStatus | order | stationStatus | portStatus | counters => exact .refl s

theorem ReadOut.indexed_state {k : Nat} (s : State) (i : Option (Fin k)) (f : Fin k → List Byte) :
    (ReadOut.indexed s i f).state = s := by
  cases i <;> rfl

/-- R156: a read changes nothing but the CLIPPED flag of an output whose status it takes (R81). -/
theorem State.readTable_keeps (s : State) (t : Table) (i : Nat) : Keeps s (s.readTable t i).state := by
  cases t with
  | outputStatus =>
    simp only [State.readTable, State.readOutputStatus]
    split
    · exact .refl s
    · exact Keeps.modOutput s _ fun v => { v with clipped := false }
  | order =>
    simp only [State.readTable, State.readOrder]
    split <;> exact .refl s
  | site | screen | segment | cue | output | clip | phrase | event | lane | menu | station | tap | screenStatus
  | laneStatus | stationStatus | portStatus | counters =>
    simp only [State.readTable, ReadOut.indexed_state]
    exact .refl s

end Sys2Proof.Machine

namespace Sys2Proof.Machine

/-! ## Management cells (09) -/

theorem State.screenCommand_keeps (s : State) (screen : Byte) (f : State → ScreenId → Written)
    (h : ∀ s c, Keeps s (f s c).1) : Keeps s (s.screenCommand screen f).1 := by
  unfold State.screenCommand
  split
  · exact .refl s
  · exact h s _

theorem State.doClipSeal_keeps (s : State) (clip : Byte) : Keeps s (s.doClipSeal clip).1 := by
  unfold State.doClipSeal
  split
  · exact .refl s
  · next k _ =>
    split
    · exact Keeps.modClip s k (fun c => { c with state := .ready }) id
    · exact .refl s

theorem State.doClipDelete_keeps (s : State) (clip : Byte) : Keeps s (s.doClipDelete clip).1 := by
  unfold State.doClipDelete
  split
  · exact .refl s
  · next k _ =>
    split
    · exact .refl s
    · exact (Keeps.modClip s k (fun c => { c with state := .empty }) id).trans
        (.modAnn _ (fun a => { a with fillOrder := a.fillOrder.filter (· != k) }) fun _ => id)

theorem State.doAnnounce_keeps (s : State) (phrase mask priority mode : Byte) (n : Half) :
    Keeps s (s.doAnnounce phrase mask priority mode n).1 := by
  unfold State.doAnnounce
  split
  · split
    · exact .refl s
    · exact (s.announce_kept _).keeps
  · exact .refl s

theorem State.doSetCount_keeps (s : State) (screen : Byte) (count tall : Half) :
    Keeps s (s.doSetCount screen count tall).1 :=
  s.screenCommand_keeps screen _ fun t c => (Keeps.modField t c _ rfl).trans (State.judgeFlags_keeps _ c)

/-- R127: admission is set OPEN on no DARK screen. -/
theorem State.doSetAdmission_keeps (s : State) (screen state : Byte) : Keeps s (s.doSetAdmission screen state).1 := by
  unfold State.doSetAdmission
  split
  · exact .refl s
  · next a _ =>
    refine s.screenCommand_keeps screen _ fun t c => ?_
    split
    · exact .refl t
    · next h =>
      refine Keeps.modScreen t c (fun v => { v with field := { v.field with admission := a } })
        (fun hc => ⟨hc.disabledIdle, hc.idleDark, fun hd => ⟨?_, (hc.darkClosed hd).2⟩, hc.heldReason⟩) fun hb =>
        ⟨hb.marks, hb.segment⟩
      cases a
      · rfl
      · exact absurd ⟨rfl, hd⟩ h

/-- R150: ordering is set to nothing but CLOSED on a DARK screen. -/
theorem State.doSetOrdering_keeps (s : State) (screen state : Byte) : Keeps s (s.doSetOrdering screen state).1 := by
  unfold State.doSetOrdering
  split
  · exact .refl s
  · next o _ =>
    refine s.screenCommand_keeps screen _ fun t c => ?_
    split
    · exact .refl t
    · next h =>
      refine Keeps.modScreen t c (fun v => { v with ordering := o })
        (fun hc => ⟨hc.disabledIdle, hc.idleDark, fun hd => ⟨(hc.darkClosed hd).1, ?_⟩, hc.heldReason⟩) fun hb =>
        ⟨hb.marks, hb.segment⟩
      by_contra ho
      exact h ⟨ho, hd⟩

theorem State.doClearFault_keeps (s : State) (output : Byte) : Keeps s (s.doClearFault output).1 := by
  unfold State.doClearFault
  split
  · exact .refl s
  · exact s.clearFault_keeps _

theorem State.doRehearseSetting_keeps (s : State) (screen setting : Byte) :
    Keeps s (s.doRehearseSetting screen setting).1 := by
  unfold State.doRehearseSetting
  split
  · exact .refl s
  · exact s.screenCommand_keeps screen _ fun t c => (t.doRehearse_staged c _).keeps

theorem State.obey_keeps (s : State) (c : Command) : Keeps s (s.obey c).1 := by
  cases c with
  | start screen => exact s.screenCommand_keeps screen _ fun t c => (t.doStart_staged c).keeps
  | go screen => exact s.screenCommand_keeps screen _ fun t c => (t.doGo_staged c).keeps
  | hold screen => exact s.screenCommand_keeps screen _ fun t c => (t.doHold_staged c).keeps
  | abort screen => exact s.screenCommand_keeps screen _ fun t c => (t.doAbort_staged c).keeps
  | rehearse screen setting => exact s.doRehearseSetting_keeps screen setting
  | clipSeal clip => exact s.doClipSeal_keeps clip
  | clipDelete clip => exact s.doClipDelete_keeps clip
  | announce phrase mask priority mode number => exact s.doAnnounce_keeps phrase mask priority mode number
  | setCount screen count tall => exact s.doSetCount_keeps screen count tall
  | setAdmission screen state => exact s.doSetAdmission_keeps screen state
  | setOrdering screen state => exact s.doSetOrdering_keeps screen state
  | cancelOrder number => exact s.doCancel_keeps number
  | clearFault output => exact s.doClearFault_keeps output
  | clearCounters => exact s.clearCounters_keeps
  | restartWarm => exact Keeps.modMgmt s (fun m => { m with restart := true }) (.inr rfl)

theorem State.writeClipData_keeps (s : State) (clip : Byte) (offset : Nat) (run : List Sample16) :
    Keeps s (s.writeClipData clip offset run).1 := by
  unfold State.writeClipData
  split
  · exact .refl s
  · simp only
    split
    · exact .refl s
    · split
      · exact .refl s
      · exact .refl s
      · exact .refl s
      · split
        · exact .refl s
        · exact Keeps.modAnn s (fun a => { a with memory := _ }) fun _ => id

theorem State.completeFill_keeps (s : State) : Keeps s s.completeFill := by
  unfold State.completeFill
  split
  · exact .refl s
  · next k _ _ =>
    exact (Keeps.modClip s k (fun c => { c with state := .loading }) id).trans (.modAnn _ _ fun _ => id)

theorem Management.countAnswer_site (m : Management) (code : Reply) : (m.countAnswer code).site = m.site := by
  cases code <;> rfl

theorem State.reply_keeps (s : State) (m : Sender) (e : Echo) (r : ReadOut) (ends : Bool) :
    Keeps r.state (s.reply m e r ends).1 :=
  ((Keeps.modMgmt r.state _ (.inr (Management.countAnswer_site _ _))).trans (State.handUrgent_kept _ _).keeps).trans
    (.draw _)

theorem Keeps.of_reply {s t : State} {m : Sender} {e : Echo} {r : ReadOut} {ends : Bool} {a : HandOver}
    (h : s.reply m e r ends = (t, a)) : Keeps r.state t := by
  have := s.reply_keeps m e r ends
  rw [h] at this
  exact this

/-- R159: a management cell is counted as taken. -/
def State.countTaken (s : State) : State := s.modMgmt fun m => { m with taken := bump16 m.taken }

theorem State.countTaken_keeps (s : State) : Keeps s s.countTaken := .modMgmt s _ (.inr rfl)

theorem State.takeMgmt_keeps (s : State) (m : Sender) (e : Echo) (check : Option Reply) (owner : State → ReadOut)
    (h : ∀ t, Keeps t (owner t).state) : Keeps s (s.takeMgmt m e check owner) := by
  unfold State.takeMgmt
  simp only
  split
  · next code _ => exact s.countTaken_keeps.trans (State.reply_keeps _ m e (.refused _ code) false)
  · exact (s.countTaken_keeps.trans (h _)).trans (State.reply_keeps _ m e _ false)

theorem State.writeCode_keeps (table : Byte) (i : Half) (e : List Byte) (s : State) :
    Keeps s (State.writeCode table i e s).state := by
  unfold State.writeCode
  split
  · exact .refl s
  · exact s.writeTable_keeps _ _ _

theorem State.readCode_keeps (table : Byte) (i : Half) (s : State) : Keeps s (State.readCode table i s).state := by
  unfold State.readCode
  split
  · exact .refl s
  · exact s.readTable_keeps _ _

theorem State.takeWrite_keeps (s : State) (m : Sender) (table : Byte) (i : Half) (e : List Byte) :
    Keeps s (s.takeWrite m table i e) := s.takeMgmt_keeps m _ _ _ (State.writeCode_keeps table i e)

theorem State.takeRead_keeps (s : State) (m : Sender) (table : Byte) (i : Half) (n : Nat) :
    Keeps s (s.takeRead m table i n) := s.takeMgmt_keeps m _ _ _ (State.readCode_keeps table i)

theorem State.takeRestart_keeps (s : State) (m : Sender) (e : Echo) : Keeps s (s.takeRestart m e) := by
  have counted := s.countTaken_keeps
  unfold State.takeRestart
  simp only
  split
  · next code _ => exact counted.trans (State.reply_keeps _ m e (.refused _ code) false)
  · have obeyed := counted.trans (State.obey_keeps _ .restartWarm)
    split
    · next h => exact obeyed.trans (Keeps.of_reply h)
    · next h => exact (obeyed.trans (Keeps.of_reply h)).trans (State.warmRestart_keeps _)

theorem State.takeCommand_keeps (s : State) (m : Sender) (c : Command) : Keeps s (s.takeCommand m c) := by
  unfold State.takeCommand
  simp only
  split
  · exact s.takeRestart_keeps m _
  · exact s.takeMgmt_keeps m _ _ _ fun t => t.obey_keeps c

theorem State.takeCommandCell_keeps (s : State) (m : Sender) (p : List Byte) : Keeps s (s.takeCommandCell m p) := by
  unfold State.takeCommandCell
  split
  · exact s.takeMgmt_keeps m _ _ _ .refl
  · split
    · exact s.takeCommand_keeps m _
    · exact s.takeMgmt_keeps m _ _ _ .refl

theorem State.takeClipData_keeps (s : State) (m : Sender) (clip : Byte) (offset : BitVec 24) (run : List Sample16)
    (fits : Bool) : Keeps s (s.takeClipData m clip offset run fits) :=
  s.takeMgmt_keeps m _ _ _ fun t => t.writeClipData_keeps clip _ run

/-! ## Delivery and returns (R29, R45 to R47) -/

theorem State.actOn_keeps (s : State) (k : TakenKind) (c : Cell) : Keeps s (s.actOn k c) := by
  unfold State.actOn
  cases k with
  | mgmtWrite => exact s.takeWrite_keeps _ _ _ _
  | mgmtRead => exact s.takeRead_keeps _ _ _ _
  | mgmtCommand => exact s.takeCommandCell_keeps _ _
  | clipData => exact s.takeClipData_keeps _ _ _ _ _
  | admitAsk => exact s.takeAdmitAsk_keeps _ _ _
  | passage => exact s.takePassage_keeps _ _ _
  | laneBeat => exact .refl s
  | orderPlace => exact s.takeOrderPlace_keeps _ _ _
  | bump => exact s.takeBump_keeps _ _ _
  | stationBeat => exact .refl s
  | pickup => exact s.takePickup_keeps _ _
  | panelKey => exact (s.takePanelKey_staged _ _ _).keeps
  | projState => exact (s.takeProjState_staged _ _).keeps
  | skyReport => exact s.takeSkyReport_keeps _
  | txStatus => exact s.takeTxStatus_keeps _ _ _

theorem State.deliver_keeps (s : State) (k : TakenKind) (c : Cell) : Keeps s (s.deliver k c) :=
  (s.cellSeen_keeps _).trans (State.actOn_keeps _ k c)

theorem State.take_keeps (s : State) (c : Cell) (t : Taking) : Keeps s (s.take c t) := by
  cases t with
  | delivered k => exact s.deliver_keeps k c
  | malformed => exact Keeps.modLoop s (fun l => { l with malformed := bump16 l.malformed }) id id
  | unconsumed => exact Keeps.modLoop s (fun l => { l with unconsumed := bump16 l.unconsumed }) id id
  | left => exact .refl s

theorem State.outcome_keeps (s : State) (e : TrackEntry) (d : Bool) : Keeps s (s.outcome e d) := by
  unfold State.outcome
  split
  · exact (s.ticketOutcome_kept _ _ _).keeps
  · split
    · exact .refl s
    · exact .modRouter s _ rfl
  · split
    · exact .refl s
    · exact (s.projUnanswered_kept _).keeps
  · split
    · exact .refl s
    · exact .modTransmitter s _ _
  · exact .refl s

theorem State.settle_keeps (s : State) (c : Cell) : Keeps s (s.settle c) := by
  unfold State.settle
  split
  · exact .modCell s _
  · exact (Keeps.modCell s _).trans (State.outcome_keeps _ _ _)

theorem State.returnExpires_keeps (s : State) (tag : Half) : Keeps s (s.returnExpires tag) := by
  unfold State.returnExpires
  split
  · exact .refl s
  · exact (Keeps.modCell s _).trans (State.outcome_keeps _ _ _)

/-! ## Loop ports (02) -/

/-- Ending a cell leaves the records of both ports as they are. -/
theorem State.cutSending_keeps (s : State) : Keeps s s.cutSending := by
  unfold State.cutSending
  split
  · exact .modCell s _
  · exact (Keeps.modCell s _).trans (.modLoop _ _ id id)
  · exact .modCell s _
  · exact .refl s
  · exact .refl s
  · exact .refl s

theorem State.cutSending_port (s : State) (p : PortId) : s.cutSending.port p = s.port p := by
  unfold State.cutSending
  split <;> cases p <;> rfl

theorem State.cutArriving_keeps (s : State) : Keeps s s.cutArriving := by
  have ended := Keeps.modLoop s (fun l => { l with arriving := none }) id id
  unfold State.cutArriving
  simp only
  split
  · split
    · exact ended.trans (.modCell _ _)
    · exact ended
  · exact ended

theorem State.cutArriving_port (s : State) (p : PortId) : s.cutArriving.port p = s.port p := by
  unfold State.cutArriving
  simp only
  split
  · split <;> cases p <;> rfl
  · cases p <;> rfl

theorem State.cutCells_keeps (s : State) (p : PortId) : Keeps s (s.cutCells p) := by
  cases p
  · exact s.cutArriving_keeps
  · simp only [State.cutCells]
    split
    · exact s.cutSending_keeps
    · exact .refl s

theorem State.cutCells_port (s : State) (p q : PortId) : (s.cutCells p).port q = s.port q := by
  cases p
  · exact s.cutArriving_port q
  · simp only [State.cutCells]
    split
    · exact s.cutSending_port q
    · rfl

/-- R20: a port after it has left its link state. -/
def Port.left (v : Port) (new : LinkState) : Port :=
  { v with state := new, lossTimer := false, linkDowns := bump16 v.linkDowns }

theorem Kept.port {s t : State} (h : Kept s t) (p : PortId) : t.port p = s.port p := by
  cases p <;> simp only [State.port, h.loop]

theorem State.leaveLink_port (s : State) (p : PortId) (new : LinkState) (q : PortId) :
    (s.leaveLink p new).port q = if p = q then (s.port p).left new else s.port q := by
  unfold State.leaveLink
  rw [(State.raise_kept _ _ _ _ _).port, State.modPort_port]
  simp only [State.cutCells_port]
  rfl

theorem State.leaveLink_keeps (s : State) (p : PortId) (new : LinkState) : Keeps s (s.leaveLink p new) :=
  ((s.cutCells_keeps p).trans (.modPort _ p _ id)).trans (State.raise_keeps _ _ _ _ _)

/-- R19: the port of a link that the error limit drops. -/
theorem State.dropLink_port (s : State) (p q : PortId) :
    (s.dropLink p).port q =
      if p = q then { (s.port p).left .down with quiet := some 100, window := 0 } else s.port q := by
  unfold State.dropLink
  rw [State.modPort_port, State.leaveLink_port, State.leaveLink_port]
  split <;> simp_all

/-- R18, R19: a port with one more line error. -/
def Port.erred (v : Port) : Port := { v with window := bump8 v.window, lineErrors := bump16 v.lineErrors }

/-- Ending a cell changes the ports' block and the Cell Processor alone. -/
theorem State.cutCells_rest (s : State) (p : PortId) :
    s.cutCells p = { s with loop := (s.cutCells p).loop, cell := (s.cutCells p).cell } := by
  cases p
  · simp only [State.cutCells, State.cutArriving]
    split
    · split <;> rfl
    · rfl
  · simp only [State.cutCells, State.cutSending]
    split
    · split <;> rfl
    · rfl

theorem Kept.withLoop {s t : State} (h : Kept s t) (l : LoopPorts) :
    Kept { s with loop := l } { t with loop := l } := { h with loop := rfl }

/-- R20: what LINK_DOWN brings beside the ports keeps what every step keeps. -/
theorem State.leaveLink_keeps_apart (s : State) (p : PortId) (new : LinkState) (l : LoopPorts) :
    Keeps { s with loop := l } { s.leaveLink p new with loop := l } := by
  have raised := (State.raise_kept ((s.cutCells p).modPort p fun v => v.left new) .linkDown (subjectOf p)
    (s.port p).state.code none).withLoop l
  have cut : ({ (s.cutCells p).modPort p (fun v => v.left new) with loop := l } : State) =
      ({ s with loop := l } : State).modCell fun _ => (s.cutCells p).cell := by
    have apart : ({ (s.cutCells p).modPort p (fun v => v.left new) with loop := l } : State) =
        { s.cutCells p with loop := l } := by cases p <;> rfl
    rw [apart, s.cutCells_rest p]
    rfl
  exact (Keeps.modCell _ _).trans (cut ▸ raised.keeps)

/-- R19: an error that brings the window count to the limit ends the window; any other leaves it below 255. -/
theorem State.lineError_keeps (s : State) (p : PortId) : Keeps s (s.lineError p) := by
  have counted_port (q : PortId) : (s.modPort p Port.erred).port q = if p = q then (s.port p).erred else s.port q :=
    s.modPort_port p q _
  have counted_rest (l : LoopPorts) : ({ s.modPort p Port.erred with loop := l } : State) = { s with loop := l } := by
    cases p <;> rfl
  unfold State.lineError
  split
  · show Keeps s (if s.mgmt.site.errorLimit ≤ ((s.modPort p Port.erred).port p).window then
      (s.modPort p Port.erred).dropLink p else s.modPort p Port.erred)
    split
    · have dropped := State.leaveLink_keeps_apart (s.modPort p Port.erred) p .down
        ((s.modPort p Port.erred).dropLink p).loop
      have same : ({ (s.modPort p Port.erred).leaveLink p .down with
          loop := ((s.modPort p Port.erred).dropLink p).loop } : State) = (s.modPort p Port.erred).dropLink p := by
        cases p <;> rfl
      rw [same, counted_rest] at dropped
      refine ⟨dropped.pending, dropped.station, dropped.time, dropped.coherent, fun hs =>
        dropped.ranges { hs with windows := fun q => ?_ }⟩
      show (((s.modPort p Port.erred).dropLink p).port q).window ≤ 254
      rw [State.dropLink_port]
      split
      · exact Nat.zero_le _
      · next other => rw [counted_port, if_neg other]; exact hs.windows q
    · next below =>
      have hc := counted_rest (s.modPort p Port.erred).loop
      rw [show s.modPort p Port.erred = { s with loop := (s.modPort p Port.erred).loop } from hc]
      refine ⟨rfl, rfl, rfl, id, fun hs => { hs with windows := fun q => ?_ }⟩
      show ((s.modPort p Port.erred).port q).window ≤ 254
      rw [counted_port]
      split
      · rw [counted_port, if_pos rfl] at below
        have := hs.errorLimit
        omega
      · exact hs.windows q
  · exact .refl s

theorem State.arrivingError_keeps (s : State) (p : PortId) : Keeps s (s.arrivingError p) := by
  unfold State.arrivingError
  split
  · split
    · exact s.lineError_keeps .a
    · exact .refl s
  · exact .refl s
  · exact .refl s

theorem State.lossOfSignal_keeps (s : State) (p : PortId) : Keeps s (s.lossOfSignal p) := by
  unfold State.lossOfSignal
  split
  · exact .refl s
  · simp only
    split
    · exact s.arrivingError_keeps p
    · exact (s.arrivingError_keeps p).trans (State.leaveLink_keeps _ p _)

theorem State.gapErrorA_keeps (s : State) : Keeps s s.gapErrorA := by
  unfold State.gapErrorA
  split
  · exact .refl s
  · exact (Keeps.modLoop s (fun l => { l with gapError := true }) id id).trans (State.lineError_keeps _ .a)

theorem State.runErrorB_keeps (s : State) : Keeps s s.runErrorB := by
  unfold State.runErrorB
  split
  · exact .refl s
  · exact (Keeps.modLoop s (fun l => { l with errorRunB := true }) id id).trans (State.lineError_keeps _ .b)

theorem State.windowEnds_keeps (s : State) : Keeps s s.windowEnds :=
  (Keeps.modPort s .a _ fun _ => Nat.zero_le _).trans (.modPort _ .b _ fun _ => Nat.zero_le _)

theorem State.quietEnds_keeps (s : State) (p : PortId) : Keeps s (s.quietEnds p) := by
  unfold State.quietEnds
  split
  · exact .modPort s p _ id
  · exact .refl s

theorem State.heard_keeps (s : State) (p : PortId) : Keeps s (s.heard p) := .modPort s p _ id

theorem State.framing_keeps (s : State) : Keeps s s.framing := by
  unfold State.framing
  split
  · exact s.cutArriving_keeps.trans (State.lineError_keeps _ .a)
  · exact .refl s

theorem State.symbolIn_keeps (s : State) (p : PortId) : Keeps s (s.symbolIn p) := by
  cases p
  · exact (s.heard_keeps .a).trans (State.framing_keeps _)
  · exact (s.heard_keeps .b).trans (.modLoop _ (fun l => { l with errorRunB := false }) id id)

theorem State.hail_keeps (s : State) (p : PortId) : Keeps s (s.hail p) := by
  unfold State.hail
  split
  · exact .modPort s p _ id
  · exact .modPort s p _ id
  · exact .modPort s p _ id
  · exact s.leaveLink_keeps p _

theorem State.hailAck_keeps (s : State) (p : PortId) : Keeps s (s.hailAck p) := by
  unfold State.hailAck
  split
  · exact .modPort s p _ id
  · exact .modPort s p _ id
  · exact .modPort s p _ id
  · exact .refl s

theorem State.idle_keeps (s : State) (p : PortId) : Keeps s (s.idle p) := by
  unfold State.idle
  split
  · exact .modPort s p _ id
  · exact .modPort s p _ id
  · exact .refl s
  · exact .refl s

theorem State.maintenance_keeps (s : State) (p : PortId) (row : State → PortId → State)
    (h : ∀ t, Keeps t (row t p)) : Keeps s (s.maintenance p row) := by
  unfold State.maintenance
  split
  · simp only
    split
    · exact (s.symbolIn_keeps p).trans (h _)
    · exact s.symbolIn_keeps p
  · exact .refl s

theorem State.strayData_keeps (s : State) : Keeps s s.strayData := by
  unfold State.strayData
  split
  · simp only
    split
    · exact (s.heard_keeps .a).trans (.modPort _ .a _ id)
    · exact (s.heard_keeps .a).trans (State.gapErrorA_keeps _)
  · exact .refl s

/-! ## Cells at port A and turns of port B (R24 to R44) -/

theorem State.countVerdict_keeps (s : State) (v : Verdict) (tap : Option (Fin 32)) : Keeps s (s.countVerdict v tap) := by
  unfold State.countVerdict
  split
  · exact .modLoop s _ id id
  · exact .modLoop s _ id id
  · exact .modCell s _
  · exact .refl s
  · exact .refl s
  · exact .refl s

theorem State.judgeHeader_keeps (s : State) (v : Arriving) : Keeps s (s.judgeHeader v) := by
  unfold State.judgeHeader
  exact (s.countVerdict_keeps _ _).trans (.modLoop _ _ id id)

theorem State.countClass_keeps (s : State) (k : CheckClass) : Keeps s (s.countClass k) := by
  cases k with
  | good => exact .refl s
  | damagedUpstream => exact Keeps.modLoop s (fun l => { l with damagedUpstream := bump16 l.damagedUpstream }) id id
  | damagedHere => exact s.lineError_keeps .a

theorem State.finishForward_keeps (s : State) (v : Arriving) (k : CheckClass) (copied : Bool) :
    Keeps s (s.finishForward v k copied) := by
  unfold State.finishForward
  simp only
  split
  · exact (Keeps.modCell s _).trans (State.take_keeps _ _ _)
  · exact (Keeps.modCell s _).trans (State.countClass_keeps _ k)

theorem State.finishCell_keeps (s : State) (v : Arriving) : Keeps s (s.finishCell v) := by
  have ended := Keeps.modLoop s (fun l => { l with arriving := none }) id id
  unfold State.finishCell
  simp only
  split
  · split
    · exact ended.trans (State.settle_keeps _ _)
    · exact ended.trans (State.countClass_keeps _ _)
  · exact ended.trans (State.finishForward_keeps _ _ _ _)
  · exact ended.trans (State.finishForward_keeps _ _ _ _)
  · exact ended.trans (State.countClass_keeps _ _)

theorem State.feed_keeps (s : State) (x : Sym) : Keeps s (s.feed x) := by
  unfold State.feed
  split
  · exact .refl s
  · simp only
    split
    · exact s.judgeHeader_keeps _
    · split
      · exact s.finishCell_keeps _
      · exact .modLoop s _ id id

theorem State.dataIn_keeps (s : State) (x : Sym) : Keeps s (s.dataIn x) := by
  unfold State.dataIn
  split
  · split
    · exact (s.heard_keeps .a).trans (State.feed_keeps _ x)
    · split
      · exact s.strayData_keeps
      · exact (s.heard_keeps .a).trans (State.gapErrorA_keeps _)
  · exact .refl s

theorem State.symbolError_keeps (s : State) (p : PortId) : Keeps s (s.symbolError p) := by
  cases p
  · exact s.dataIn_keeps none
  · simp only [State.symbolError]
    split
    · exact (s.heard_keeps .b).trans (State.runErrorB_keeps _)
    · exact .refl s

theorem State.sendOwn_keeps (s : State) (o : OwnCell) : Keeps s (s.sendOwn o) := by
  have gone : Keeps s (if s.loop.portB.state = .up then
      (s.modCell fun c => c.track o).modCell fun c =>
        { c with sending := .own (ownBytes s.station.toNat (s.cell.tagFor o) o) }
      else (s.modCell fun c => c.track o).modCell fun c =>
        { c with sending := .discardedOwn, ownDiscarded := bump16 c.ownDiscarded }) := by
    split <;> exact (Keeps.modCell s _).trans (.modCell _ _)
  unfold State.sendOwn
  simp only
  split
  · exact gone.trans (State.warmRestart_keeps _)
  · exact gone

theorem State.queueTurn_keeps (s : State) : Keeps s s.queueTurn := by
  unfold State.queueTurn
  simp only
  split
  · exact (Keeps.modCell s _).trans (State.sendOwn_keeps _ _)
  · split
    · exact (Keeps.modCell s _).trans (State.sendOwn_keeps _ _)
    · exact .refl s

theorem State.passTurn_keeps (s : State) (sent : Sending) : Keeps s (s.passTurn sent) := by
  unfold State.passTurn
  split <;> exact .modCell s _

theorem State.arrivingTurn_keeps (s : State) (v : Arriving) : Keeps s (s.arrivingTurn v) := by
  unfold State.arrivingTurn
  split
  · exact .refl s
  · exact (s.passTurn_keeps _).trans (.modLoop _ _ id id)

theorem State.freeTurn_keeps (s : State) : Keeps s s.freeTurn := by
  unfold State.freeTurn
  split
  · exact (Keeps.modCell s _).trans (State.passTurn_keeps _ _)
  · split
    · exact s.arrivingTurn_keeps _
    · exact s.arrivingTurn_keeps _
    · exact s.queueTurn_keeps
    · split
      · exact .modCell s _
      · exact s.queueTurn_keeps
  · exact s.queueTurn_keeps

theorem State.portBTurn_keeps (s : State) : Keeps s s.portBTurn := by
  have free := (Keeps.modCell s fun c => { c with sending := .idle }).trans (State.freeTurn_keeps _)
  unfold State.portBTurn
  split
  · exact .refl s
  all_goals exact free

theorem State.makeRoom_keeps (s : State) : Keeps s s.makeRoom := by
  unfold State.makeRoom
  split
  · exact s.portBTurn_keeps
  · exact .refl s

theorem State.beginCell_keeps (s : State) : Keeps s s.beginCell := by
  unfold State.beginCell
  split
  · exact s.makeRoom_keeps.trans (.modLoop _ _ id id)
  · exact (Keeps.modLoop s _ id id).trans (.modPort _ .a _ id)

theorem State.cellContinues_keeps (s : State) (rest : List Sym) : Keeps s (s.cellContinues rest) :=
  .foldl _ State.dataIn_keeps _ s

theorem State.cellBegins_keeps (s : State) (head : List Sym) : Keeps s (s.cellBegins head) := by
  have begun := (s.heard_keeps .a).trans (State.framing_keeps _)
  unfold State.cellBegins
  split
  · simp only
    split
    · exact (begun.trans (State.beginCell_keeps _)).trans (.foldl _ State.dataIn_keeps _ _)
    · exact begun
  · exact .refl s

/-! ## The Site Timebase (R12, R13) -/

theorem State.lossTick_keeps (s : State) (p : PortId) : Keeps s (s.lossTick p) := by
  unfold State.lossTick
  split
  · exact .refl s
  · split
    · exact s.lossOfSignal_keeps p
    · exact .modPort s p _ id

theorem State.quietTick_keeps (s : State) (p : PortId) : Keeps s (s.quietTick p) := by
  unfold State.quietTick
  split
  · exact s.quietEnds_keeps p
  · exact .modPort s p _ id

theorem State.trackerTick_keeps (s : State) : Keeps s s.trackerTick :=
  (Keeps.modCell s _).trans (.foldl _ State.returnExpires_keeps _ _)

theorem State.msTick_keeps (s : State) : Keeps s s.msTick :=
  ((((s.lossTick_keeps .a).trans (State.lossTick_keeps _ .b)).trans (State.quietTick_keeps _ .a)).trans
    (State.quietTick_keeps _ .b)).trans (State.trackerTick_keeps _)

theorem State.skyTick_keeps (s : State) : Keeps s s.skyTick := by
  unfold State.skyTick
  split
  · exact s.skyExpires_keeps
  · exact .modSeqr s _

theorem State.lostTick_keeps (s : State) (c : ScreenId) : Keeps s (s.lostTick c) := by
  unfold State.lostTick
  split
  · exact s.lostDelayExpires_keeps c
  · exact .modInput s c _

theorem State.txTick_keeps (s : State) (c : ScreenId) : Keeps s (s.txTick c) := by
  unfold State.txTick
  split
  · exact s.txSilent_keeps c
  · exact .modTransmitter s c _

theorem State.passTick_keeps (s : State) (l : LaneId) : Keeps s (s.passTick l) := by
  unfold State.passTick
  split
  · exact .refl s
  · split
    · exact s.passExpires_keeps l
    · exact .modLane s l _

theorem State.laneTick_keeps (s : State) (l : LaneId) : Keeps s (s.laneTick l) := by
  unfold State.laneTick
  split
  · exact s.silenceExpires_keeps l
  · exact .modLane s l _

theorem State.secondTick_keeps (s : State) : Keeps s s.secondTick :=
  ((((s.windowEnds_keeps.trans (State.skyTick_keeps _)).trans (.foldl _ State.lostTick_keeps _ _)).trans
    (.foldl _ State.txTick_keeps _ _)).trans (.foldl _ State.passTick_keeps _ _)).trans
    (.foldl _ State.laneTick_keeps _ _)

theorem State.lateTick_keeps (s : State) (t : TicketId) : Keeps s (s.lateTick t) := by
  unfold State.lateTick
  split
  · exact .refl s
  · split
    · exact s.lateExpires_keeps t
    · exact (Kept.of_modTicket s t _).keeps

theorem State.recallTick_keeps (s : State) (n : Nat) : Keeps s (s.recallTick n) := by
  unfold State.recallTick
  split
  · exact .refl s
  · split
    · split
      · exact s.recallExpires_keeps n
      · exact .modOrder s n _
    · exact .refl s

theorem State.minuteTick_keeps (s : State) : Keeps s s.minuteTick :=
  (Keeps.foldl _ State.lateTick_keeps _ s).trans (.foldl _ State.recallTick_keeps _ _)

/-- R12: the four kinds of tick: where the counters stand before and after. -/
theorem Timebase.kind_cases (t : Timebase) :
    (t.kind = .ms ∧ t.ms < 9 ∧ t.next = { t with ms := t.ms + 1 }) ∨
    (t.kind = .tens ∧ 9 ≤ t.ms ∧ t.tens < 99 ∧ t.next = { t with ms := 0, tens := t.tens + 1 }) ∨
    (t.kind = .second ∧ 9 ≤ t.ms ∧ 99 ≤ t.tens ∧ t.secs < 59 ∧ t.next = { ms := 0, tens := 0, secs := t.secs + 1 }) ∨
    (t.kind = .minute ∧ 9 ≤ t.ms ∧ 99 ≤ t.tens ∧ 59 ≤ t.secs ∧ t.next = { ms := 0, tens := 0, secs := 0 }) := by
  by_cases ms : t.ms < 9
  · exact .inl (by simp [Timebase.next, Timebase.kind, ms])
  · by_cases tens : t.tens < 99
    · exact .inr (.inl (by simp [Timebase.next, Timebase.kind, ms, tens]; omega))
    · by_cases secs : t.secs < 59
      · exact .inr (.inr (.inl (by simp [Timebase.next, Timebase.kind, ms, tens, secs]; omega)))
      · exact .inr (.inr (.inr (by simp [Timebase.next, Timebase.kind, ms, tens, secs]; omega)))

/-- R12: the tick counters go on within their ranges. -/
theorem Timebase.next_range {t : Timebase} (h : t.ms ≤ 9 ∧ t.tens ≤ 99 ∧ t.secs ≤ 59) :
    t.next.ms ≤ 9 ∧ t.next.tens ≤ 99 ∧ t.next.secs ≤ 59 := by
  obtain ⟨hms, htens, hsecs⟩ := h
  rcases t.kind_cases with ⟨-, _, k⟩ | ⟨-, _, _, k⟩ | ⟨-, _, _, _, k⟩ | ⟨-, _, _, _, k⟩ <;> rw [k] <;> dsimp only <;> omega

/-- R12: a tick after its counters have moved. -/
theorem State.tick_keeps (s : State) : Keeps { s with time := s.time.next } s.tick := by
  have ms := State.msTick_keeps { s with time := s.time.next }
  have tens := ms.trans (State.tensTick_staged _).keeps
  have second := tens.trans (State.secondTick_keeps _)
  unfold State.tick
  simp only
  split
  · exact ms
  · exact tens
  · exact second
  · exact second.trans (State.minuteTick_keeps _)

theorem State.tick_ranges (s : State) (h : s.inRange) : s.tick.inRange :=
  s.tick_keeps.ranges
    { h with
      ticks := Timebase.next_range h.ticks
      windows := fun p => by cases p <;> [exact h.windows .a; exact h.windows .b] }

end Sys2Proof.Machine

namespace Sys2Proof.Machine

/-! ## Every command, and a step -/

/-- R77: a slew step leaves a line's positions in the ring. -/
theorem DelayLine.inRing.slew {l : DelayLine} (h : l.inRing) (target : Nat) : (l.slew target).inRing :=
  have moved := DelayLine.advance_inRing h (l.slewMove target)
  ⟨moved.read, moved.write⟩

/-- Every command but a cold reset ends in a next state, which keeps what every step keeps. -/
theorem exec_keeps (c : Instr) (s : State) (h : ∀ strap, c ≠ .coldReset strap) :
    ∃ t, exec c s = .next t ∧ Keeps s t := by
  cases c with
  | coldReset strap => exact absurd rfl (h strap)
  | hailReceived => exact ⟨_, rfl, s.maintenance_keeps _ _ fun t => t.hail_keeps _⟩
  | hailAckReceived => exact ⟨_, rfl, s.maintenance_keeps _ _ fun t => t.hailAck_keeps _⟩
  | idleReceived => exact ⟨_, rfl, s.maintenance_keeps _ _ fun t => t.idle_keeps _⟩
  | symbolErrorReceived => exact ⟨_, rfl, s.symbolError_keeps _⟩
  | lossOfSignal => exact ⟨_, rfl, s.lossOfSignal_keeps _⟩
  | quietPeriodEnd => exact ⟨_, rfl, s.quietEnds_keeps _⟩
  | lineErrorWindowEnd => exact ⟨_, rfl, s.windowEnds_keeps⟩
  | cellHeaderArrives => exact ⟨_, rfl, s.cellBegins_keeps _⟩
  | cellTailArrives => exact ⟨_, rfl, s.cellContinues_keeps _⟩
  | portBTurn => exact ⟨_, rfl, s.portBTurn_keeps⟩
  | returnTimeout => exact ⟨_, rfl, s.returnExpires_keeps _⟩
  | mgmtWrite | siteWrite | screenWrite | segmentWrite | cueWrite | outputWrite | clipWrite | phraseWrite
  | eventWrite | laneWrite | menuWrite | stationWrite | tapWrite =>
    exact ⟨_, rfl, (s.cellSeen_keeps _).trans (State.takeWrite_keeps _ _ _ _ _)⟩
  | outputStatusRead => exact ⟨_, rfl, (s.cellSeen_keeps _).trans (State.takeRead_keeps _ _ _ _ _)⟩
  | start | go | hold | abort | rehearse | clipSeal | clipDelete | announce | setCount | setAdmission
  | setOrdering | cancelOrder | clearFault | clearCounters | restartWarm =>
    exact ⟨_, rfl, (s.cellSeen_keeps _).trans (State.takeCommand_keeps _ _ _)⟩
  | panelKey => exact ⟨_, rfl, (s.cellSeen_keeps _).trans (State.takePanelKey_staged _ _ _ _).keeps⟩
  | clipData => exact ⟨_, rfl, (s.cellSeen_keeps _).trans (State.takeClipData_keeps _ _ _ _ _ _)⟩
  | showClockTick => exact ⟨_, rfl, (Staged.foldl _ State.timebaseClock_staged _ s).keeps⟩
  | programmeClockTick => exact ⟨_, rfl, (s.programmeClock_staged _).keeps⟩
  | restEnd => exact ⟨_, rfl, (s.endRest_staged _).keeps⟩
  | skyReport => exact ⟨_, rfl, (s.cellSeen_keeps _).trans (State.takeSkyReport_keeps _ _)⟩
  | skyAgeExpiry => exact ⟨_, rfl, s.skyExpires_keeps⟩
  | projState => exact ⟨_, rfl, (s.cellSeen_keeps _).trans (State.takeProjState_staged _ _ _).keeps⟩
  | programmeFrame => exact ⟨_, rfl, s.takeFrame_keeps _ _ _ _ _⟩
  | frameMissed => exact ⟨_, rfl, s.missFrame_keeps _⟩
  | soundLostDelayExpiry => exact ⟨_, rfl, s.lostDelayExpires_keeps _⟩
  | samplePeriod => exact ⟨_, rfl, s.samplePeriod_keeps⟩
  | slewStep => exact ⟨_, rfl, Keeps.modLine s _ _ fun h => h.slew _⟩
  | levelBlockEnd => exact ⟨_, rfl, s.endBlock_keeps _⟩
  | txStatus => exact ⟨_, rfl, (s.cellSeen_keeps _).trans (State.takeTxStatus_keeps _ _ _ _)⟩
  | txSilenceExpiry => exact ⟨_, rfl, s.txSilent_keeps _⟩
  | fillCompletion => exact ⟨_, rfl, s.completeFill_keeps⟩
  | entryStart => exact ⟨_, rfl, (s.startEntry_kept _).keeps⟩
  | entryEnd => exact ⟨_, rfl, (s.endEntry_kept _).keeps⟩
  | admitAsk => exact ⟨_, rfl, (s.cellSeen_keeps _).trans (State.takeAdmitAsk_keeps _ _ _ _)⟩
  | laneBeat | stationBeat => exact ⟨_, rfl, s.cellSeen_keeps _⟩
  | entered | backedOut | exited => exact ⟨_, rfl, (s.cellSeen_keeps _).trans (State.takePassage_keeps _ _ _ _)⟩
  | passTimeout => exact ⟨_, rfl, s.passExpires_keeps _⟩
  | laneSilenceExpiry => exact ⟨_, rfl, s.silenceExpires_keeps _⟩
  | orderPlace => exact ⟨_, rfl, (s.cellSeen_keeps _).trans (State.takeOrderPlace_keeps _ _ _ _)⟩
  | bump => exact ⟨_, rfl, (s.cellSeen_keeps _).trans (State.takeBump_keeps _ _ _ _)⟩
  | recallExpiry => exact ⟨_, rfl, s.recallExpires_keeps _⟩
  | lateTimerExpiry => exact ⟨_, rfl, s.lateOf_keeps _ _⟩
  | pickup => exact ⟨_, rfl, (s.cellSeen_keeps _).trans (State.takePickup_keeps _ _ _)⟩
  | dataSymbolOutsideCell => exact ⟨_, rfl, s.strayData_keeps⟩

/-- Table 1-2: a screen record after a cold reset. -/
theorem State.cold_screen (strap : BitVec 7) (l : List Instr) (c : ScreenId) :
    ({ State.cold strap with pending := l } : State).screens[c] = {} := by
  simp [State.cold]

/-- A site right after a cold reset is coherent and in range, with any commands waiting. -/
theorem State.cold_coherent (strap : BitVec 7) (l : List Instr) :
    ({ State.cold strap with pending := l } : State).screensCoherent := by
  intro c
  rw [State.cold_screen strap l c]
  exact ⟨fun _ => rfl, fun _ => rfl, fun _ => ⟨rfl, rfl⟩, by decide⟩

theorem State.cold_inRange (strap : BitVec 7) (l : List Instr) :
    ({ State.cold strap with pending := l } : State).inRange where
  ticks := ⟨Nat.zero_le _, Nat.zero_le _, Nat.zero_le _⟩
  errorLimit := (by decide : 16 ≤ 255)
  windows p := by
    have cold : (Port.cold strap).window = 0 := by unfold Port.cold; split <;> rfl
    cases p <;> exact (Nat.le_of_eq cold).trans (by decide)
  marks c := .inr (by simp [State.cold])
  segments c := by simp [State.cold]
  lines c := by simp [State.cold]
  delays o := by simp [State.cold]
  clips k := by simp [State.cold]
  nextNumber := ⟨Nat.le_refl 1, (by decide : 1 ≤ 999)⟩

theorem step_front {s : State} {c : Instr} {rest : List Instr} (h : s.pending = c :: rest) :
    step s = exec c { s with pending := rest } := by
  simp only [step, h]

theorem step_empty {s : State} (h : s.pending = []) : step s = .next s.tick := by
  simp only [step, h]

/-- A step is a tick, a cold reset, or a command that keeps what every step keeps. -/
theorem step_cases {s t : State} (h : step s = .next t) :
    t = s.tick ∨ (∃ strap l, t = { State.cold strap with pending := l }) ∨ ∃ l, Keeps { s with pending := l } t := by
  cases queue : s.pending with
  | nil =>
    rw [step_empty queue] at h
    cases h
    exact .inl rfl
  | cons c rest =>
    rw [step_front queue] at h
    by_cases reset : ∃ strap, c = .coldReset strap
    · obtain ⟨strap, rfl⟩ := reset
      cases h
      exact .inr (.inl ⟨strap, rest, rfl⟩)
    · obtain ⟨u, hu, keeps⟩ := exec_keeps c { s with pending := rest } fun strap hc => reset ⟨strap, hc⟩
      rw [hu] at h
      cases h
      exact .inr (.inr ⟨rest, keeps⟩)

end Sys2Proof.Machine

namespace Sys2Proof.Proofs
open Machine

/-- Settles O57: a tick, a cold reset and every other command keep every screen record coherent. -/
theorem everyStepKeepsScreens : Obligations.EveryStepKeepsScreens := by
  intro s t hs h
  rcases step_cases h with rfl | ⟨strap, l, rfl⟩ | ⟨l, keeps⟩
  · exact s.tick_keeps.coherent hs
  · exact State.cold_coherent strap l
  · exact keeps.coherent hs

/-- Settles O59: a tick, a cold reset and every other command keep every quantity in its range. -/
theorem everyStepKeepsRanges : Obligations.EveryStepKeepsRanges := by
  intro s t hs h
  rcases step_cases h with rfl | ⟨strap, l, rfl⟩ | ⟨l, keeps⟩
  · exact s.tick_ranges hs
  · exact State.cold_inRange strap l
  · exact keeps.ranges { hs with windows := fun p => by cases p <;> [exact hs.windows .a; exact hs.windows .b] }

/-- Settles O1, by the equation of a step with a command in front. -/
theorem stepRunsFrontCommand : Obligations.StepRunsFrontCommand := fun _ _ _ => step_front

/-- Settles O4: every screen record after a cold reset is the default record of Table 1-2. -/
theorem coldResetScreens : Obligations.ColdResetScreens := by
  intro strap s
  refine ⟨_, rfl, rfl, fun c => ?_⟩
  simp [State.availability, Screen.availability, State.cold]

/-- R40, R43, R76, R93, R103, R113: stores, queues, tracker and counts of a site right after reset are empty. -/
theorem reset_fits : State.reset.fits where
  stores := ⟨reset_memory_wf, fun c => by simp [State.reset, State.cold, Memory.wf]⟩
  queue := Nat.zero_le _
  tracker := ⟨by decide, .nil⟩
  tags := nofun
  announcements o := by
    have queue : State.reset.ann.queues[o] = {} := by simp [State.reset, State.cold]
    rw [queue]
    exact ⟨by decide, .nil⟩
  pending c := by
    simp [State.lanesPending, State.lanesTallPending, State.reset, State.cold]
  counts c := by simp [State.reset, State.cold]

/-- Settles O60, by the values of a cold reset. -/
theorem resetMeetsInvariants : Obligations.ResetMeetsInvariants :=
  ⟨State.cold_coherent _ [], reset_fits, State.cold_inRange _ []⟩

end Sys2Proof.Proofs

/-! PROOFS. What announcing and raising events leave as it is, field by field (`Announced`, `Raised`): sharper than `Kept`,
for the claims that give a whole next state. -/

namespace Sys2Proof.Machine

/-! ## Announcing and releasing held calls (R101 to R109) -/

/-- `t` is `s` after announcements were made and held calls released: the Composer, held-call lists and the call activity of
orders apart, nothing has changed. -/
structure Announced (s t : State) : Prop where
  kept : Kept s t
  rest : t = { s with screens := t.screens, ann := t.ann, router := { s.router with orders := t.router.orders } }

theorem Announced.refl (s : State) : Announced s s := ⟨.refl s, rfl⟩

theorem Announced.trans {s t u : State} (h : Announced s t) (k : Announced t u) : Announced s u :=
  ⟨h.kept.trans k.kept, by rw [k.rest, h.rest]⟩

theorem Announced.foldl {α : Type} (f : State → α → State) (h : ∀ s a, Announced s (f s a)) (l : List α) (s : State) :
    Announced s (l.foldl f s) := by
  induction l generalizing s with
  | nil => exact .refl s
  | cons a l ih => exact (h s a).trans (ih _)

/-- R101, R103: a rendering changes the Composer alone. -/
theorem State.renderAndPlace_ann (s : State) (r : Request) (o : OutputId) :
    s.renderAndPlace r o = { s with ann := (s.renderAndPlace r o).ann } := by
  unfold State.renderAndPlace
  simp only
  split <;> rfl

theorem State.renderAndPlace_announced (s : State) (r : Request) (o : OutputId) : Announced s (s.renderAndPlace r o) :=
  ⟨s.renderAndPlace_kept r o, by rw [s.renderAndPlace_ann r o]⟩

theorem Announced.heldCalls (s : State) (c : ScreenId) (l : List Nat) : Announced s (s.setHeldCalls c l) :=
  ⟨.of_heldCalls s c l, rfl⟩

theorem State.reportActivity_announced (s t : State) : Announced t (s.reportActivity t) :=
  ⟨State.reportActivity_kept s t, rfl⟩

theorem State.moveCalls_announced (c : ScreenId) (n : Nat) (s : State) : Announced s (State.moveCalls c n s) := by
  induction n generalizing s with
  | zero => exact .refl s
  | succ n ih =>
    unfold State.moveCalls
    split
    · exact .refl s
    · split
      · exact ((Announced.heldCalls s c _).trans (State.renderAndPlace_announced _ _ _)).trans (ih _)
      · exact .refl s

theorem State.moveHeld_announced (s : State) (c : ScreenId) : Announced s (s.moveHeld c) :=
  State.moveCalls_announced c _ s

theorem State.releaseHeld_announced (s : State) (c : ScreenId) : Announced s (s.releaseHeld c) :=
  (s.moveHeld_announced c).trans (State.reportActivity_announced _ _)

theorem State.emptyQueues_announced (s : State) : Announced s s.emptyQueues := by
  refine ⟨s.emptyQueues_kept, ?_⟩
  have moved := (Announced.foldl _ State.moveHeld_announced allScreens (s.modAnn fun a =>
    { a with queues := Vector.replicate 5 {}, clips := a.clips.map fun c => { c with uses := 0 } })).trans
    (State.reportActivity_announced s _)
  exact moved.rest.trans rfl

/-! ## Raising events (R110, R158) -/

/-- `t` is `s` after events were raised: the Composer, the call activity of orders, the NORMAL class with its drops, the
count of notices and the draws apart, nothing has changed. -/
structure Raised (s t : State) : Prop where
  kept : Kept s t
  rest : t =
    { s with
      freeCount := t.freeCount, ann := t.ann
      cell := { s.cell with normal := t.cell.normal, queueDrops := t.cell.queueDrops }
      router := { s.router with orders := t.router.orders }
      mgmt := { s.mgmt with notices := t.mgmt.notices } }

theorem Raised.refl (s : State) : Raised s s := ⟨.refl s, rfl⟩

theorem Raised.trans {s t u : State} (h : Raised s t) (k : Raised t u) : Raised s u :=
  ⟨h.kept.trans k.kept, by rw [k.rest, h.rest]⟩

theorem Raised.screens {s t : State} (h : Raised s t) : t.screens = s.screens := by rw [h.rest]

theorem Raised.urgent {s t : State} (h : Raised s t) : t.cell.urgent = s.cell.urgent := by rw [h.rest]

/-- R102: a request of an event renders on its outputs, and moves and holds no call. -/
theorem State.request_event (s : State) (r : Request) (h : r.order = none) :
    s.request r = { s with ann := (s.request r).ann } := by
  unfold State.request
  induction allOutputs generalizing s with
  | nil => rfl
  | cons o l ih =>
    rw [List.foldl_cons]
    split
    · rw [ih]
      simp only [State.requestOne, h]
      rw [s.renderAndPlace_ann r o]
    · exact ih s

theorem State.eventRequest_raised (s : State) (e : Event) (n : Nat) : Raised s (s.eventRequest e n) := by
  refine ⟨s.eventRequest_kept e n, ?_⟩
  unfold State.eventRequest
  split
  · rfl
  · split
    · rfl
    · rw [State.announce, s.request_event _ rfl]
      rfl

/-- R41: a NORMAL cell handed over changes the NORMAL class and its drops, by one cell at most. -/
theorem State.handNormal_rest (s : State) (o : OwnCell) (h : o.kind.isUrgent = false) :
    (s.handNormal o).1 =
      { s with
        cell :=
          { s.cell with
            normal := (s.handNormal o).1.cell.normal, queueDrops := (s.handNormal o).1.cell.queueDrops } } := by
  rcases s.cell.handOver_cases o with ⟨-, -, -, k⟩ | ⟨-, k, -⟩ | ⟨-, -, -, -, k⟩
  · simp [State.handNormal, k, h]
  · simp [h] at k
  · simp [State.handNormal, k, CellProcessor.countDrop]

theorem CellProcessor.handOver_queued (c : CellProcessor) (o : OwnCell) : (c.handOver o).cell.queued ≤ c.queued + 1 := by
  rcases c.handOver_cases o with ⟨-, -, -, k⟩ | ⟨-, -, last, -, -, -, k⟩ | ⟨-, -, -, -, k⟩
  · rw [k]
    split <;> simp only [CellProcessor.queued, List.length_append, List.length_singleton] <;> omega
  · rw [k]
    simp only [CellProcessor.queued, List.length_append, List.length_singleton, List.length_dropLast]
    omega
  · rw [k]
    exact Nat.le_succ _

theorem State.sendNotice_raised (s : State) (e : Event) (n v : Nat) (c : Option ScreenId) :
    Raised s (s.sendNotice e n v c) := by
  refine ⟨s.sendNotice_kept e n v c, ?_⟩
  unfold State.sendNotice
  split
  · rw [State.handNormal_rest _ _ rfl]
    rfl
  · rfl

theorem State.sendNotice_queued (s : State) (e : Event) (n v : Nat) (c : Option ScreenId) :
    (s.sendNotice e n v c).cell.queued ≤ s.cell.queued + 1 := by
  unfold State.sendNotice
  split
  · exact CellProcessor.handOver_queued _ _
  · exact Nat.le_succ _

theorem State.raise_raised (s : State) (e : Event) (n v : Nat) (c : Option ScreenId) : Raised s (s.raise e n v c) :=
  (s.eventRequest_raised e n).trans (State.sendNotice_raised _ e n v c)

/-- R158: an event hands over one NOTICE at most. -/
theorem State.raise_queued (s : State) (e : Event) (n v : Nat) (c : Option ScreenId) :
    (s.raise e n v c).cell.queued ≤ s.cell.queued + 1 := by
  have asked : (s.eventRequest e n).cell.queued = s.cell.queued := by
    unfold State.eventRequest
    split
    · rfl
    · split
      · rfl
      · rw [State.announce, s.request_event _ rfl]
        rfl
  exact asked ▸ State.sendNotice_queued _ e n v c

/-! ## The rest of the part beside its traffic -/

theorem State.sameButTraffic.refl (s : State) : s.sameButTraffic s := rfl

theorem State.sameButTraffic.trans {s t u : State} (h : s.sameButTraffic t) (k : t.sameButTraffic u) :
    s.sameButTraffic u := by
  unfold State.sameButTraffic at *
  rw [k, h]

theorem Announced.sameButTraffic {s t : State} (h : Announced s t) : s.sameButTraffic t := by
  rw [h.rest]
  rfl

theorem Raised.sameButTraffic {s t : State} (h : Raised s t) : s.sameButTraffic t := by
  rw [h.rest]
  rfl

theorem State.modScreen_sameButTraffic (s : State) (c : ScreenId) (f : Screen → Screen) :
    s.sameButTraffic (s.modScreen c f) := rfl

/-! ## Management cells of the console, answered (R154, R155) -/

/-- The payload of a command's reply, with the two bytes no rule gives a value (log 22). -/
theorem replyCell_command (draw : Nat) (m : Sender) (code : Nat) (r : Reply) :
    replyCell draw m ⟨BitVec.ofNat 8 code, none⟩ r [] false =
      mgmtReplyTo m (commandReply r.code code (Config.unstated draw .commandIndexLow)
        (Config.unstated draw .commandIndexHigh)) := by
  simp [replyCell, mgmtReplyTo, commandReply, Echo.indexBytes, le8]

/-- The two bytes of the next command's reply that no rule gives a value (log 22). -/
abbrev State.indexLow (s : State) : Byte := Config.unstated s.freeCount .commandIndexLow

abbrev State.indexHigh (s : State) : Byte := Config.unstated s.freeCount .commandIndexHigh

/-- A reply code that counts as a refusal (R159). -/
def Reply.refuses : Reply → Bool
  | .done | .notConsole => false
  | .range | .overlap | .inUse | .state | .busy | .unknown => true

theorem Management.countAnswer_refuses (m : Management) {r : Reply} (h : r.refuses = true) :
    m.countAnswer r = { m with refusals := bump16 m.refusals } := by
  cases r with
  | done | notConsole => cases h
  | range | overlap | inUse | state | busy | unknown => rfl

theorem State.hasRoom.queued {s : State} {n : Nat} (h : s.hasRoom n) : s.cell.queued + n ≤ 16 := h

/-- A command of the console that its owner refuses changes nothing but the counts. -/
theorem State.command_refused {s : State} {n : Nat} {m : Sender} {c : Command} {r : Reply} (h : s.readyFor n m)
    (room : 1 ≤ n) (hc : c ≠ .restartWarm) (ho : s.countTaken.obey c = (s.countTaken, r)) (hr : r.refuses = true) :
    (s.cellSeen m.source).takeCommand m c =
      s.turnedAway m (commandReply r.code c.code s.indexLow s.indexHigh) := by
  have hq : s.cell.queued < 16 := by have := h.room.queued; omega
  rw [State.cellSeen_stranger h.stranger, State.takeCommand, if_neg hc]
  rw [State.takeMgmt_passes (r := Written.out (s.countTaken, r)) h (congrArg Written.out ho) hq]
  simp only [Written.out, replyCell_command, Management.countAnswer_refuses _ hr]
  rfl

/-- A command of the console that its owner does: the reply is queued behind what the command has sent. -/
theorem State.command_done {s u : State} {n : Nat} {m : Sender} {c : Command} (h : s.readyFor n m)
    (hc : c ≠ .restartWarm) (ho : s.countTaken.obey c = (u, .done)) (hq : u.cell.queued < 16) :
    (s.cellSeen m.source).takeCommand m c =
      { u with
        freeCount := u.freeCount + 1
        cell :=
          { u.cell with
            urgent := u.cell.urgent ++
              [mgmtReplyTo m (commandReply 0 c.code s.indexLow s.indexHigh)] } } := by
  rw [State.cellSeen_stranger h.stranger, State.takeCommand, if_neg hc]
  rw [State.takeMgmt_passes (r := Written.out (u, .done)) h (congrArg Written.out ho) hq]
  simp only [Written.out, replyCell_command]
  rfl

/-- A screen's number, as a byte, names the screen; 0 and numbers above 4 name none (R157). -/
theorem fromOne_screen (c : ScreenId) : fromOne 4 (BitVec.ofNat 8 (c.val + 1) : Byte).toNat = some c := by
  revert c
  decide

theorem fromOne_none {b : Byte} (h : b = 0 ∨ 4 < b.toNat) : fromOne 4 b.toNat = none := by
  have out : ¬ (1 ≤ b.toNat ∧ b.toNat ≤ 4) := by
    rcases h with rfl | h
    · decide
    · omega
  simp only [fromOne, out, dite_false]

theorem State.screenCommand_screen (s : State) (c : ScreenId) (f : State → ScreenId → Written) :
    s.screenCommand (BitVec.ofNat 8 (c.val + 1)) f = f s c := by
  simp only [State.screenCommand, fromOne_screen]

theorem State.screenCommand_none (s : State) {b : Byte} (h : b = 0 ∨ 4 < b.toNat) (f : State → ScreenId → Written) :
    s.screenCommand b f = (s, .range) := by
  simp only [State.screenCommand, fromOne_none h]

end Sys2Proof.Machine

/-! PROOFS. HOLD, REHEARSE and ABORT (R64, R65, R62, R10, R68). -/

namespace Sys2Proof.Machine

/-! ## The end of a show (R62, R10) -/

/-- What a change of show state brings beside the record: announcements, calls released and one event. -/
theorem State.showReactions_sameButTraffic (s : State) (c : ScreenId) (old new : ShowState) :
    s.sameButTraffic (s.showReactions c old new) := by
  unfold State.showReactions
  split
  · exact (s.releaseHeld_announced c).sameButTraffic.trans (State.raise_raised _ _ _ _ _).sameButTraffic
  · exact (State.raise_raised _ _ _ _ _).sameButTraffic

theorem State.showReactions_cell (s : State) (c : ScreenId) (old new : ShowState) :
    (s.showReactions c old new).cell.urgent = s.cell.urgent ∧
      (s.showReactions c old new).cell.queued ≤ s.cell.queued + 1 := by
  have released : (s.releaseHeld c).cell = s.cell := by rw [(s.releaseHeld_announced c).rest]
  unfold State.showReactions
  split
  · exact released ▸ ⟨(State.raise_raised _ _ _ _ _).urgent, State.raise_queued _ _ _ _ _⟩
  · exact ⟨(State.raise_raised _ _ _ _ _).urgent, State.raise_queued _ _ _ _ _⟩

/-- From `s` to `t` screen `c`'s show has ended in IDLE and DARK at a cue index (R62). -/
structure Ended (s : State) (c : ScreenId) (index : Nat) (t : State) : Prop where
  seq : t.screens[c].seq = { s.screens[c].seq.idled index with shown := .dark }
  config : t.screens[c].config = s.screens[c].config
  occupancy : t.screens[c].field.occupancy = s.screens[c].field.occupancy
  closed : s.screens[c].seq.shown ≠ .dark → t.screens[c].field.admission = .closed ∧ t.screens[c].ordering = .closed
  others : ∀ d : ScreenId, d ≠ c → t.screens[d].seq = s.screens[d].seq ∧ t.screens[d].field = s.screens[d].field ∧
    t.screens[d].ordering = s.screens[d].ordering
  seqr : t.seqr = s.seqr
  urgent : t.cell.urgent = s.cell.urgent
  queued : t.cell.queued ≤ s.cell.queued + 1
  traffic : s.sameButTraffic t

theorem State.modScreen_self (s : State) (c : ScreenId) (f : Screen → Screen) :
    (s.modScreen c f).screens[c] = f s.screens[c] := by simp

theorem State.modScreen_other (s : State) (c : ScreenId) (f : Screen → Screen) {d : ScreenId} (h : d ≠ c) :
    (s.modScreen c f).screens[d] = s.screens[d] := by
  have : c.val ≠ d.val := fun e => h (Fin.ext e.symm)
  simp [this]

theorem State.toIdle_ended (s : State) (c : ScreenId) (index : Nat) : Ended s c index (s.toIdle c index) := by
  by_cases dark : s.screens[c].seq.shown = .dark
  · rw [s.toIdle_dark c index dark, State.modSeq]
    refine ⟨?_, ?_, ?_, fun h => absurd dark h, fun d hd => ?_, rfl, rfl, Nat.le_succ _, rfl⟩
    · rw [State.modScreen_self, ← dark]
      rfl
    · rw [State.modScreen_self]
    · rw [State.modScreen_self]
    · rw [State.modScreen_other s c _ hd]
      exact ⟨rfl, rfl, rfl⟩
  · rw [s.toIdle_lit c index dark]
    obtain ⟨urgent, queued⟩ := State.showReactions_cell
      (s.modScreen c fun v => { v.darkened with seq := v.darkened.seq.idled index }) c s.screens[c].seq.shown .dark
    have kept := State.showReactions_kept
      (s.modScreen c fun v => { v.darkened with seq := v.darkened.seq.idled index }) c s.screens[c].seq.shown .dark
    have traffic := State.showReactions_sameButTraffic
      (s.modScreen c fun v => { v.darkened with seq := v.darkened.seq.idled index }) c s.screens[c].seq.shown .dark
    have self := kept.screens c
    rw [State.modScreen_self] at self
    refine ⟨?_, ?_, ?_, fun _ => ?_, fun d hd => ?_, kept.seqr, urgent, queued, ?_⟩
    · rw [self]
      rfl
    · rw [self]
      rfl
    · rw [self]
      rfl
    · rw [self]
      exact ⟨rfl, rfl⟩
    · rw [kept.screens d, State.modScreen_other s c _ hd]
      exact ⟨rfl, rfl, rfl⟩
    · exact (s.modScreen_sameButTraffic c _).trans traffic

/-- R68: a command to a projector that has a station, with room in the queue, and to one that has none. -/
theorem State.sendProj_none {s : State} {c : ScreenId} (h : s.screens[c].config.projector = 0) (command argument : Nat) :
    s.sendProj c command argument = s.modSeqr fun q => { q with skippedProj := bump16 q.skippedProj } := by
  simp only [State.sendProj, if_pos h]

theorem State.sendProj_room {s : State} {c : ScreenId} (h : s.screens[c].config.projector ≠ 0) (room : s.cell.queued < 16)
    (command argument : Nat) :
    s.sendProj c command argument =
      { s with cell := { s.cell with urgent := s.cell.urgent ++ [s.projCell c command argument] } } := by
  rw [State.sendProj, if_neg h, State.handUrgent_room room rfl]

/-- R65: what an ABORT leaves: the show ended, and its STOP sent or skipped. -/
theorem State.abort_ended {s : State} {c : ScreenId} (room : s.hasRoom 3) (busy : s.screens[c].seq.state ≠ .idle) :
    ∃ u, s.doAbort c = (u, .done) ∧ u.cell.queued < 16 ∧
      (∀ d : ScreenId, u.screens[d] = (s.toIdle c s.screens[c].seq.cueIndex).screens[d]) ∧
      u.cell.urgent =
        s.cell.urgent ++
          (if s.screens[c].config.projector = 0 then []
           else [{ kind := .projCmd, dest := s.screens[c].config.projector, payload := [3, 0], ref := .screen c }]) ∧
      u.seqr.skippedProj =
        (if s.screens[c].config.projector = 0 then min (s.seqr.skippedProj + 1) 65535 else s.seqr.skippedProj) ∧
      ({ s with seqr := { s.seqr with skippedProj := u.seqr.skippedProj } } : State).sameButTraffic u := by
  have ended := s.toIdle_ended c s.screens[c].seq.cueIndex
  have hq := ended.queued
  have hr := room.queued
  have traffic := ended.traffic
  refine ⟨_, by rw [State.doAbort, if_neg busy], ?_⟩
  generalize s.toIdle c s.screens[c].seq.cueIndex = t at *
  by_cases none : s.screens[c].config.projector = 0
  · rw [State.sendProj_none (ended.config ▸ none), if_pos none, if_pos none, List.append_nil]
    refine ⟨by simp only [State.modSeqr_cell]; omega, fun _ => rfl, ended.urgent, ?_, ?_⟩
    · rw [← ended.seqr]
      rfl
    · rw [traffic]
      rfl
  · rw [State.sendProj_room (ended.config ▸ none) (by omega), if_neg none, if_neg none]
    refine ⟨?_, fun _ => rfl, ?_, by rw [← ended.seqr], ?_⟩
    · simp only [CellProcessor.queued, List.length_append, List.length_singleton] at hq hr ⊢
      omega
    · rw [← ended.urgent, ← ended.config]
      rfl
    · rw [traffic]
      rfl

end Sys2Proof.Machine

namespace Sys2Proof.Proofs
open Machine

/-- R157: a screen outside 1..4, and a setting that is neither on nor off, are RANGE. -/
theorem holdRehearseAbort_range {s : State} {m : Sender} (h : s.readyFor 3 m) {b : Byte} (hb : b = 0 ∨ 4 < b.toNat)
    (setting : Byte) :
    ∃ low high, exec (.hold m b) s = .next (s.turnedAway m (commandReply 1 3 low high)) ∧
      exec (.abort m b) s = .next (s.turnedAway m (commandReply 1 4 low high)) ∧
      exec (.rehearse m b setting) s = .next (s.turnedAway m (commandReply 1 5 low high)) := by
  have range {c : Command} (hc : c ≠ .restartWarm) (ho : s.countTaken.obey c = (s.countTaken, .range)) :=
    State.command_refused h (by decide) hc ho rfl
  refine ⟨_, _, congrArg _ (range (c := .hold b) nofun (State.screenCommand_none _ hb _)),
    congrArg _ (range (c := .abort b) nofun (State.screenCommand_none _ hb _)),
    congrArg _ (range (c := .rehearse b setting) nofun ?_)⟩
  simp only [State.obey, State.doRehearseSetting]
  split
  · rfl
  · exact State.screenCommand_none _ hb _

/-- A command of a screen as its owner obeys it. -/
theorem obey_hold (s : State) (c : ScreenId) : s.obey (.hold (BitVec.ofNat 8 (c.val + 1))) = s.doHold c :=
  s.screenCommand_screen c _

theorem obey_abort (s : State) (c : ScreenId) : s.obey (.abort (BitVec.ofNat 8 (c.val + 1))) = s.doAbort c :=
  s.screenCommand_screen c _

theorem obey_rehearse (s : State) (c : ScreenId) {setting : Byte} {on : Bool} (h : flagOf setting.toNat = some on) :
    s.obey (.rehearse (BitVec.ofNat 8 (c.val + 1)) setting) = s.doRehearse c on := by
  simp only [State.obey, State.doRehearseSetting, h]
  exact s.screenCommand_screen c _

/-- R64, R65: with the sequencer IDLE each of the three is refused STATE. -/
theorem holdRehearseAbort_idle {s : State} {m : Sender} {c : ScreenId} (h : s.readyFor 3 m)
    (idle : s.screens[c].seq.state = .idle) :
    let screen : Byte := BitVec.ofNat 8 (c.val + 1)
    ∃ low high, exec (.hold m screen) s = .next (s.turnedAway m (commandReply 4 3 low high)) ∧
      exec (.abort m screen) s = .next (s.turnedAway m (commandReply 4 4 low high)) ∧
      exec (.rehearse m screen 0) s = .next (s.turnedAway m (commandReply 4 5 low high)) ∧
      exec (.rehearse m screen 1) s = .next (s.turnedAway m (commandReply 4 5 low high)) := by
  intro screen
  have idle' : s.countTaken.screens[c].seq.state = .idle := idle
  have refused {k : Command} (hk : k ≠ .restartWarm) (ho : s.countTaken.obey k = (s.countTaken, .state)) :=
    State.command_refused h (by decide) hk ho rfl
  have rehearse (on : Bool) : s.countTaken.doRehearse c on = (s.countTaken, .state) := by
    rw [State.doRehearse, if_pos idle']
  exact ⟨_, _,
    congrArg _ (refused (k := .hold screen) nofun (by rw [obey_hold, State.doHold, idle'])),
    congrArg _ (refused (k := .abort screen) nofun (by rw [obey_abort, State.doAbort, if_pos idle'])),
    congrArg _ (refused (k := .rehearse screen 0) nofun ((obey_rehearse _ c rfl).trans (rehearse false))),
    congrArg _ (refused (k := .rehearse screen 1) nofun ((obey_rehearse _ c rfl).trans (rehearse true)))⟩

/-- R64: HOLD and REHEARSE of a show that is RUNNING or HELD. -/
theorem holdRehearse_busy {s : State} {m : Sender} {c : ScreenId} (h : s.readyFor 3 m)
    (busy : s.screens[c].seq.state ≠ .idle) :
    let screen : Byte := BitVec.ofNat 8 (c.val + 1)
    ∃ low high,
      exec (.hold m screen) s = .next
        ((if s.screens[c].seq.state = .running then
            s.modSeq c fun v => { v with state := .held, holdReason := some .operator }
          else s).answered m (commandReply 0 3 low high)) ∧
      exec (.rehearse m screen 0) s = .next
        ((s.modSeq c fun v => { v with rehearsal := false }).answered m (commandReply 0 5 low high)) ∧
      exec (.rehearse m screen 1) s = .next
        ((s.modSeq c fun v => { v with rehearsal := true }).answered m (commandReply 0 5 low high)) := by
  intro screen
  have room : s.cell.queued < 16 := by have := h.room.queued; omega
  have rehearse (on : Bool) :
      s.countTaken.doRehearse c on = (s.countTaken.modSeq c fun v => { v with rehearsal := on }, .done) := by
    rw [State.doRehearse, if_neg (show s.countTaken.screens[c].seq.state ≠ .idle from busy)]
  have off := State.command_done (c := .rehearse screen 0) h nofun ((obey_rehearse _ c rfl).trans (rehearse false)) room
  have on := State.command_done (c := .rehearse screen 1) h nofun ((obey_rehearse _ c rfl).trans (rehearse true)) room
  refine ⟨_, _, congrArg Host.Outcome.next ?_, congrArg Host.Outcome.next off, congrArg Host.Outcome.next on⟩
  by_cases running : s.screens[c].seq.state = .running
  · have running' : s.countTaken.screens[c].seq.state = .running := running
    rw [if_pos running]
    exact State.command_done (c := .hold screen)
      (u := s.countTaken.modSeq c fun v => { v with state := .held, holdReason := some .operator }) h nofun
      (by rw [obey_hold, State.doHold, running']) room
  · have held' : s.countTaken.screens[c].seq.state = .held := by
      cases hst : s.screens[c].seq.state with
      | idle => exact absurd hst busy
      | running => exact absurd hst running
      | held => exact hst
    rw [if_neg running]
    exact State.command_done (c := .hold screen) (u := s.countTaken) h nofun
      (by rw [obey_hold, State.doHold, held']) room

/-- Settles O34: each command is refused or done as its sequencer state says; an ABORT ends the show and sends STOP. -/
theorem holdRehearseAbort : Obligations.HoldRehearseAbort := by
  intro s m c h screen r
  refine ⟨fun b setting hb => holdRehearseAbort_range h hb setting, fun setting hs => ?_,
    fun idle => holdRehearseAbort_idle h idle, fun busy => ⟨holdRehearse_busy h busy, ?_⟩⟩
  · have none : flagOf setting.toNat = none := by
      unfold flagOf
      split
      · omega
      · omega
      · rfl
    have refused := State.command_refused (c := .rehearse screen setting) (r := .range) h (by decide) nofun
      (by simp only [State.obey, State.doRehearseSetting, none]) rfl
    exact ⟨_, _, congrArg Host.Outcome.next refused⟩
  · obtain ⟨u, aborted, room, screens, urgent, skipped, traffic⟩ := State.abort_ended (s := s.countTaken) h.room busy
    have ended := s.countTaken.toIdle_ended c r.cueIndex
    refine ⟨_, s.indexLow, s.indexHigh, congrArg Host.Outcome.next
        (State.command_done (c := .abort screen) h nofun ((obey_abort _ c).trans aborted) room),
      (congrArg (·.seq) (screens c)).trans ended.seq, (congrArg (·.field.occupancy) (screens c)).trans ended.occupancy,
      fun lit => ?_, fun d hd => ?_, ?_, skipped, ?_⟩
    · have closed := ended.closed lit
      exact ⟨(congrArg (·.field.admission) (screens c)).trans closed.1,
        (congrArg (·.ordering) (screens c)).trans closed.2⟩
    · obtain ⟨seq, field, ordering⟩ := ended.others d hd
      exact ⟨(congrArg (·.seq) (screens d)).trans seq, (congrArg (·.field) (screens d)).trans field,
        (congrArg (·.ordering) (screens d)).trans ordering⟩
    · exact congrArg (· ++ _) urgent
    · unfold State.sameButTraffic at traffic ⊢
      rw [traffic]
      rfl

end Sys2Proof.Proofs

/-! PROOFS. A SCREEN write (R4 to R6, R108, R124, R125). -/

namespace Sys2Proof.Machine

/-! ## The entry checked and clamped (R4) -/

theorem flagOf_byte (b : Byte) : flagOf b.toNat = if b.toNat ≤ 1 then some (decide (b = 1)) else none := by
  have key (n : Nat) : flagOf n = if n ≤ 1 then some (decide (n = 1)) else none := by
    unfold flagOf
    split
    · rfl
    · rfl
    · next h0 h1 =>
      rw [if_neg]
      have : n ≠ 0 := h0
      have : n ≠ 1 := h1
      omega
  rw [key, ← decide_eq_decide.2 (show b = 1 ↔ b.toNat = 1 from BitVec.toNat_inj.symm)]

theorem clockSourceOf_code (x : ClockSource) : clockSourceOf x.code = some x := by cases x <;> rfl

theorem clockSourceOf_le {n : Nat} {x : ClockSource} (h : clockSourceOf n = some x) : n ≤ 1 := by
  unfold clockSourceOf at h
  split at h
  · decide
  · decide
  · cases h

theorem callPolicyOf_code (x : CallPolicy) : callPolicyOf x.code = some x := by cases x <;> rfl

theorem callPolicyOf_le {n : Nat} {x : CallPolicy} (h : callPolicyOf n = some x) : n ≤ 1 := by
  unfold callPolicyOf at h
  split at h
  · decide
  · decide
  · cases h

theorem clampTo_zero (hi n : Nat) : clampTo 0 hi n = min hi n := Nat.max_eq_right (Nat.zero_le _)

theorem marksFit_iff (high low : Nat) : marksFit high low = true ↔ low < high ∨ (high = 0 ∧ low = 0) := by
  simp [marksFit]

theorem flagOf_le {n : Nat} {x : Bool} (h : flagOf n = some x) : n ≤ 1 := by
  unfold flagOf at h
  split at h
  · decide
  · decide
  · cases h

theorem stationOf_le {n k : Nat} (h : stationOf n = some k) : n ≤ 120 := by
  unfold stationOf at h
  split at h
  · assumption
  · cases h

/-- R4: an entry that is stored has its values in their fields' ranges and its marks in order. -/
theorem screenConfigOf_fits {e : List Byte} {g : ScreenConfig} (h : screenConfigOf e = some g) :
    byteAt e 0 ≤ 1 ∧ byteAt e 1 ≤ 1 ∧ byteAt e 2 ≤ 1 ∧ byteAt e 3 ≤ 120 ∧ byteAt e 4 ≤ 120 ∧ byteAt e 15 ≤ 1 ∧
      (min 2000 (halfAt e 13) < min 2000 (halfAt e 11) ∨ (min 2000 (halfAt e 11) = 0 ∧ min 2000 (halfAt e 13) = 0)) := by
  simp only [screenConfigOf, Option.bind_eq_bind, Option.bind_eq_some_iff, Option.pure_def, clampTo_zero] at h
  obtain ⟨_, h0, _, h1, _, h2, _, h3, _, h4, _, h15, h⟩ := h
  split at h
  · next marks =>
    exact ⟨flagOf_le h0, flagOf_le h1, clockSourceOf_le h2, stationOf_le h3, stationOf_le h4, callPolicyOf_le h15,
      (marksFit_iff _ _).1 marks⟩
  · cases h

/-! ## The flags judged (R124, R125) -/

/-- From `s` to `t` the counts of screen `c` become `f`, with one event raised at most. -/
structure Judged (s : State) (c : ScreenId) (f : FieldCounts) (t : State) : Prop where
  raised : Raised (s.modField c fun _ => f) t
  queued : t.cell.queued ≤ s.cell.queued + 1

theorem State.modField_self (s : State) (c : ScreenId) : (s.modField c fun _ => s.screens[c].field) = s := by
  have same : s.screens.set c s.screens[c] = s.screens := Vector.set_getElem_self _
  exact congrArg (fun v => { s with screens := v }) same

theorem Judged.none {s : State} {c : ScreenId} {f : FieldCounts} (h : f = s.screens[c].field) : Judged s c f s := by
  refine ⟨?_, Nat.le_succ _⟩
  rw [h, s.modField_self c]
  exact .refl s

theorem Judged.silent (s : State) (c : ScreenId) (f : FieldCounts → FieldCounts) :
    Judged s c (f s.screens[c].field) (s.modField c f) := ⟨.refl _, Nat.le_succ _⟩

theorem Judged.told (s : State) (c : ScreenId) (f : FieldCounts → FieldCounts) (e : Event) (n v : Nat)
    (k : Option ScreenId) : Judged s c (f s.screens[c].field) ((s.modField c f).raise e n v k) :=
  ⟨State.raise_raised _ e n v k, State.raise_queued (s.modField c f) e n v k⟩

/-- R124: the full flag stands exactly while A is not above 0. -/
theorem State.judgeFull_judged (s : State) (c : ScreenId) :
    Judged s c { s.screens[c].field with full := decide (s.availability c ≤ 0) } (s.judgeFull c) := by
  unfold State.judgeFull
  split
  · next h =>
    rw [decide_eq_true h.1]
    exact .told s c (fun f => { f with full := true }) _ _ _ _
  · split
    · next h =>
      rw [decide_eq_false (by omega)]
      exact .silent s c fun f => { f with full := false }
    · next full free =>
      refine .none ?_
      have same : s.screens[c].field.full = decide (s.availability c ≤ 0) := by
        cases hf : s.screens[c].field.full with
        | false => exact (decide_eq_false fun h => full ⟨h, by rw [hf]; rfl⟩).symm
        | true => exact (decide_eq_true (Int.not_lt.1 fun h => free ⟨h, hf⟩)).symm
      rw [← same]

/-- R125: the near-full flag by the marks. -/
def FieldCounts.nearBy (f : FieldCounts) (g : ScreenConfig) : FieldCounts :=
  { f with
    nearFull :=
      if g.high ≤ f.occupancy then true else if f.occupancy ≤ g.low then false else f.nearFull }

theorem State.judgeNearFull_judged (s : State) (c : ScreenId) (on : s.screens[c].config.windowOn = true)
    (order : s.screens[c].config.low < s.screens[c].config.high) :
    Judged s c (s.screens[c].field.nearBy s.screens[c].config) (s.judgeNearFull c) := by
  unfold State.judgeNearFull FieldCounts.nearBy
  simp only [on, true_and]
  by_cases above : s.screens[c].config.high ≤ s.screens[c].field.occupancy
  · have notBelow : ¬ s.screens[c].field.occupancy ≤ s.screens[c].config.low := by omega
    simp only [above, notBelow, if_true, false_and, if_false, true_and]
    cases flag : s.screens[c].field.nearFull with
    | false => exact .told s c (fun f => { f with nearFull := true }) _ _ _ _
    | true => exact .none (by rw [← flag])
  · simp only [above, false_and, if_false]
    by_cases below : s.screens[c].field.occupancy ≤ s.screens[c].config.low
    · simp only [below, true_and, if_true]
      cases flag : s.screens[c].field.nearFull with
      | false => exact .none (by rw [← flag])
      | true => exact .told s c (fun f => { f with nearFull := false }) _ _ _ _
    · simp only [below, false_and, if_false]
      exact .none rfl

/-! ## The write applied (R6) -/

/-- R125: the near-full flag as a SCREEN write leaves it. -/
def FieldCounts.nearAfter (f : FieldCounts) (old new : ScreenConfig) : FieldCounts :=
  if new.high = 0 ∧ new.low = 0 then { f with nearFull := false }
  else if old.high = new.high ∧ old.low = new.low then f
  else f.nearBy new

theorem State.rejudgeNear_judged (s : State) (c : ScreenId) (old : ScreenConfig)
    (marks : s.screens[c].config.marksStand) :
    Judged s c (s.screens[c].field.nearAfter old s.screens[c].config) (s.rejudgeNear c old s.screens[c].config) := by
  unfold State.rejudgeNear FieldCounts.nearAfter
  by_cases off : s.screens[c].config.high = 0 ∧ s.screens[c].config.low = 0
  · have h : (!s.screens[c].config.windowOn) = true := by simp only [ScreenConfig.windowOn, off]; rfl
    rw [if_pos h, if_pos off]
    exact .silent s c fun f => { f with nearFull := false }
  · have on : s.screens[c].config.windowOn = true := by
      simpa only [ScreenConfig.windowOn, Bool.not_eq_true', Bool.and_eq_false_iff, decide_eq_false_iff_not,
        ← not_and_or] using off
    have on' : ¬ (!s.screens[c].config.windowOn) = true := by rw [on]; exact nofun
    rw [if_neg off, if_neg on']
    split
    · exact .none rfl
    · exact s.judgeNearFull_judged c on (marks.resolve_right off)

/-- R124: the full flag as a SCREEN write leaves it. -/
def FieldCounts.fullAfter (f : FieldCounts) (old new : ScreenConfig) : FieldCounts :=
  if old.capacity = new.capacity ∧ old.reserved = new.reserved then f
  else { f with full := decide ((new.capacity : Int) - f.occupancy - new.reserved - f.pending ≤ 0) }

theorem State.rejudgeFull_judged (s : State) (c : ScreenId) (old : ScreenConfig) :
    Judged s c (s.screens[c].field.fullAfter old s.screens[c].config) (s.rejudgeFull c old s.screens[c].config) := by
  unfold State.rejudgeFull FieldCounts.fullAfter
  split
  · exact .none rfl
  · exact s.judgeFull_judged c

theorem Judged.screen {s t : State} {c : ScreenId} {f : FieldCounts} (h : Judged s c f t) :
    t.screens[c] = { s.screens[c] with field := f } := by
  rw [h.raised.screens]
  exact s.modScreen_self c _

theorem Judged.other {s t : State} {c d : ScreenId} {f : FieldCounts} (h : Judged s c f t) (hd : d ≠ c) :
    t.screens[d] = s.screens[d] := by
  rw [h.raised.screens]
  exact s.modScreen_other c _ hd

/-- R124, R125: the record stored and its flags judged, before any held call moves. -/
def State.storeScreen (s : State) (c : ScreenId) (new : ScreenConfig) : State :=
  ((s.modScreen c fun v => { v with config := new }).rejudgeNear c s.screens[c].config new).rejudgeFull c
    s.screens[c].config new

theorem State.applyScreen_eq (s : State) (c : ScreenId) (new : ScreenConfig) :
    s.applyScreen c new =
      if s.screens[c].config.callPolicy = .holdInFeature ∧ new.callPolicy = .callAnytime then
        (s.storeScreen c new).releaseHeld c
      else s.storeScreen c new := rfl

/-- From `s` to `t` the configuration of screen `c` is `new`, its flags are judged, and no held call has moved. -/
structure Stored (s : State) (c : ScreenId) (new : ScreenConfig) (t : State) : Prop where
  screen : t.screens[c] =
    { s.screens[c] with
      config := new
      field := (s.screens[c].field.nearAfter s.screens[c].config new).fullAfter s.screens[c].config new }
  others : ∀ d : ScreenId, d ≠ c → t.screens[d] = s.screens[d]
  urgent : t.cell.urgent = s.cell.urgent
  queued : t.cell.queued ≤ s.cell.queued + 2
  mgmt : t.mgmt = { s.mgmt with notices := t.mgmt.notices }
  traffic : s.sameButTraffic t

theorem State.storeScreen_stored (s : State) (c : ScreenId) (new : ScreenConfig) (marks : new.marksStand) :
    Stored s c new (s.storeScreen c new) := by
  have put := s.modScreen_self c fun v => { v with config := new }
  have putOther {d : ScreenId} (hd : d ≠ c) := s.modScreen_other c (fun v => { v with config := new }) hd
  have near := State.rejudgeNear_judged (s.modScreen c fun v => { v with config := new }) c s.screens[c].config
    (by rw [put]; exact marks)
  rw [put] at near
  have full := State.rejudgeFull_judged ((s.modScreen c fun v => { v with config := new }).rejudgeNear c
    s.screens[c].config new) c s.screens[c].config
  rw [near.screen, put] at full
  have hn := near.queued
  have hf := full.queued
  refine ⟨?_, fun d hd => ?_, ?_, by unfold State.storeScreen; exact hf.trans (Nat.succ_le_succ hn), ?_, ?_⟩
  · unfold State.storeScreen
    rw [full.screen, near.screen, put]
  · unfold State.storeScreen
    rw [full.other hd, near.other hd, putOther hd]
  · exact full.raised.urgent.trans near.raised.urgent
  · have h := full.raised.kept.mgmt
    have k := near.raised.kept.mgmt
    unfold State.storeScreen
    rw [h, State.modField_mgmt, k]
    rfl
  · have h := full.raised.sameButTraffic
    have k := near.raised.sameButTraffic
    exact ((State.modScreen_sameButTraffic _ _ _).trans ((State.modScreen_sameButTraffic _ _ _).trans k)).trans
      ((State.modScreen_sameButTraffic _ _ _).trans h)

/-! ## Held calls released (R6, R108) -/

theorem State.setHeldCalls_other (s : State) (c : ScreenId) (l : List Nat) {d : ScreenId} (h : d ≠ c) :
    (s.setHeldCalls c l).screens[d] = s.screens[d] := s.modScreen_other c _ h

theorem State.renderAndPlace_screens (s : State) (r : Request) (o : OutputId) :
    (s.renderAndPlace r o).screens = s.screens := by
  rw [s.renderAndPlace_ann r o]

/-- R108: a move of one screen's held calls leaves the other screens as they are. -/
theorem State.moveCalls_other (c : ScreenId) (n : Nat) (s : State) {d : ScreenId} (h : d ≠ c) :
    (State.moveCalls c n s).screens[d] = s.screens[d] := by
  induction n generalizing s with
  | zero => rfl
  | succ n ih =>
    cases held : s.screens[c].heldCalls with
    | nil => simp only [State.moveCalls, held]
    | cons number rest =>
      simp only [State.moveCalls, held]
      split
      · rw [ih, State.renderAndPlace_screens, s.setHeldCalls_other c _ h]
      · rfl

theorem State.releaseHeld_other (s : State) (c : ScreenId) {d : ScreenId} (h : d ≠ c) :
    (s.releaseHeld c).screens[d] = s.screens[d] := State.moveCalls_other c _ s h

/-- R108: one held call of a one-clip call phrase moves to an empty queue. -/
theorem State.releaseHeld_one {s : State} {c : ScreenId} {number : Nat} {k : ClipId}
    (anytime : s.screens[c].config.callPolicy = .callAnytime) (held : s.screens[c].heldCalls = [number])
    (empty : s.ann.queues[outputOf c].empty) (part : s.ann.phrases[s.mgmt.site.callPhrase] = [.clip k])
    (ready : s.ann.clips[k].state = .ready) (uses : s.ann.clips[k].uses < 255) :
    (s.releaseHeld c).screens[c].heldCalls = [] ∧ (s.releaseHeld c).ann = s.ann.withCall k number (outputOf c) := by
  have moves : s.callMoves c = true := by
    simp only [State.callMoves, AnnQueue.size, empty.1, empty.2, anytime, decide_true, Bool.or_true, Bool.and_true]
    rfl
  have moved : s.moveHeld c =
      (s.setHeldCalls c []).renderAndPlace (s.callRequest number 0) (outputOf c) := by
    simp only [State.moveHeld, held, List.length_singleton, State.moveCalls, moves, if_true]
  have same : (s.releaseHeld c).screens = (s.moveHeld c).screens ∧ (s.releaseHeld c).ann = (s.moveHeld c).ann := ⟨rfl, rfl⟩
  rw [same.1, same.2, moved, State.renderAndPlace_screens]
  refine ⟨congrArg (·.heldCalls) (s.modScreen_self c _), ?_⟩
  have rendered := Composer.render_clip number part ready uses
  simp only [State.renderAndPlace, State.setHeldCalls_ann, State.callRequest, rendered, List.cons_ne_nil, if_false]
  exact Composer.place_empty (a := { s.ann with clips := _ }) _ empty

/-! ## Table writes of the console, answered (R154, R155) -/

theorem replyCell_write (draw : Nat) (m : Sender) (table : Byte) (index : Half) (r : Reply) :
    replyCell draw m ⟨table, some index⟩ r [] false = mgmtReplyTo m (writeReply r.code table.toNat index) := by
  simp [replyCell, mgmtReplyTo, writeReply, Echo.indexBytes, le8]

/-- A write of the console that its owner refuses changes nothing but the counts. -/
theorem State.write_refused {s : State} {n : Nat} {m : Sender} {table : Byte} {index : Half} {e : List Byte} {r : Reply}
    (h : s.readyFor n m) (room : 1 ≤ n) (check : writeCheck table e = none)
    (ho : State.writeCode table index e s.countTaken = Written.out (s.countTaken, r)) (hr : r.refuses = true) :
    (s.cellSeen m.source).takeWrite m table index e = s.turnedAway m (writeReply r.code table.toNat index) := by
  have hq : s.cell.queued < 16 := by have := h.room.queued; omega
  rw [State.cellSeen_stranger h.stranger, State.takeWrite, check]
  rw [State.takeMgmt_passes h ho hq]
  simp only [Written.out, replyCell_write, Management.countAnswer_refuses _ hr]
  rfl

/-- A write of the console that its owner takes: the reply is queued behind what the write has sent. -/
theorem State.write_done {s u : State} {n : Nat} {m : Sender} {table : Byte} {index : Half} {e : List Byte}
    (h : s.readyFor n m) (check : writeCheck table e = none)
    (ho : State.writeCode table index e s.countTaken = Written.out (u, .done)) (hq : u.cell.queued < 16) :
    (s.cellSeen m.source).takeWrite m table index e =
      { u with
        freeCount := u.freeCount + 1
        cell :=
          { u.cell with urgent := u.cell.urgent ++ [mgmtReplyTo m (writeReply 0 table.toNat index)] } } := by
  rw [State.cellSeen_stranger h.stranger, State.takeWrite, check]
  rw [State.takeMgmt_passes h ho hq]
  simp only [Written.out, replyCell_write]
  rfl

/-- A screen's number, as an index, names the screen. -/
theorem fromOne_index (c : ScreenId) : fromOne 4 (c.val + 1) = some c := by
  revert c
  decide

/-- R4, R5: a SCREEN write of a screen's number: an entry out of range, one that a show forbids, and one applied. -/
theorem State.writeScreen_range (s : State) (c : ScreenId) {e : List Byte} (h : screenConfigOf e = none) :
    s.writeScreen (c.val + 1) e = (s, .range) := by
  simp only [State.writeScreen, fromOne_index, h]

theorem State.writeScreen_inUse (s : State) (c : ScreenId) {e : List Byte} {new : ScreenConfig}
    (h : screenConfigOf e = some new) (busy : s.screens[c].seq.state ≠ .idle)
    (changes : s.screens[c].config.sameShow new = false) : s.writeScreen (c.val + 1) e = (s, .inUse) := by
  have refused : s.screens[c].seq.state ≠ .idle ∧ !s.screens[c].config.sameShow new := ⟨busy, by rw [changes]; rfl⟩
  simp only [State.writeScreen, fromOne_index, h, if_pos refused]

theorem State.writeScreen_applied (s : State) (c : ScreenId) {e : List Byte} {new : ScreenConfig}
    (h : screenConfigOf e = some new)
    (free : s.screens[c].seq.state = .idle ∨ s.screens[c].config.sameShow new = true) :
    s.writeScreen (c.val + 1) e = (s.applyScreen c new, .done) := by
  have passes : ¬ (s.screens[c].seq.state ≠ .idle ∧ !s.screens[c].config.sameShow new) := by
    rintro ⟨busy, changes⟩
    rcases free with idle | same
    · exact busy idle
    · rw [same] at changes
      cases changes
  simp only [State.writeScreen, fromOne_index, h, if_neg passes]

/-- The SCREEN table, code 2, takes the write. -/
theorem State.writeCode_screen (s : State) (c : ScreenId) (e : List Byte) :
    State.writeCode 2 (BitVec.ofNat 16 (c.val + 1)) e s = Written.out (s.writeScreen (c.val + 1) e) := by
  have number : (BitVec.ofNat 16 (c.val + 1) : Half).toNat = c.val + 1 := by
    revert c
    decide
  have taken : State.writeCode 2 (BitVec.ofNat 16 (c.val + 1)) e s =
      Written.out (s.writeScreen (BitVec.ofNat 16 (c.val + 1) : Half).toNat e) := rfl
  rw [taken, number]

/-- R4: an entry whose values are in their fields' ranges, with the marks in order, is stored clamped. -/
theorem screenConfigOf_bytes (source : ClockSource) (policy : CallPolicy)
    (b0 b1 b2 b3 b4 b5 b6 b7 b8 b9 b10 b11 b12 b13 b14 b15 : Byte) (h0 : b0.toNat ≤ 1) (h1 : b1.toNat ≤ 1)
    (h3 : b3.toNat ≤ 120) (h4 : b4.toNat ≤ 120) (clock : source.code = b2.toNat) (calls : policy.code = b15.toNat)
    (marks : min 2000 (twoBytes b13 b14) < min 2000 (twoBytes b11 b12) ∨
      (min 2000 (twoBytes b11 b12) = 0 ∧ min 2000 (twoBytes b13 b14) = 0)) :
    screenConfigOf [b0, b1, b2, b3, b4, b5, b6, b7, b8, b9, b10, b11, b12, b13, b14, b15] =
      some
        { enabled := decide (b0 = 1), holdOnFailure := decide (b1 = 1), clockSource := source, projector := b3.toNat
          panel := b4.toNat, capacity := min 2000 (twoBytes b5 b6), reserved := min 2000 (twoBytes b7 b8)
          tallQuota := min 500 (twoBytes b9 b10), high := min 2000 (twoBytes b11 b12)
          low := min 2000 (twoBytes b13 b14), callPolicy := policy } := by
  have m := (marksFit_iff _ _).2 marks
  simp only [twoBytes] at m
  simp [screenConfigOf, byteAt, halfAt, flagOf_byte, h0, h1, ← clock, clockSourceOf_code, stationOf, h3, h4, ← calls,
    callPolicyOf_code, clampTo_zero, twoBytes, m]

end Sys2Proof.Machine

namespace Sys2Proof.Proofs
open Machine

/-- What a SCREEN write that passes leaves: the record stored and judged, and the held calls of a policy that turns to
CALL_ANYTIME released. -/
structure ScreenWritten (s : State) (c : ScreenId) (new : ScreenConfig) (u : State) : Prop where
  stored : ∀ d : ScreenId, u.screens[d] = { (s.storeScreen c new).screens[d] with heldCalls := u.screens[d].heldCalls }
  othersHeld : ∀ d : ScreenId, d ≠ c → u.screens[d].heldCalls = s.screens[d].heldCalls
  ownHeld : ¬ (s.screens[c].config.callPolicy = .holdInFeature ∧ new.callPolicy = .callAnytime) →
    u.screens[c].heldCalls = s.screens[c].heldCalls
  cell : u.cell = (s.storeScreen c new).cell
  mgmt : u.mgmt = (s.storeScreen c new).mgmt
  traffic : s.sameButTraffic u

theorem applyScreen_written (s : State) (c : ScreenId) (new : ScreenConfig) (marks : new.marksStand) :
    ScreenWritten s c new (s.applyScreen c new) := by
  have stored := s.storeScreen_stored c new marks
  have held : (s.storeScreen c new).screens[c].heldCalls = s.screens[c].heldCalls := by rw [stored.screen]
  rw [State.applyScreen_eq]
  split
  · next turns =>
    have released := (s.storeScreen c new).releaseHeld_announced c
    refine ⟨released.kept.screens, fun d hd => ?_, fun h => absurd turns h, ?_, ?_,
      stored.traffic.trans released.sameButTraffic⟩
    · rw [State.releaseHeld_other _ c hd, stored.others d hd]
    · rw [released.rest]
    · rw [released.rest]
  · exact ⟨fun _ => rfl, fun d hd => by rw [stored.others d hd], fun _ => held, rfl, rfl, stored.traffic⟩

/-- R6, R108: with nothing to judge, a policy that turns to CALL_ANYTIME moves the one held call to the empty queue. -/
theorem applyScreen_releases {s : State} {c : ScreenId} {new : ScreenConfig} {number : Nat} {k : ClipId}
    (hold : s.screens[c].config.callPolicy = .holdInFeature) (anytime : new.callPolicy = .callAnytime)
    (places : s.screens[c].config.capacity = new.capacity ∧ s.screens[c].config.reserved = new.reserved)
    (window : s.screens[c].config.high = new.high ∧ s.screens[c].config.low = new.low)
    (held : s.screens[c].heldCalls = [number]) (empty : s.ann.queues[outputOf c].empty)
    (part : s.ann.phrases[s.mgmt.site.callPhrase] = [.clip k]) (ready : s.ann.clips[k].state = .ready)
    (uses : s.ann.clips[k].uses < 255) :
    (s.applyScreen c new).screens[c].heldCalls = [] ∧
      (s.applyScreen c new).ann = s.ann.withCall k number (outputOf c) := by
  have quiet : ∃ f, s.storeScreen c new = s.modScreen c f ∧ (f s.screens[c]).config = new ∧
      (f s.screens[c]).heldCalls = s.screens[c].heldCalls := by
    unfold State.storeScreen State.rejudgeFull State.rejudgeNear
    rw [if_pos places, if_pos window]
    split
    · refine ⟨_, State.modScreen_modScreen s c _ _, rfl, rfl⟩
    · exact ⟨_, rfl, rfl, rfl⟩
  obtain ⟨f, stored, config, calls⟩ := quiet
  rw [State.applyScreen_eq, if_pos ⟨hold, anytime⟩, stored]
  exact State.releaseHeld_one (by rw [State.modScreen_self, config, anytime]) (by rw [State.modScreen_self, calls, held])
    empty part ready uses

/-- R5: the fields that a show which is not IDLE keeps. -/
theorem sameShow_iff (g h : ScreenConfig) :
    g.sameShow h = true ↔ ¬ (g.enabled ≠ h.enabled ∨ g.clockSource ≠ h.clockSource ∨ g.projector ≠ h.projector) := by
  simp [ScreenConfig.sameShow, and_assoc]

/-- The part after a SCREEN write is done: the reply behind what the write has sent. -/
def screenAnswered (s : State) (m : Sender) (c : ScreenId) (new : ScreenConfig) : State :=
  let u := s.countTaken.applyScreen c new
  { u with
    freeCount := u.freeCount + 1
    cell :=
      { u.cell with
        urgent := u.cell.urgent ++ [mgmtReplyTo m (writeReply 0 2 (BitVec.ofNat 16 (c.val + 1)))] } }

/-- R4, R5: a SCREEN write as its entry and the show's state decide it. -/
theorem exec_screenWrite {s : State} {m : Sender} {c : ScreenId} {e : List Byte} (h : s.readyFor 3 m)
    (length : e.length = 16) :
    let index : Half := BitVec.ofNat 16 (c.val + 1)
    (screenConfigOf e = none → exec (.screenWrite m index e) s = .next (s.turnedAway m (writeReply 1 2 index))) ∧
    ∀ new, screenConfigOf e = some new →
      (s.screens[c].seq.state ≠ .idle → s.screens[c].config.sameShow new = false →
        exec (.screenWrite m index e) s = .next (s.turnedAway m (writeReply 3 2 index))) ∧
      (s.screens[c].seq.state = .idle ∨ s.screens[c].config.sameShow new = true →
        exec (.screenWrite m index e) s = .next (screenAnswered s m c new)) := by
  intro index
  have check : writeCheck 2 e = none := if_pos length
  have written {w : Written} (hw : s.countTaken.writeScreen (c.val + 1) e = w) :
      State.writeCode 2 index e s.countTaken = Written.out w := hw ▸ s.countTaken.writeCode_screen c e
  refine ⟨fun none => congrArg Host.Outcome.next ?_, fun new some => ⟨fun busy changes => congrArg Host.Outcome.next ?_,
    fun free => congrArg Host.Outcome.next ?_⟩⟩
  · exact State.write_refused h (by decide) check (written (s.countTaken.writeScreen_range c none)) rfl
  · exact State.write_refused h (by decide) check (written (s.countTaken.writeScreen_inUse c some busy changes)) rfl
  · have hw := (applyScreen_written s.countTaken c new (screenConfigOf_marks some)).cell
    have hq := (s.countTaken.storeScreen_stored c new (screenConfigOf_marks some)).queued
    have room : (s.countTaken.applyScreen c new).cell.queued < 16 :=
      hw ▸ Nat.lt_of_le_of_lt hq (Nat.lt_of_succ_le h.room.queued)
    exact State.write_done h check (written (s.countTaken.writeScreen_applied c some free)) room

/-- R124, R125: the counts of the screen after the write, as the judgements of its flags leave them. -/
theorem counts_after (f : FieldCounts) (old new : ScreenConfig) :
    (f.nearAfter old new).fullAfter old new =
      { f with
        nearFull :=
          if new.high = 0 ∧ new.low = 0 then false
          else if old.high = new.high ∧ old.low = new.low then f.nearFull
          else if new.high ≤ f.occupancy then true
          else if f.occupancy ≤ new.low then false
          else f.nearFull
        full :=
          if old.capacity = new.capacity ∧ old.reserved = new.reserved then f.full
          else decide ((new.capacity : Int) - f.occupancy - new.reserved - f.pending ≤ 0) } := by
  unfold FieldCounts.nearAfter FieldCounts.fullAfter FieldCounts.nearBy
  by_cases off : new.high = 0 ∧ new.low = 0
  · simp only [if_pos off]
    split <;> rfl
  · simp only [if_neg off]
    by_cases same : old.high = new.high ∧ old.low = new.low
    · simp only [if_pos same]
      split <;> rfl
    · simp only [if_neg same]
      split <;> rfl

/-- Settles O22: the entry is checked and clamped, the record stored, its flags judged, and last the held calls released. -/
theorem screenWrite : Obligations.ScreenWrite := by
  intro s m c source policy b0 b1 b2 b3 b4 b5 b6 b7 b8 b9 b10 b11 b12 b13 b14 b15 h index write high low old new fits
    changesShow
  have config (ok : fits) (clock : source.code = b2.toNat) (calls : policy.code = b15.toNat) :
      screenConfigOf [b0, b1, b2, b3, b4, b5, b6, b7, b8, b9, b10, b11, b12, b13, b14, b15] = some new := by
    obtain ⟨h0, h1, -, h3, h4, -, marks⟩ := ok
    exact screenConfigOf_bytes source policy b0 b1 b2 b3 b4 b5 b6 b7 b8 b9 b10 b11 b12 b13 b14 b15 h0 h1 h3 h4 clock
      calls marks
  obtain ⟨refused, decided⟩ := exec_screenWrite (c := c)
    (e := [b0, b1, b2, b3, b4, b5, b6, b7, b8, b9, b10, b11, b12, b13, b14, b15]) h rfl
  have same : old.sameShow new = true ↔ ¬ changesShow := sameShow_iff old new
  have written (marks : new.marksStand) := applyScreen_written s.countTaken c new marks
  have stored (marks : new.marksStand) := s.countTaken.storeScreen_stored c new marks
  refine ⟨fun bad => refused ?_, fun ok clock calls busy changes => ?_, fun ok clock calls free => ?_,
    fun ok clock calls free => ?_⟩
  · cases entry : screenConfigOf [b0, b1, b2, b3, b4, b5, b6, b7, b8, b9, b10, b11, b12, b13, b14, b15] with
    | none => rfl
    | some g => exact absurd (screenConfigOf_fits entry) bad
  · exact (decided new (config ok clock calls)).1 busy
      (Bool.eq_false_iff.2 fun hs => same.1 hs changes)
  · have marks := screenConfigOf_marks (config ok clock calls)
    have w := written marks
    have st := stored marks
    have own := w.stored c
    rw [st.screen] at own
    refine ⟨_, (decided new (config ok clock calls)).2 (free.imp_right same.2), congrArg (·.config) own,
      (congrArg (·.field) own).trans (counts_after _ _ _), fun d hd => ?_, fun d => ?_, ?_, ?_, ?_⟩
    · have other := w.stored d
      rw [st.others d hd] at other
      exact ⟨congrArg (·.config) other, congrArg (·.field) other⟩
    · by_cases hd : d = c
      · subst hd
        exact ⟨congrArg (·.seq) own, congrArg (·.sound) own, congrArg (·.ordering) own⟩
      · have other := w.stored d
        rw [st.others d hd] at other
        exact ⟨congrArg (·.seq) other, congrArg (·.sound) other, congrArg (·.ordering) other⟩
    · have urgent := (congrArg (·.urgent) w.cell).trans st.urgent
      exact congrArg (· ++ [mgmtReplyTo m (writeReply 0 2 index)]) urgent
    · have traffic := w.traffic
      unfold State.sameButTraffic at traffic ⊢
      unfold screenAnswered
      rw [traffic]
      rfl
    · exact congrArg (·.taken) (w.mgmt.trans st.mgmt)
  · have marks := screenConfigOf_marks (config ok clock calls)
    have w := written marks
    refine ⟨_, (decided new (config ok clock calls)).2 (free.imp_right same.2), w.othersHeld, w.ownHeld, ?_⟩
    intro number k hold anytime capacity reserved highs lows held empty part ready uses
    exact applyScreen_releases (s := s.countTaken) hold anytime ⟨capacity, reserved⟩ ⟨highs, lows⟩ held
      ⟨congrArg (·.playing) empty, congrArg (·.waiting) empty⟩ part ready uses

end Sys2Proof.Proofs

/-! PROOFS. The warm restart at port B's turn (R161), settling `WarmRestartTakesEffect`. -/

namespace Sys2Proof.Machine

/-! ## Queues that no entry plays in -/

/-- No entry of a queue of the Composer plays. -/
def Composer.silent (a : Composer) : Prop := ∀ o : OutputId, a.queues[o].playing = none

theorem Composer.silent.of_queues {a b : Composer} (h : a.silent) (same : b.queues = a.queues) : b.silent := fun o => by
  rw [same]
  exact h o

/-- One queue replaced by one in which no entry plays. -/
theorem Composer.silent.set {a b : Composer} (h : a.silent) (o : OutputId) (q : AnnQueue) (hq : q.playing = none)
    (same : b.queues = a.queues.set o q) : b.silent := fun i => by
  rw [same]
  simp only [Fin.getElem_fin, Vector.getElem_set]
  split
  · exact hq
  · exact h i

/-- R103, R105: where nothing plays nothing is preempted, and an entry that joins waits. -/
theorem Composer.silent.join {a : Composer} (h : a.silent) (o : OutputId) (q : AnnQueue) (e : QueueEntry)
    (hq : q.playing = none) : (a.join o q e).silent := by
  have stays : q.preempts e = false := by simp only [AnnQueue.preempts, hq]
  simp only [Composer.join, stays, Bool.false_eq_true, if_false]
  exact h.set o { q with waiting := joinWaiting e q.waiting } hq rfl

theorem Composer.silent.discard {a : Composer} (h : a.silent) (o : OutputId) (e : QueueEntry) : (a.discard o e).silent :=
  h.of_queues (Composer.release_queues a e.items)

theorem Composer.silent.place {a : Composer} (h : a.silent) (o : OutputId) (e : QueueEntry) : (a.place o e).silent := by
  have counted : Composer.silent { a with joins := a.joins + 1 } := h.of_queues rfl
  unfold Composer.place
  simp only
  split
  · exact counted.join o _ _ (h o)
  · split
    · exact counted.discard o _
    · split
      · exact (counted.discard o _).join o _ _ (h o)
      · exact counted.discard o _

/-- R101: a rendering leaves the queues as they are. -/
theorem Composer.render_queues (a : Composer) (p : PhraseId) (n : Nat) : (a.render p n).1.queues = a.queues := by
  have kept (l : List Item) (acc : Composer × List Item) : (l.foldl Composer.takeItem acc).1.queues = acc.1.queues := by
    induction l generalizing acc with
    | nil => rfl
    | cons i l ih =>
      rw [List.foldl_cons, ih]
      unfold Composer.takeItem
      split
      · rfl
      · split <;> rfl
  exact kept _ (a, [])

/-- R101, R103: a rendered entry that joins a queue starts nothing. -/
theorem State.renderAndPlace_silent {s : State} (h : s.ann.silent) (r : Request) (o : OutputId) :
    (s.renderAndPlace r o).ann.silent := by
  have rendered : (s.ann.render r.phrase r.number).1.silent := h.of_queues (s.ann.render_queues r.phrase r.number)
  unfold State.renderAndPlace
  simp only
  split
  · exact rendered.of_queues rfl
  · exact rendered.place o _

theorem State.moveCalls_silent (c : ScreenId) (n : Nat) {s : State} (h : s.ann.silent) :
    (State.moveCalls c n s).ann.silent := by
  induction n generalizing s with
  | zero => exact h
  | succ n ih =>
    unfold State.moveCalls
    split
    · exact h
    · split
      · exact ih (State.renderAndPlace_silent (s := s.setHeldCalls c _) h _ _)
      · exact h

theorem State.moveHeld_silent (l : List ScreenId) {s : State} (h : s.ann.silent) :
    (l.foldl State.moveHeld s).ann.silent := by
  induction l generalizing s with
  | nil => exact h
  | cons c l ih => exact ih (State.moveCalls_silent c _ h)

theorem Composer.silent_of_fresh {a : Composer} (h : a.queues = Vector.replicate 5 {}) : a.silent := fun o => by
  rw [h]
  simp

theorem State.reportActivity_ann (s t : State) : (s.reportActivity t).ann = t.ann := rfl

/-- R111: after a warm restart nothing plays. -/
theorem State.emptyQueues_silent (s : State) : s.emptyQueues.ann.silent := by
  unfold State.emptyQueues
  simp only
  rw [State.reportActivity_ann]
  exact State.moveHeld_silent allScreens (Composer.silent_of_fresh rfl)

/-! ## The blocks restarted -/

/-- R76: after a restart the read position stands the delay target behind the write position. -/
theorem DelayLine.restart_delay (l : DelayLine) {target : Nat} (ht : target ≤ 9599) (hw : l.write ≤ 9599) :
    ((l.restart target).write + 9600 - (l.restart target).read) % 9600 = target := by
  simp only [DelayLine.restart, lineSize]
  omega

theorem State.blocksRestarted_output (s : State) (o : OutputId) :
    s.blocksRestarted.sound.outputs[o] = { s.sound.outputs[o] with duck := 4096 } := by
  simp [State.blocksRestarted, SoundPath.restart]

theorem State.blocksRestarted_lane (s : State) (l : LaneId) :
    s.blocksRestarted.gate.lanes[l] = s.gate.lanes[l].reloadTimers := by
  simp [State.blocksRestarted, GateCounter.restart]

/-- R113: a silence timer that runs is reloaded with its limit, and one that rests stays at rest. -/
theorem Lane.reloadTimers_silence (n : Lane) :
    (n.silenceTimer = none → n.reloadTimers.silenceTimer = none) ∧
      (n.silenceTimer.isSome → n.silenceLimit ≠ 0 → n.reloadTimers.silenceTimer = some n.silenceLimit) := by
  refine ⟨fun rests => ?_, fun runs limit => ?_⟩
  · simp [Lane.reloadTimers, rests]
  · obtain ⟨v, hv⟩ := Option.isSome_iff_exists.mp runs
    simp [Lane.reloadTimers, hv, loadLimit, limit]

/-- R109: a report of call activity leaves every order its number. -/
theorem RouterKept.numbers {r r' : Router} (h : RouterKept r r') :
    r'.orders.map (·.number) = r.orders.map (·.number) := by
  have same := congrArg (List.map (·.number)) h.orders
  simpa only [List.map_map, Function.comp_def] using same

/-! ## The turn of the DONE -/

/-- R37, R42: on a link with no passing traffic an untracked URGENT cell goes, and the restart follows the turn of the DONE
that ends one. -/
theorem State.portBTurn_restart {s : State} {o : OwnCell} {os : List OwnCell}
    (free : ∀ b, s.cell.sending ≠ .passing b) (buffer : s.cell.buffer = []) (arriving : s.loop.arriving = none)
    (front : s.cell.urgent = o :: os) (untracked : o.kind.tracked = none) (ends : o.endsRestart = true) :
    ∃ d : CellProcessor, s.portBTurn = ({ s with cell := d } : State).warmRestart ∧ d.taps = s.cell.taps := by
  have turn : s.portBTurn = (s.modCell fun c => { c with sending := .idle }).queueTurn := by
    unfold State.portBTurn
    split
    · next b h => exact absurd h (free b)
    all_goals simp only [State.freeTurn, State.modCell, buffer, arriving]
  have picked (room : Bool) : pickEntry room (o :: os) = some ⟨o, os, false⟩ := by
    simp only [pickEntry, untracked, Option.isNone_none, Bool.true_or, if_true]
  have taps (c : CellProcessor) : (c.track o).taps = c.taps := by
    simp only [CellProcessor.track, untracked]
    split <;> rfl
  rw [turn]
  simp only [State.queueTurn, State.modCell, front, picked, State.sendOwn, ends, if_true]
  split
  · exact ⟨_, rfl, taps _⟩
  · exact ⟨_, rfl, taps _⟩

end Sys2Proof.Machine

namespace Sys2Proof.Proofs
open Sys2Proof.Machine

/-- Settles O17: the turn of the DONE restarts the blocks, and the Composer's part changes no more than queues, held calls
and the call activity of orders. -/
theorem warmRestartTakesEffect : Obligations.WarmRestartTakesEffect := by
  intro s o os free buffer arriving front reply ends
  obtain ⟨d, turn, taps⟩ := State.portBTurn_restart free buffer arriving front (by rw [reply]; rfl) ends
  let b : State := State.blocksRestarted { s with cell := d }
  have announced : Announced b b.emptyQueues := b.emptyQueues_announced
  have rest := announced.rest
  have sound : b.emptyQueues.sound = b.sound := announced.kept.sound
  have gate : b.emptyQueues.gate = b.gate := announced.kept.gate
  refine ⟨b.emptyQueues, congrArg Host.Outcome.next (turn.trans (State.warmRestart_eq _)), ?_⟩
  have cell : b.emptyQueues.cell = b.cell := by rw [rest]
  refine ⟨by rw [cell]; rfl, by rw [cell]; rfl, by rw [cell]; rfl, by rw [cell]; exact taps, by rw [rest]; rfl,
    by rw [rest]; rfl, by rw [rest]; rfl, by rw [rest]; rfl, fun c => ?_, fun o => ?_, fun l => ?_,
    announced.kept.router.numbers, by rw [rest]; rfl, by rw [rest]; rfl⟩
  · have line := State.blocksRestarted_line { s with cell := d } c
    rw [announced.kept.screens c, State.blocksRestarted_screen, sound, line]
    exact ⟨rfl, rfl, rfl, rfl, rfl, rfl, DelayLine.restart_delay _⟩
  · rw [sound, State.blocksRestarted_output]
    exact ⟨rfl, b.emptyQueues_silent o⟩
  · rw [gate, State.blocksRestarted_lane]
    obtain ⟨rests, runs⟩ := s.gate.lanes[l].reloadTimers_silence
    exact ⟨rfl, rests, runs⟩

end Sys2Proof.Proofs

/-! PROOFS. One 1 ms tick of the loop ports and the return tracker (R17, R19, R46). -/

namespace Sys2Proof.Machine

/-! ## The ports: loss timers and quiet timers -/

theorem State.port_modPort_self (s : State) (p : PortId) (f : Port → Port) : (s.modPort p f).port p = f (s.port p) := by
  rw [State.modPort_port, if_pos rfl]

theorem State.port_modPort_other (s : State) {p q : PortId} (h : p ≠ q) (f : Port → Port) :
    (s.modPort p f).port q = s.port q := by
  rw [State.modPort_port, if_neg h]

/-- R18, R19: a line error counts nothing, counts, or counts and drops the link; it counts on no port under its quiet
timer. -/
theorem State.lineError_cases (s : State) (p : PortId) :
    s.lineError p = s ∨
      (s.port p).quiet = none ∧
        (s.lineError p = s.modPort p Port.erred ∨ s.lineError p = (s.modPort p Port.erred).dropLink p) := by
  unfold State.lineError
  split
  · next counts =>
    have open' : (s.port p).quiet = none := by
      have notices := counts.1
      simp only [Port.notices, Bool.and_eq_true, Option.isNone_iff_eq_none] at notices
      exact notices.2
    refine .inr ⟨open', ?_⟩
    simp only
    split
    · exact .inr rfl
    · exact .inl rfl
  · exact .inl rfl

theorem State.lineError_port_other (s : State) {p q : PortId} (h : p ≠ q) : (s.lineError p).port q = s.port q := by
  rcases s.lineError_cases p with k | ⟨-, k | k⟩
  · rw [k]
  · rw [k, s.port_modPort_other h]
  · rw [k, State.dropLink_port, if_neg h, s.port_modPort_other h]

/-- A line error of port A's arriving cell is a line error of port A, or none. -/
theorem State.arrivingError_cases (s : State) (p : PortId) : s.arrivingError p = s ∨ s.arrivingError p = s.lineError p := by
  unfold State.arrivingError
  split
  · split
    · exact .inr rfl
    · exact .inl rfl
  · exact .inl rfl
  · exact .inl rfl

theorem State.arrivingError_port_other (s : State) {p q : PortId} (h : p ≠ q) :
    (s.arrivingError p).port q = s.port q := by
  rcases s.arrivingError_cases p with k | k
  · rw [k]
  · rw [k, s.lineError_port_other h]

theorem State.lossTick_port_other (s : State) {p q : PortId} (h : p ≠ q) : (s.lossTick p).port q = s.port q := by
  have erred := s.arrivingError_port_other h
  unfold State.lossTick
  split
  · rfl
  · split
    · unfold State.lossOfSignal
      split
      · rfl
      · simp only
        split
        · exact erred
        · rw [State.leaveLink_port, if_neg h, erred]
    · exact s.port_modPort_other h _

/-- R19: a line error on a port with no quiet timer leaves it there, or the link drops. -/
theorem State.arrivingError_open (s : State) {p : PortId} (h : (s.port p).quiet = none) :
    let v := (s.arrivingError p).port p
    (v.state = .down ∧ v.lossTimer = false ∧ v.quiet = some 100) ∨ (v.state = (s.port p).state ∧ v.quiet = none) := by
  rcases s.arrivingError_cases p with k | k
  · rw [k]
    exact .inr ⟨rfl, h⟩
  · rw [k]
    rcases s.lineError_cases p with e | ⟨-, e | e⟩
    · rw [e]
      exact .inr ⟨rfl, h⟩
    · rw [e, s.port_modPort_self]
      exact .inr ⟨rfl, h⟩
    · rw [e, State.dropLink_port, if_pos rfl]
      exact .inl ⟨rfl, rfl, rfl⟩

theorem State.arrivingError_quiet (s : State) {p : PortId} {n : Nat} (h : (s.port p).quiet = some n) :
    s.arrivingError p = s := by
  rcases s.arrivingError_cases p with k | k
  · exact k
  · rcases s.lineError_cases p with e | ⟨none, -⟩
    · rw [k, e]
    · rw [h] at none
      cases none

/-- R17: `w` is what the loss timer's turn makes of port `v`: a quiet timer stays, a free port that is not DOWN loads its
loss timer, or leaves its state when that runs already. -/
structure Port.lossTicked (v w : Port) : Prop where
  quiet : ∀ n, v.quiet = some n → w.quiet = some n
  opened : v.quiet = none → w.quiet = none ∨ w.quiet = some 100
  drops : v.quiet = none → v.held = false → v.state ≠ .down → v.lossTimer = true → w.state = .down ∧ w.lossTimer = false
  loads : v.quiet = none → v.held = false → v.state ≠ .down → v.lossTimer = false → w.state = v.state ∧ w.lossTimer = true

theorem State.lossTick_port (s : State) (p : PortId) : (s.port p).lossTicked ((s.lossTick p).port p) := by
  unfold State.lossTick
  split
  · next still =>
    have none (held : (s.port p).held = false) (up : (s.port p).state ≠ .down) : False := by
      rcases still with h | h
      · rw [held] at h; cases h
      · exact up h
    exact ⟨fun _ => id, .inl, fun _ held up => (none held up).elim, fun _ held up => (none held up).elim⟩
  · next moves =>
    split
    · next runs =>
      unfold State.lossOfSignal
      rw [if_neg moves]
      simp only
      have quiet (n : Nat) (h : (s.port p).quiet = some n) := s.arrivingError_quiet h
      split
      · next dropped =>
        refine ⟨fun n h => ?_, fun h => ?_, fun h _ up _ => ?_, fun _ _ _ rests => ?_⟩
        · rw [quiet n h]; exact h
        · rcases s.arrivingError_open h with ⟨-, -, q⟩ | ⟨-, q⟩
          · exact .inr q
          · exact .inl q
        · rcases s.arrivingError_open h with ⟨down, timer, -⟩ | ⟨same, -⟩
          · exact ⟨down, timer⟩
          · exact absurd (same.symm.trans dropped) up
        · rw [rests] at runs; cases runs
      · rw [State.leaveLink_port, if_pos rfl]
        refine ⟨fun n h => ?_, fun h => ?_, fun _ _ _ _ => ⟨rfl, rfl⟩, fun _ _ _ rests => ?_⟩
        · rw [quiet n h]; exact h
        · rcases s.arrivingError_open h with ⟨-, -, q⟩ | ⟨-, q⟩
          · exact .inr q
          · exact .inl q
        · rw [rests] at runs; cases runs
    · next rests =>
      rw [s.port_modPort_self]
      exact ⟨fun _ => id, .inl, fun _ _ _ runs => absurd runs rests, fun _ _ _ _ => ⟨rfl, rfl⟩⟩

/-- R19: a port after its quiet timer has fallen, or ended. -/
def Port.quietTicked (v : Port) : Port :=
  if expires v.quiet then { v with quiet := none, state := .hailing } else { v with quiet := ticked v.quiet }

theorem State.quietTick_port (s : State) (p q : PortId) :
    (s.quietTick p).port q = if p = q then (s.port p).quietTicked else s.port q := by
  unfold State.quietTick Port.quietTicked
  split
  · next ends =>
    have running : (s.port p).quiet.isSome := by
      unfold expires at ends
      split at ends
      · next h => rw [h]; rfl
      · cases ends
    rw [State.quietEnds, if_pos running, State.modPort_port]
  · rw [State.modPort_port]

/-- R17, R19: `w` is what one 1 ms tick makes of port `v`. -/
structure Port.msTicked (v w : Port) : Prop where
  quiet : ∀ n, v.quiet = some n → w.quiet = (if n ≤ 1 then none else some (n - 1)) ∧ (n ≤ 1 → w.state = .hailing)
  loss : v.quiet = none → v.held = false → v.state ≠ .down →
    if v.lossTimer = true then w.state = .down ∧ w.lossTimer = false else w.state = v.state ∧ w.lossTimer = true

theorem Port.lossTicked.msTicked {v w : Port} (h : v.lossTicked w) : v.msTicked w.quietTicked := by
  refine ⟨fun n hn => ?_, fun quiet held up => ?_⟩
  · have runs := h.quiet n hn
    by_cases low : n ≤ 1 <;> simp [Port.quietTicked, expires, ticked, runs, low]
  · have kept : w.quietTicked.state = w.state ∧ w.quietTicked.lossTimer = w.lossTimer := by
      rcases h.opened quiet with q | q <;> simp [Port.quietTicked, expires, q]
    rw [kept.1, kept.2]
    split
    · next runs => exact h.drops quiet held up runs
    · next rests => exact h.loads quiet held up (Bool.eq_false_iff.2 rests)

/-- R17, R19: both ports' timers at a 1 ms tick: a port's own two turns are all that touches it. -/
theorem State.portTicks_port (s : State) (p : PortId) :
    (s.port p).msTicked (((((s.lossTick .a).lossTick .b).quietTick .a).quietTick .b).port p) := by
  cases p with
  | a =>
    rw [State.quietTick_port, if_neg (by decide), State.quietTick_port, if_pos rfl,
      State.lossTick_port_other _ (by decide)]
    exact (s.lossTick_port .a).msTicked
  | b =>
    rw [State.quietTick_port, if_pos rfl, State.quietTick_port, if_neg (by decide)]
    have own := (s.lossTick .a).lossTick_port .b
    rw [s.lossTick_port_other (by decide)] at own
    exact own.msTicked

end Sys2Proof.Machine

/-! PROOFS. What announcements and events do to the calls of orders (R102, R103, R109): no order's call becomes active but
that of the order called. -/

namespace Sys2Proof.Machine

/-! ## Calls in the queues -/

/-- A queue holds a call of the order. -/
abbrev AnnQueue.holds (q : AnnQueue) (n : Nat) : Bool := q.entries.any (·.calls n)

theorem AnnQueue.holds_eq (q : AnnQueue) (n : Nat) :
    q.holds n = (q.playing.any (·.calls n) || q.waiting.any (·.calls n)) := by
  cases h : q.playing <;> simp [AnnQueue.holds, AnnQueue.entries, h]

theorem joinWaiting_any (e : QueueEntry) (l : List QueueEntry) (f : QueueEntry → Bool) :
    (joinWaiting e l).any f = (f e || l.any f) := by
  rw [(joinWaiting_perm e l).any_eq, List.any_cons]

theorem returnWaiting_any (e : QueueEntry) (l : List QueueEntry) (f : QueueEntry → Bool) :
    (returnWaiting e l).any f = (f e || l.any f) := by
  rw [(returnWaiting_perm e l).any_eq, List.any_cons]

/-- R105: a preemption reorders the entries of a queue. -/
theorem AnnQueue.stop_start_holds (q : AnnQueue) (n : Nat) : q.stop.start.holds n = q.holds n := by
  have stopped : q.stop.holds n = q.holds n := by
    unfold AnnQueue.stop
    split
    · rfl
    · next p h =>
      have rewound : p.rewind.calls n = p.calls n := rfl
      simp only [AnnQueue.holds_eq, returnWaiting_any, rewound, h, Option.any_none, Option.any_some, Bool.false_or]
  have idle : q.stop.playing = none := AnnQueue.stop_playing q
  rw [← stopped]
  unfold AnnQueue.start
  split
  · rfl
  · next e ws h => simp only [AnnQueue.holds_eq, h, idle, Option.any_none, Option.any_some, List.any_cons, Bool.false_or]

/-- Every call of the queues of `b` is one of those of `a`, or of the order `m`. -/
def Composer.callsFrom (a b : Composer) (m : Option Nat) : Prop :=
  ∀ (n : Nat) (o : OutputId), m ≠ some n → b.queues[o].holds n = true → a.queues[o].holds n = true

theorem Composer.callsFrom.of_queues {a b : Composer} {m : Option Nat} (same : b.queues = a.queues) : a.callsFrom b m :=
  fun n o _ h => by rwa [same] at h

theorem Composer.callsFrom.trans {a b c : Composer} {m : Option Nat} (h : a.callsFrom b m) (k : b.callsFrom c m) :
    a.callsFrom c m := fun n o hn hc => h n o hn (k n o hn hc)

/-- One queue replaced by one with no call of another order. -/
theorem Composer.callsFrom.set {a b : Composer} {m : Option Nat} (o : OutputId) (q : AnnQueue)
    (hq : ∀ n, m ≠ some n → q.holds n = true → a.queues[o].holds n = true) (same : b.queues = a.queues.set o q) :
    a.callsFrom b m := fun n i hn h => by
  rw [same] at h
  simp only [Fin.getElem_fin, Vector.getElem_set] at h
  split at h
  · next e => cases Fin.ext e; exact hq n hn h
  · exact h

theorem Composer.join_callsFrom (a : Composer) (o : OutputId) (q : AnnQueue) (e : QueueEntry)
    (hq : ∀ n, q.holds n = true → a.queues[o].holds n = true) : a.callsFrom (a.join o q e) e.order := by
  have joined (n : Nat) (hn : e.order ≠ some n)
      (h : ({ q with waiting := joinWaiting e q.waiting } : AnnQueue).holds n = true) : a.queues[o].holds n = true := by
    have other : e.calls n = false := by simpa [QueueEntry.calls] using hn
    simp only [AnnQueue.holds_eq, joinWaiting_any, other, Bool.false_or] at h
    exact hq n (by rw [AnnQueue.holds_eq]; exact h)
  unfold Composer.join
  simp only
  split
  · exact .set o _ (fun n hn h => joined n hn (by rwa [AnnQueue.stop_start_holds] at h)) rfl
  · exact .set o _ joined rfl

theorem Composer.discard_callsFrom (a : Composer) (o : OutputId) (e : QueueEntry) (m : Option Nat) :
    a.callsFrom (a.discard o e) m := .of_queues (Composer.release_queues a e.items)

/-- R103: an entry placed brings no call but its own. -/
theorem Composer.place_callsFrom (a : Composer) (o : OutputId) (e : QueueEntry) : a.callsFrom (a.place o e) e.order := by
  have counted : a.callsFrom { a with joins := a.joins + 1 } e.order := .of_queues rfl
  have kept (v : QueueEntry) (n : Nat)
      (h : AnnQueue.holds { a.queues[o] with waiting := a.queues[o].waiting.erase v } n = true) :
      a.queues[o].holds n = true := by
    simp only [AnnQueue.holds_eq, Bool.or_eq_true] at h ⊢
    rcases h with h | h
    · exact .inl h
    · obtain ⟨x, hx, calls⟩ := List.any_eq_true.1 h
      exact .inr (List.any_eq_true.2 ⟨x, List.mem_of_mem_erase hx, calls⟩)
  unfold Composer.place
  simp only
  split
  · exact counted.trans (Composer.join_callsFrom _ o _ { e with join := a.joins } fun _ => id)
  · split
    · exact counted.trans (Composer.discard_callsFrom _ o _ _)
    · next v _ =>
      split
      · refine (counted.trans (Composer.discard_callsFrom _ o v _)).trans
          (Composer.join_callsFrom _ o _ { e with join := a.joins } fun n h => ?_)
        have same : (Composer.discard { a with joins := a.joins + 1 } o v).queues = a.queues :=
          Composer.release_queues _ v.items
        rw [same]
        exact kept v n h
      · exact counted.trans (Composer.discard_callsFrom _ o _ _)

/-! ## Calls of the site (R102, R109) -/

/-- Every call that stands in `t`, in a queue or held, stands in `s`, but those of the order `m`. -/
def State.callsFrom (s t : State) (m : Option Nat) : Prop :=
  ∀ (n : Nat) (o : OutputId), m ≠ some n → t.callStands o n = true → s.callStands o n = true

theorem State.callsFrom.refl (s : State) (m : Option Nat) : s.callsFrom s m := fun _ _ _ => id

theorem State.callsFrom.trans {s t u : State} {m : Option Nat} (h : s.callsFrom t m) (k : t.callsFrom u m) :
    s.callsFrom u m := fun n o hn hu => h n o hn (k n o hn hu)

theorem State.callsFrom.of_ann (s : State) {a : Composer} {m : Option Nat} (h : s.ann.callsFrom a m) :
    s.callsFrom { s with ann := a } m := fun n o hn stands => by
  simp only [State.callStands, Bool.or_eq_true] at stands ⊢
  exact stands.imp_left (h n o hn)

theorem State.renderAndPlace_callsFrom (s : State) (r : Request) (o : OutputId) :
    s.callsFrom (s.renderAndPlace r o) r.order := by
  have rendered : s.ann.callsFrom (s.ann.render r.phrase r.number).1 r.order :=
    .of_queues (s.ann.render_queues r.phrase r.number)
  unfold State.renderAndPlace
  simp only
  split
  · exact .of_ann s (rendered.trans (.of_queues rfl))
  · exact .of_ann s (rendered.trans (Composer.place_callsFrom _ o _))

/-- R102: a held call added to a screen's list. -/
theorem State.setHeldCalls_callsFrom (s : State) (c : ScreenId) (number : Nat) :
    s.callsFrom (s.setHeldCalls c (s.screens[c].heldCalls ++ [number])) (some number) := fun n o hn stands => by
  have other : ¬ n = number := fun e => hn (congrArg some e.symm)
  unfold State.callStands at stands ⊢
  rw [Bool.or_eq_true] at stands ⊢
  refine stands.imp_right fun held => ?_
  cases h : screenOf o with
  | none => rw [h] at held; exact held
  | some d =>
    simp only [h, State.setHeldCalls, Fin.getElem_fin, State.modScreen_get] at held ⊢
    split at held
    · next e =>
      cases Fin.ext e
      simpa [other] using held
    · exact held

/-- R102: a request brings no call but its own. -/
theorem State.requestOne_callsFrom (s : State) (r : Request) (o : OutputId) :
    s.callsFrom (s.requestOne r o) r.order := by
  unfold State.requestOne
  split
  · exact s.renderAndPlace_callsFrom r o
  · next number called =>
    split
    · exact .of_ann s (.of_queues rfl)
    · split
      · split
        · exact called ▸ s.setHeldCalls_callsFrom _ number
        · exact s.renderAndPlace_callsFrom r o
      · exact s.renderAndPlace_callsFrom r o

theorem State.request_callsFrom (s : State) (r : Request) : s.callsFrom (s.request r) r.order := by
  unfold State.request
  induction allOutputs generalizing s with
  | nil => exact .refl s _
  | cons o l ih =>
    rw [List.foldl_cons]
    refine .trans ?_ (ih _)
    split
    · exact s.requestOne_callsFrom r o
    · exact .refl s _

theorem State.callsFrom.active {s t : State} {m : Option Nat} (h : s.callsFrom t m) {n : Nat} (hn : m ≠ some n)
    (active : t.callActive n = true) : s.callActive n = true := by
  obtain ⟨o, ho, stands⟩ := List.any_eq_true.1 active
  exact List.any_eq_true.2 ⟨o, ho, h n o hn stands⟩

/-! ## Orders that nothing but the mark of a late ticket and the end of a call touches -/

/-- `w` is order `o`, with a late ticket marked since or its call no longer active. -/
structure Order.still (o w : Order) : Prop where
  rest : w = { o with late := w.late, callActive := w.callActive }
  calls : o.callActive = false → w.callActive = false

theorem Order.still.refl (o : Order) : o.still o := ⟨rfl, id⟩

theorem Order.still.trans {o v w : Order} (h : o.still v) (k : v.still w) : o.still w :=
  ⟨by rw [k.rest, h.rest], k.calls ∘ h.calls⟩

theorem Order.still.state {o w : Order} (h : o.still w) : w.state = o.state := by rw [h.rest]

theorem Order.still.callCount {o w : Order} (h : o.still w) : w.callCount = o.callCount := by rw [h.rest]

theorem Order.still.recallLeft {o w : Order} (h : o.still w) : w.recallLeft = o.recallLeft := by rw [h.rest]

/-- Every order of `t` is one of `s`, still, in the same place. -/
def State.ordersStill (s t : State) : Prop :=
  ∃ f : Order → Order, t.router.orders = s.router.orders.map f ∧ ∀ o : Order, o.still (f o)

theorem State.ordersStill.of_same {s t : State} (h : t.router.orders = s.router.orders) : s.ordersStill t :=
  ⟨id, by rw [h, List.map_id], .refl⟩

theorem State.ordersStill.trans {s t u : State} (h : s.ordersStill t) (k : t.ordersStill u) : s.ordersStill u := by
  obtain ⟨f, hf, sf⟩ := h
  obtain ⟨g, hg, sg⟩ := k
  exact ⟨g ∘ f, by rw [hg, hf, List.map_map], fun o => (sf o).trans (sg (f o))⟩

theorem State.ordersStill.numbers {s t : State} (h : s.ordersStill t) :
    t.router.orders.map (·.number) = s.router.orders.map (·.number) := by
  obtain ⟨f, hf, sf⟩ := h
  rw [hf, List.map_map]
  exact List.map_congr_left fun o _ => by rw [Function.comp_apply, (sf o).rest]

/-- The order that reports its call activity (R109). -/
def Order.reported (before after : State) (o : Order) : Order :=
  if before.callActive o.number = after.callActive o.number then o
  else { o with callActive := after.callActive o.number }

theorem Order.reported_still {before after : State} {o : Order}
    (h : after.callActive o.number = true → before.callActive o.number = true) : o.still (o.reported before after) := by
  unfold Order.reported
  split
  · exact .refl o
  · next changed =>
    have ended : after.callActive o.number = false := by
      by_contra active
      have active := eq_true_of_ne_false active
      exact changed ((h active).trans active.symm)
    exact ⟨rfl, fun _ => ended⟩

theorem State.reportActivity_orders (before after : State) :
    (State.reportActivity before after).router.orders = after.router.orders.map (·.reported before after) := rfl

/-- R110: an event's announcement activates no call. -/
theorem State.eventRequest_ordersStill (s : State) (e : Event) (n : Nat) : s.ordersStill (s.eventRequest e n) := by
  unfold State.eventRequest
  split
  · exact .of_same rfl
  · split
    · exact .of_same rfl
    · next phrase _ _ =>
      let r : Request :=
        { phrase := phrase, mask := s.ann.events[e.code].mask, priority := s.ann.events[e.code].priority
          mode := s.ann.events[e.code].mode, origin := .event, number := n }
      have same : (s.request r).router.orders = s.router.orders := by rw [s.request_event r rfl]
      exact ⟨(·.reported s (s.request r)), same ▸ State.reportActivity_orders s (s.request r), fun o =>
        Order.reported_still fun active => (s.request_callsFrom r).active nofun active⟩

theorem State.raise_ordersStill (s : State) (e : Event) (n v : Nat) (c : Option ScreenId) :
    s.ordersStill (s.raise e n v c) := by
  have noticed : ((s.eventRequest e n).sendNotice e n v c).router.orders = (s.eventRequest e n).router.orders := by
    unfold State.sendNotice
    split
    · rw [State.handNormal_rest _ _ rfl]
      rfl
    · rfl
  exact (s.eventRequest_ordersStill e n).trans (.of_same noticed)

end Sys2Proof.Machine

/-! PROOFS. What a 1 ms tick leaves as it is for the coarser ticks that follow it (R12, R13), and the return tracker after it
(R46). -/

namespace Sys2Proof.Machine

/-! ## What brings no show to an end, and touches no ticket and no order -/

/-- From `s` to `t` tickets stay, orders stay but for late marks and ended calls, and every sequencer keeps its state. -/
structure Calm (s t : State) : Prop where
  tickets : t.router.tickets = s.router.tickets
  orders : s.ordersStill t
  shows : ∀ c : ScreenId, t.screens[c].seq.state = s.screens[c].seq.state

theorem Calm.refl (s : State) : Calm s s := ⟨rfl, .of_same rfl, fun _ => rfl⟩

theorem Calm.trans {s t u : State} (h : Calm s t) (k : Calm t u) : Calm s u :=
  ⟨k.tickets.trans h.tickets, h.orders.trans k.orders, fun c => (k.shows c).trans (h.shows c)⟩

theorem Calm.of_router {s t : State} (router : t.router = s.router)
    (shows : ∀ c : ScreenId, t.screens[c].seq.state = s.screens[c].seq.state) : Calm s t :=
  ⟨by rw [router], .of_same (by rw [router]), shows⟩

/-- Every sequencer is IDLE. -/
def State.dark (s : State) : Prop := ∀ c : ScreenId, s.screens[c].seq.state = .idle

theorem Calm.dark {s t : State} (h : Calm s t) (idle : s.dark) : t.dark := fun c => (h.shows c).trans (idle c)

/-- A fold of operations that are calm while every sequencer is IDLE. -/
theorem Calm.foldl {α : Type} {f : State → α → State} (h : ∀ s a, s.dark → Calm s (f s a)) (l : List α) {s : State}
    (idle : s.dark) : Calm s (l.foldl f s) := by
  induction l generalizing s with
  | nil => exact .refl s
  | cons a l ih => exact (h s a idle).trans (ih ((h s a idle).dark idle))

theorem State.raise_calm (s : State) (e : Event) (n v : Nat) (c : Option ScreenId) : Calm s (s.raise e n v c) where
  tickets := by rw [(s.raise_raised e n v c).rest]
  orders := s.raise_ordersStill e n v c
  shows d := by rw [(s.raise_raised e n v c).screens]

/-! ## What the loop ports leave as it is -/

/-- `t` is `s` but for the loop ports, the cells they send, and the events raised for them. -/
structure Linked (s t : State) : Prop where
  seqr : t.seqr = s.seqr
  sound : t.sound = s.sound
  gate : t.gate = s.gate
  screens : t.screens = s.screens
  tracker : t.cell.tracker = s.cell.tracker
  calm : Calm s t

theorem Linked.refl (s : State) : Linked s s := ⟨rfl, rfl, rfl, rfl, rfl, .refl s⟩

theorem Linked.trans {s t u : State} (h : Linked s t) (k : Linked t u) : Linked s u :=
  ⟨k.seqr.trans h.seqr, k.sound.trans h.sound, k.gate.trans h.gate, k.screens.trans h.screens,
    k.tracker.trans h.tracker, h.calm.trans k.calm⟩

theorem State.raise_linked (s : State) (e : Event) (n v : Nat) (c : Option ScreenId) : Linked s (s.raise e n v c) := by
  have raised := s.raise_raised e n v c
  exact ⟨raised.kept.seqr, raised.kept.sound, raised.kept.gate, raised.screens, by rw [raised.rest],
    s.raise_calm e n v c⟩

theorem Linked.modPort (s : State) (p : PortId) (f : Port → Port) : Linked s (s.modPort p f) := by
  cases p <;> exact ⟨rfl, rfl, rfl, rfl, rfl, .of_router rfl fun _ => rfl⟩

theorem State.cutCells_linked (s : State) (p : PortId) : Linked s (s.cutCells p) := by
  have tracker : (s.cutCells p).cell.tracker = s.cell.tracker := by
    cases p with
    | a =>
      simp only [State.cutCells, State.cutArriving]
      split
      · split <;> rfl
      · rfl
    | b =>
      simp only [State.cutCells, State.cutSending]
      split
      · split <;> rfl
      · rfl
  have rest := s.cutCells_rest p
  exact ⟨by rw [rest], by rw [rest], by rw [rest], by rw [rest], tracker,
    .of_router (by rw [rest]) fun c => by rw [rest]⟩

theorem State.leaveLink_linked (s : State) (p : PortId) (new : LinkState) : Linked s (s.leaveLink p new) :=
  ((s.cutCells_linked p).trans (.modPort _ p _)).trans (State.raise_linked _ _ _ _ _)

theorem State.arrivingError_linked (s : State) (p : PortId) : Linked s (s.arrivingError p) := by
  rcases s.arrivingError_cases p with k | k <;> rw [k]
  · exact .refl s
  · rcases s.lineError_cases p with e | ⟨-, e | e⟩ <;> rw [e]
    · exact .refl s
    · exact .modPort s p _
    · exact ((Linked.modPort s p _).trans (State.leaveLink_linked _ p _)).trans (.modPort _ p _)

theorem State.lossTick_linked (s : State) (p : PortId) : Linked s (s.lossTick p) := by
  unfold State.lossTick
  split
  · exact .refl s
  · split
    · unfold State.lossOfSignal
      split
      · exact .refl s
      · simp only
        split
        · exact s.arrivingError_linked p
        · exact (s.arrivingError_linked p).trans (State.leaveLink_linked _ p _)
    · exact .modPort s p _

theorem State.quietTick_linked (s : State) (p : PortId) : Linked s (s.quietTick p) := by
  unfold State.quietTick
  split
  · unfold State.quietEnds
    split
    · exact .modPort s p _
    · exact .refl s
  · exact .modPort s p _

/-- R17, R19: the ports' part of a 1 ms tick. -/
def State.portTicks (s : State) : State := (((s.lossTick .a).lossTick .b).quietTick .a).quietTick .b

theorem State.portTicks_linked (s : State) : Linked s s.portTicks :=
  (((s.lossTick_linked .a).trans (State.lossTick_linked _ .b)).trans (State.quietTick_linked _ .a)).trans
    (State.quietTick_linked _ .b)

theorem State.msTick_eq (s : State) : s.msTick = s.portTicks.trackerTick := rfl

/-! ## The return tracker (R46) -/

/-- What a 1 ms tick leaves as it is of what the coarser ticks speak of. -/
structure Apart (s t : State) : Prop where
  seqr : t.seqr = s.seqr
  inputs : t.sound.inputs = s.sound.inputs
  silence : ∀ c : ScreenId, t.sound.transmitters[c].silenceTimer = s.sound.transmitters[c].silenceTimer
  gate : t.gate = s.gate
  screens : ∀ c : ScreenId, t.screens[c] = { s.screens[c] with heldCalls := t.screens[c].heldCalls }

theorem Apart.refl (s : State) : Apart s s := ⟨rfl, rfl, fun _ => rfl, rfl, fun _ => rfl⟩

theorem Apart.trans {s t u : State} (h : Apart s t) (k : Apart t u) : Apart s u :=
  ⟨k.seqr.trans h.seqr, k.inputs.trans h.inputs, fun c => (k.silence c).trans (h.silence c), k.gate.trans h.gate,
    fun c => by rw [k.screens c, h.screens c]⟩

theorem Kept.apart {s t : State} (h : Kept s t) : Apart s t :=
  ⟨h.seqr, by rw [h.sound], fun c => by rw [h.sound], h.gate, h.screens⟩

theorem Linked.apart {s t : State} (h : Linked s t) : Apart s t :=
  ⟨h.seqr, by rw [h.sound], fun c => by rw [h.sound], h.gate, fun c => by rw [h.screens]⟩

theorem Apart.modCell (s : State) (f : CellProcessor → CellProcessor) : Apart s (s.modCell f) :=
  ⟨rfl, rfl, fun _ => rfl, rfl, fun _ => rfl⟩

/-- R47: an owner that learns an outcome leaves the ports, the tracker and the timers of the coarser ticks as they are. -/
theorem State.outcome_apart (s : State) (e : TrackEntry) (d : Bool) :
    Apart s (s.outcome e d) ∧ (s.outcome e d).loop = s.loop ∧ (s.outcome e d).cell.tracker = s.cell.tracker := by
  have of_kept {t : State} (h : Kept s t) : Apart s t ∧ t.loop = s.loop ∧ t.cell.tracker = s.cell.tracker :=
    ⟨h.apart, h.loop, by rw [h.cell.rest]⟩
  have same : Apart s s ∧ s.loop = s.loop ∧ s.cell.tracker = s.cell.tracker := ⟨.refl s, rfl, rfl⟩
  unfold State.outcome
  split
  · exact of_kept (s.ticketOutcome_kept _ _ _)
  · split
    · exact same
    · exact ⟨⟨rfl, rfl, fun _ => rfl, rfl, fun _ => rfl⟩, rfl, rfl⟩
  · split
    · exact same
    · exact of_kept (s.projUnanswered_kept _)
  · split
    · exact same
    · next c _ _ =>
      refine ⟨⟨rfl, rfl, fun d => ?_, rfl, fun _ => rfl⟩, rfl, rfl⟩
      simp only [State.txUnanswered, Fin.getElem_fin, State.modTransmitter_get]
      split
      · next e => cases Fin.ext e; rfl
      · rfl
  · exact same

/-- R46: a return that does not come leaves the tracker, and tells its owner. -/
theorem State.returnExpires_apart (s : State) (tag : Half) :
    Apart s (s.returnExpires tag) ∧ (s.returnExpires tag).loop = s.loop ∧
      (s.returnExpires tag).cell.tracker = s.cell.tracker.filter fun e => e.tag != tag := by
  unfold State.returnExpires
  split
  · next absent =>
    refine ⟨.refl s, rfl, (List.filter_eq_self.2 fun e he => ?_).symm⟩
    simpa using List.find?_eq_none.1 absent e he
  · next e _ =>
    obtain ⟨apart, loop, tracker⟩ := State.outcome_apart
      (s.modCell fun p => { p.untrack tag with lost := bump16 (p.untrack tag).lost }) e false
    exact ⟨(Apart.modCell s _).trans apart, loop, tracker⟩

theorem State.returnsExpire_apart (due : List Half) (s : State) :
    Apart s (due.foldl State.returnExpires s) ∧ (due.foldl State.returnExpires s).loop = s.loop ∧
      (due.foldl State.returnExpires s).cell.tracker = s.cell.tracker.filter fun e => decide (e.tag ∉ due) := by
  induction due generalizing s with
  | nil => exact ⟨.refl s, rfl, by simp⟩
  | cons tag due ih =>
    obtain ⟨apart, loop, tracker⟩ := s.returnExpires_apart tag
    obtain ⟨aparts, loops, trackers⟩ := ih (s.returnExpires tag)
    refine ⟨apart.trans aparts, loops.trans loop, ?_⟩
    rw [List.foldl_cons, trackers, tracker, List.filter_filter]
    refine List.filter_congr fun e _ => ?_
    have kept : (e.tag != tag) = !decide (e.tag = tag) := rfl
    simp only [List.mem_cons, not_or, Bool.decide_and, decide_not, kept, Bool.and_comm]

/-- R46: the tags of the entries whose timer the tick brings to 0. -/
def dueTags (tracker : List TrackEntry) : List Half :=
  (tracker.filter fun e => decide (e.timer ≤ 1)).map fun e => e.tag

theorem mem_dueTags {tracker : List TrackEntry} (distinct : tracker.Pairwise fun e f => e.tag ≠ f.tag) {e : TrackEntry}
    (he : e ∈ tracker) : e.tag ∈ dueTags tracker ↔ e.timer ≤ 1 := by
  constructor
  · intro due
    obtain ⟨f, hf, same⟩ := List.mem_map.1 due
    obtain ⟨hf, low⟩ := List.mem_filter.1 hf
    have eq : f = e := List.inj_on_of_nodup_map (List.pairwise_map.2 distinct) hf he same
    subst eq
    simpa using low
  · exact fun low => List.mem_map.2 ⟨e, List.mem_filter.2 ⟨he, by simpa using low⟩, rfl⟩

/-- R46: the tracker after a 1 ms tick: the entries whose timer does not run out, each lowered by 1. -/
theorem State.trackerTick_apart (s : State) :
    Apart s s.trackerTick ∧ s.trackerTick.loop = s.loop ∧
      (s.cell.trackerFits → s.trackerTick.cell.tracker =
        (s.cell.tracker.filter fun e => decide (2 ≤ e.timer)).map fun e => { e with timer := e.timer - 1 }) := by
  obtain ⟨apart, loop, tracker⟩ := State.returnsExpire_apart
    (dueTags s.cell.tracker)
    (s.modCell fun c => { c with tracker := c.tracker.map fun e => { e with timer := e.timer - 1 } })
  refine ⟨(Apart.modCell s _).trans apart, loop, fun fits => tracker.trans ?_⟩
  show List.filter _ (List.map _ s.cell.tracker) = _
  rw [List.filter_map]
  refine congrArg _ (List.filter_congr fun e he => ?_)
  have due := mem_dueTags fits.2 he
  simp only [Function.comp_apply, due, decide_eq_decide]
  omega

/-- With an empty tracker nothing is lost. -/
theorem State.trackerTick_empty {s : State} (h : s.cell.tracker = []) :
    s.trackerTick = s.modCell fun c => { c with tracker := [] } := by
  simp [State.trackerTick, h, State.modCell]

/-! ## The whole 1 ms tick -/

theorem State.msTick_apart (s : State) : Apart s s.msTick :=
  s.portTicks_linked.apart.trans (State.trackerTick_apart _).1

theorem State.msTick_port (s : State) (p : PortId) : (s.port p).msTicked (s.msTick.port p) := by
  have loop := (State.trackerTick_apart s.portTicks).2.1
  have same : s.msTick.port p = s.portTicks.port p := by cases p <;> simp only [State.msTick_eq, State.port, loop]
  rw [same]
  exact s.portTicks_port p

theorem State.msTick_tracker {s : State} (fits : s.cell.trackerFits) :
    s.msTick.cell.tracker =
      (s.cell.tracker.filter fun e => decide (2 ≤ e.timer)).map fun e => { e with timer := e.timer - 1 } := by
  have same := s.portTicks_linked.tracker
  have fits : s.portTicks.cell.trackerFits := by rwa [CellProcessor.trackerFits, same]
  rw [s.msTick_eq, (State.trackerTick_apart _).2.2 fits, same]

theorem State.msTick_calm {s : State} (empty : s.cell.tracker = []) : Calm s s.msTick := by
  have same := s.portTicks_linked.tracker.trans empty
  rw [s.msTick_eq, State.trackerTick_empty same]
  exact s.portTicks_linked.calm.trans (.of_router rfl fun _ => rfl)

end Sys2Proof.Machine

/-! PROOFS. The 10 ms tick: show clocks and rests (R55, R67). -/

namespace Sys2Proof.Machine

/-! ## One element of a family, through a fold over its members -/

/-- A fold over distinct members of a family, each step of which changes its own element `g a x` alone. -/
theorem foldl_pointwise {α β : Type} {f : State → α → State} {P : State → α → β} {g : α → β → β}
    (own : ∀ s a, P (f s a) a = g a (P s a)) (other : ∀ s a b, b ≠ a → P (f s a) b = P s b) {l : List α}
    (distinct : l.Nodup) (s : State) (a : α) :
    (a ∈ l → P (l.foldl f s) a = g a (P s a)) ∧ (a ∉ l → P (l.foldl f s) a = P s a) := by
  induction l generalizing s with
  | nil => exact ⟨nofun, fun _ => rfl⟩
  | cons b l ih =>
    obtain ⟨hb, hl⟩ := List.nodup_cons.1 distinct
    obtain ⟨inside, outside⟩ := ih hl (f s b)
    rw [List.foldl_cons]
    refine ⟨fun ha => ?_, fun ha => ?_⟩
    · by_cases eq : a = b
      · subst eq
        rw [outside hb, own]
      · rw [inside (List.mem_of_ne_of_mem eq ha), other s b a eq]
    · obtain ⟨ne, ha⟩ := not_or.1 (fun k => ha (List.mem_cons.2 k))
      rw [outside ha, other s b a ne]

/-- A fold whose steps all keep a part of the state keeps it. -/
theorem foldl_same {α β : Type} {f : State → α → State} {P : State → β} (same : ∀ s a, P (f s a) = P s) (l : List α)
    (s : State) : P (l.foldl f s) = P s := by
  induction l generalizing s with
  | nil => rfl
  | cons a l ih => rw [List.foldl_cons, ih, same]

theorem mem_allScreens (c : ScreenId) : c ∈ allScreens := by
  revert c
  decide

theorem mem_allLanes (l : LaneId) : l ∈ allLanes := by
  revert l
  decide

/-! ## Cues that wait for a GO (R55) -/

/-- R55: a cue that waits for a GO that is not there does not fire. -/
theorem State.test_waits {s : State} {c : ScreenId} (h : s.waitsForGo c) : s.test c = s := by
  have waits : s.testCue c false = .waits := by
    simp only [State.testCue, h.trigger, h.noPending, Bool.false_eq_true, if_false]
  simp only [State.test, runFuel, State.runCues, waits]
  split <;> rfl

/-- A sequencer with the same current cue and the same pending GO waits as before. -/
theorem State.waitsForGo.of_same {s t : State} {c : ScreenId} (h : s.waitsForGo c) (seqr : t.seqr = s.seqr)
    (base : t.screens[c].seq.segBase = s.screens[c].seq.segBase)
    (index : t.screens[c].seq.cueIndex = s.screens[c].seq.cueIndex)
    (pending : t.screens[c].seq.goPending = s.screens[c].seq.goPending) : t.waitsForGo c := by
  have entry : t.currentEntry c = s.currentEntry c := by
    simp only [State.currentEntry, ShowRecord.poolEntry, base, index]
  have cue : t.currentCue c = s.currentCue c := by simp only [State.currentCue, entry, seqr]
  exact ⟨by rw [cue]; exact h.trigger, pending.trans h.noPending⟩

/-- A change of a show record that keeps its cue and its GO leaves every screen's cue waiting. -/
theorem State.waitsForGo.modSeq {s : State} {c : ScreenId} (d : ScreenId) (f : ShowRecord → ShowRecord)
    (same : ∀ r, (f r).segBase = r.segBase ∧ (f r).cueIndex = r.cueIndex ∧ (f r).goPending = r.goPending)
    (h : s.waitsForGo c) : (s.modSeq d f).waitsForGo c := by
  by_cases eq : c = d
  · subst eq
    have seq : (s.modSeq c f).screens[c].seq = f s.screens[c].seq := by rw [State.modSeq, State.modScreen_self]
    obtain ⟨base, index, pending⟩ := same s.screens[c].seq
    exact h.of_same rfl (seq ▸ base) (seq ▸ index) (seq ▸ pending)
  · have seq : (s.modSeq d f).screens[c] = s.screens[c] := s.modScreen_other d _ eq
    exact h.of_same rfl (by rw [seq]) (by rw [seq]) (by rw [seq])

/-- R67: the show clock of a screen after a 10 ms tick. -/
def Screen.clockAfter (v : Screen) : Nat :=
  if v.seq.state = .running ∧ v.config.clockSource = .timebase ∧ v.seq.clock < clockMax then v.seq.clock + 1
  else v.seq.clock

/-- R55, R67: the clock of a screen gains, and the rest of its cue ends. -/
def Screen.tenMsTicked (v : Screen) : Screen := { v with seq := { v.seq with resting := false, clock := v.clockAfter } }

theorem State.modScreen_id (s : State) (c : ScreenId) : s.modScreen c id = s := by
  have same : s.screens.set c s.screens[c] = s.screens := by simp
  simp only [State.modScreen, id, same]

/-- A function that leaves a screen's record as it is changes nothing. -/
theorem State.modScreen_same (s : State) (c : ScreenId) {f : Screen → Screen} (h : f s.screens[c] = s.screens[c]) :
    s.modScreen c f = s := by
  have same : s.modScreen c f = s.modScreen c id := by simp only [State.modScreen, h, id]
  rw [same, s.modScreen_id]

/-- R67: a 10 ms tick of a TIMEBASE screen's clock, whose cue waits. -/
theorem State.timebaseClock_waits {s : State} {c : ScreenId} (h : s.waitsForGo c) :
    s.timebaseClock c = s.modSeq c fun r => { r with clock := s.screens[c].clockAfter } := by
  unfold State.timebaseClock State.advanceClock Screen.clockAfter
  by_cases ticks : s.screens[c].seq.state = .running ∧ s.screens[c].config.clockSource = .timebase
  · by_cases room : s.screens[c].seq.clock < clockMax
    · rw [if_pos ticks, if_pos room, if_pos ⟨ticks.1, ticks.2, room⟩,
        State.test_waits (h.modSeq c (fun r => { r with clock := r.clock + 1 }) fun _ => ⟨rfl, rfl, rfl⟩)]
      rfl
    · rw [if_pos ticks, if_neg room, if_neg fun k => room k.2.2]
      exact (s.modScreen_same c rfl).symm
  · rw [if_neg ticks, if_neg fun k => ticks ⟨k.1, k.2.1⟩]
    exact (s.modScreen_same c rfl).symm

/-- R55, R67: a 10 ms tick of a screen whose cue waits. -/
theorem State.tenMsTick_waits {s : State} {c : ScreenId} (h : s.waitsForGo c) :
    s.tenMsTick c = s.modScreen c Screen.tenMsTicked := by
  have clock := s.timebaseClock_waits h
  unfold State.tenMsTick
  rw [clock]
  split
  · next rests =>
    have ticked := h.modSeq c (fun r => { r with clock := s.screens[c].clockAfter }) fun _ => ⟨rfl, rfl, rfl⟩
    have resting : (s.modSeq c fun r => { r with clock := s.screens[c].clockAfter }).screens[c].seq.resting = true := by
      rw [State.modSeq, State.modScreen_self]
      exact rests
    rw [State.endRest, if_pos resting,
      State.test_waits (ticked.modSeq c (fun r => { r with resting := false }) fun _ => ⟨rfl, rfl, rfl⟩), State.modSeq,
      State.modSeq, State.modScreen_modScreen]
    rfl
  · next moves =>
    have still : s.screens[c].seq.resting = false := Bool.eq_false_iff.2 moves
    simp only [State.modSeq, State.modScreen, Screen.tenMsTicked, ← still]

theorem State.tensTick_screens {s : State} (h : ∀ c : ScreenId, s.waitsForGo c) (c : ScreenId) :
    s.tensTick.screens[c] = s.screens[c].tenMsTicked := by
  have waits (l : List ScreenId) {t : State} (ht : ∀ c : ScreenId, t.waitsForGo c) :
      l.foldl State.tenMsTick t = l.foldl (fun t c => t.modScreen c Screen.tenMsTicked) t := by
    induction l generalizing t with
    | nil => rfl
    | cons d l ih =>
      have after (e : ScreenId) : (t.modScreen d Screen.tenMsTicked).waitsForGo e :=
        (ht e).modSeq d (fun r => { r with resting := false, clock := t.screens[d].clockAfter }) fun _ => ⟨rfl, rfl, rfl⟩
      rw [List.foldl_cons, List.foldl_cons, State.tenMsTick_waits (ht d), ih after]
  have own (t : State) (d : ScreenId) : (t.modScreen d Screen.tenMsTicked).screens[d] = t.screens[d].tenMsTicked :=
    t.modScreen_self d _
  have other (t : State) (d e : ScreenId) (ne : e ≠ d) :
      (t.modScreen d Screen.tenMsTicked).screens[e] = t.screens[e] := t.modScreen_other d _ ne
  have distinct : allScreens.Nodup := by decide
  have each := foldl_pointwise (P := fun (t : State) (d : ScreenId) => t.screens[d]) (g := fun _ v => v.tenMsTicked)
    own other distinct s c
  rw [State.tensTick, waits allScreens h]
  exact each.1 (mem_allScreens c)

/-! ## Sequencers that are IDLE -/

/-- A cue that may not be tested stands, whatever the fuel. -/
theorem State.runCues_untestable {s : State} {c : ScreenId} (h : s.testable c = false) (n : Nat) (byGo : Bool) :
    State.runCues c n byGo s = s := by
  cases n with
  | zero => rfl
  | succ n => simp only [State.runCues, h, Bool.false_eq_true, if_false]

theorem State.test_idle {s : State} {c : ScreenId} (h : s.screens[c].seq.state = .idle) : s.test c = s := by
  have still : s.testable c = false := by
    simp only [State.testable, h, reduceCtorEq, decide_false, Bool.false_and]
  exact State.runCues_untestable still _ _

/-- A change of show records that keeps their states is calm. -/
theorem Calm.modSeq (s : State) (c : ScreenId) (f : ShowRecord → ShowRecord) (h : ∀ r, (f r).state = r.state) :
    Calm s (s.modSeq c f) := by
  refine .of_router rfl fun d => ?_
  by_cases eq : d = c
  · subst eq
    rw [State.modSeq, State.modScreen_self]
    exact h _
  · rw [State.modSeq, State.modScreen_other _ _ _ eq]

theorem State.tenMsTick_calm {s : State} {c : ScreenId} (h : s.screens[c].seq.state = .idle) : Calm s (s.tenMsTick c) := by
  have clock : s.timebaseClock c = s := by
    have stands : ¬ (s.screens[c].seq.state = .running ∧ s.screens[c].config.clockSource = .timebase) := fun k => by
      rw [h] at k
      cases k.1
    exact if_neg stands
  have ended := Calm.modSeq s c (fun r => { r with resting := false }) fun _ => rfl
  unfold State.tenMsTick
  rw [clock]
  split
  · next rests => rwa [State.endRest, if_pos rests, State.test_idle ((ended.shows c).trans h)]
  · exact .refl s

theorem State.tensTick_calm {s : State} (idle : s.dark) : Calm s s.tensTick :=
  Calm.foldl (fun _ c dark => State.tenMsTick_calm (dark c)) allScreens idle

end Sys2Proof.Machine

/-! PROOFS. The 1 s tick: windows, the sky age, sound-lost delays, silence timers and pass timers (R19, R56, R73, R88, R116,
R120). -/

namespace Sys2Proof.Machine

/-- R13: a timer after one tick of its kind: lowered by 1, ended when that brings it to 0. -/
def lowered (t : Option Nat) : Option Nat := if expires t then none else ticked t

theorem lowered_some (n : Nat) : lowered (some n) = if n ≤ 1 then none else some (n - 1) := by
  by_cases low : n ≤ 1 <;> simp [lowered, expires, ticked, low]

theorem expires_some {n : Nat} (h : n ≤ 1) : expires (some n) = true := by simpa [expires] using h

theorem eq_some_of_expires {t : Option Nat} (h : expires t = true) : ∃ n, t = some n := by
  cases t with
  | none => cases h
  | some n => exact ⟨n, rfl⟩

/-! ## What the parts of the 1 s tick read -/

/-- The ports, the tracker and the sky, which no timer of a screen or a lane touches. -/
def State.linkPart (s : State) : LoopPorts × List TrackEntry × Option Nat × Option Nat :=
  (s.loop, s.cell.tracker, s.seqr.skyTimer, s.seqr.lux)

/-- A screen's sound-lost delay, and whether its sound is lost. -/
def State.lostPart (s : State) (c : ScreenId) : Option Nat × Bool :=
  (s.sound.inputs[c].lostDelay, s.screens[c].sound.lost)

/-- A screen's transmitter silence timer. -/
def State.silencePart (s : State) (c : ScreenId) : Option Nat := s.sound.transmitters[c].silenceTimer

def State.lane (s : State) (l : LaneId) : Lane := s.gate.lanes[l]

theorem Staged.linkPart {s t : State} (h : Staged s t) : t.linkPart = s.linkPart := by
  obtain ⟨timer, lux⟩ := h.sky
  simp only [State.linkPart, h.loop, h.tracker, timer, lux]

theorem Staged.lostPart {s t : State} (h : Staged s t) : t.lostPart = s.lostPart := by
  funext c
  simp only [State.lostPart, h.inputs, h.sounds c]

theorem Staged.silencePart {s t : State} (h : Staged s t) : t.silencePart = s.silencePart := by
  funext c
  simp only [State.silencePart, h.transmitters]

theorem Staged.lane {s t : State} (h : Staged s t) : t.lane = s.lane := by
  funext l
  simp only [State.lane, h.gate]

theorem Staged.modField (s : State) (c : ScreenId) (f : FieldCounts → FieldCounts)
    (h : (f s.screens[c].field).admission = s.screens[c].field.admission) : Staged s (s.modField c f) :=
  .modScreen s c _ rfl rfl rfl rfl fun hc => hc.of_same rfl rfl rfl rfl h rfl

theorem State.raise_staged (s : State) (e : Event) (n v : Nat) (c : Option ScreenId) : Staged s (s.raise e n v c) :=
  (s.raise_kept e n v c).staged

theorem State.judgeFull_staged (s : State) (c : ScreenId) : Staged s (s.judgeFull c) := by
  unfold State.judgeFull
  split
  · exact (Staged.modField s c _ rfl).trans (State.raise_staged _ _ _ _ _)
  · split
    · exact .modField s c _ rfl
    · exact .refl s

theorem State.flagUncertain_staged (s : State) (c : ScreenId) : Staged s (s.flagUncertain c) := by
  unfold State.flagUncertain
  split
  · exact .refl s
  · exact (Staged.modField s c _ rfl).trans (State.raise_staged _ _ _ _ _)

/-! ## The sky age and the sound-lost delays -/

/-- R56: the sky age timer falls, and the sky is unknown when it ends. -/
def Sequencer.skyTicked (q : Sequencer) : Sequencer :=
  { q with skyTimer := lowered q.skyTimer, lux := if expires q.skyTimer then none else q.lux }

theorem State.skyTick_eq (s : State) : s.skyTick = s.modSeqr Sequencer.skyTicked := by
  unfold State.skyTick State.modSeqr Sequencer.skyTicked lowered
  split
  · next ends =>
    obtain ⟨n, hn⟩ := eq_some_of_expires ends
    simp only [State.skyExpires, hn, State.modSeqr]
  · rfl

/-- R73: what a 1 s tick does to a screen's sound-lost delay, but for the event and the failure hold that its end brings. -/
def State.lostFallen (s : State) (c : ScreenId) : State :=
  (s.modInput c fun i => { i with lostDelay := lowered i.lostDelay }).modScreenSound c fun v =>
    { v with lost := v.lost || expires s.sound.inputs[c].lostDelay }

theorem State.lostTick_staged (s : State) (c : ScreenId) : Staged (s.lostFallen c) (s.lostTick c) := by
  unfold State.lostTick State.lostFallen
  split
  · next ends =>
    obtain ⟨n, hn⟩ := eq_some_of_expires ends
    have fallen : ((s.modInput c fun i => { i with lostDelay := lowered i.lostDelay }).modScreenSound c fun v =>
        { v with lost := v.lost || true }) =
        (s.modInput c fun i => { i with lostDelay := none }).modScreenSound c fun v => { v with lost := true } := by
      simp only [State.modInput, State.modSound, State.modScreenSound, lowered, ends, if_true, Bool.or_true]
    rw [ends, fallen]
    simp only [State.lostDelayExpires, hn]
    exact (State.raise_staged _ _ _ _ _).trans (State.failureHold_staged _ c _)
  · next runs =>
    have stays : expires s.sound.inputs[c].lostDelay = false := Bool.eq_false_iff.2 runs
    have fallen : (s.modInput c fun i => { i with lostDelay := ticked i.lostDelay }) =
        s.modInput c fun i => { i with lostDelay := lowered i.lostDelay } := by
      simp only [State.modInput, State.modSound, lowered, stays, Bool.false_eq_true, if_false]
    rw [fallen, stays, State.modScreenSound, State.modScreen_same]
    · exact .refl _
    · simp only [Bool.or_false]

/-- R73: a sound-lost delay after a 1 s tick. -/
def lostTicked (p : Option Nat × Bool) : Option Nat × Bool := (lowered p.1, p.2 || expires p.1)

theorem State.lostTick_own (s : State) (c : ScreenId) : (s.lostTick c).lostPart c = lostTicked (s.lostPart c) := by
  rw [(s.lostTick_staged c).lostPart]
  simp [State.lostFallen, State.lostPart, lostTicked, State.modScreenSound]

theorem State.lostTick_other (s : State) (c d : ScreenId) (h : d ≠ c) : (s.lostTick c).lostPart d = s.lostPart d := by
  have ne : c.val ≠ d.val := fun e => h (Fin.ext e.symm)
  rw [(s.lostTick_staged c).lostPart]
  simp [State.lostFallen, State.lostPart, State.modScreenSound, ne]

theorem State.lostTick_linkPart (s : State) (c : ScreenId) : (s.lostTick c).linkPart = s.linkPart :=
  (s.lostTick_staged c).linkPart

theorem State.lostTick_silencePart (s : State) (c : ScreenId) : (s.lostTick c).silencePart = s.silencePart :=
  (s.lostTick_staged c).silencePart

theorem State.lostTick_lane (s : State) (c : ScreenId) : (s.lostTick c).lane = s.lane := (s.lostTick_staged c).lane

/-! ## Transmitter silence timers -/

theorem State.txTick_staged (s : State) (c : ScreenId) :
    Staged (s.modTransmitter c fun t => { t with silenceTimer := lowered t.silenceTimer }) (s.txTick c) := by
  unfold State.txTick
  split
  · next ends =>
    obtain ⟨n, hn⟩ := eq_some_of_expires ends
    have fallen : (s.modTransmitter c fun t => { t with silenceTimer := lowered t.silenceTimer }) =
        s.modTransmitter c fun t => { t with silenceTimer := none } := by
      simp only [State.modTransmitter, State.modSound, lowered, ends, if_true]
    rw [fallen]
    simp only [State.txSilent, hn]
    exact State.raise_staged _ _ _ _ _
  · next runs =>
    have fallen : (s.modTransmitter c fun t => { t with silenceTimer := ticked t.silenceTimer }) =
        s.modTransmitter c fun t => { t with silenceTimer := lowered t.silenceTimer } := by
      simp only [State.modTransmitter, State.modSound, lowered, Bool.eq_false_iff.2 runs, Bool.false_eq_true, if_false]
    rw [fallen]
    exact .refl _

theorem State.txTick_own (s : State) (c : ScreenId) : (s.txTick c).silencePart c = lowered (s.silencePart c) := by
  rw [(s.txTick_staged c).silencePart]
  simp [State.silencePart]

theorem State.txTick_other (s : State) (c d : ScreenId) (h : d ≠ c) : (s.txTick c).silencePart d = s.silencePart d := by
  have ne : c.val ≠ d.val := fun e => h (Fin.ext e.symm)
  rw [(s.txTick_staged c).silencePart]
  simp [State.silencePart, ne]

theorem State.txTick_linkPart (s : State) (c : ScreenId) : (s.txTick c).linkPart = s.linkPart :=
  (s.txTick_staged c).linkPart

theorem State.txTick_lostPart (s : State) (c : ScreenId) : (s.txTick c).lostPart = s.lostPart :=
  (s.txTick_staged c).lostPart

theorem State.txTick_lane (s : State) (c : ScreenId) : (s.txTick c).lane = s.lane := (s.txTick_staged c).lane

/-! ## Lanes: pass timers and silence timers -/

theorem State.modLane_lane_self (s : State) (l : LaneId) (f : Lane → Lane) : (s.modLane l f).lane l = f (s.lane l) := by
  simp [State.lane]

theorem State.modLane_lane_other (s : State) (l : LaneId) (f : Lane → Lane) {m : LaneId} (h : m ≠ l) :
    (s.modLane l f).lane m = s.lane m := by
  have ne : l.val ≠ m.val := fun e => h (Fin.ext e.symm)
  simp [State.lane, ne]

/-- A function that leaves a lane as it is changes nothing. -/
theorem State.modLane_same (s : State) (l : LaneId) {f : Lane → Lane} (h : f s.gate.lanes[l] = s.gate.lanes[l]) :
    s.modLane l f = s := by
  have same : s.gate.lanes.set l (f s.gate.lanes[l]) = s.gate.lanes := by
    rw [h]
    simp
  simp only [State.modLane, State.modGate, same]

/-- R120: a pending admission's pass timer falls, or ends with its admission. -/
def PendingAdmission.ticked (p : PendingAdmission) : Option PendingAdmission :=
  if p.passTimer ≤ 1 then none else some { p with passTimer := p.passTimer - 1 }

def Lane.passTicked (n : Lane) : Lane := { n with pending := n.pending.bind PendingAdmission.ticked }

theorem State.passTick_staged (s : State) (l : LaneId) : Staged (s.modLane l Lane.passTicked) (s.passTick l) := by
  unfold State.passTick
  split
  · next absent =>
    have lane : s.gate.lanes[l].passTicked = s.gate.lanes[l] := by
      rw [Lane.passTicked, absent, Option.bind_none, ← absent]
    have same := s.modLane_same l lane
    rw [same]
    exact .refl s
  · next p present =>
    split
    · next ends =>
      have cleared : s.modLane l Lane.passTicked = s.modLane l fun n => { n with pending := none } := by
        simp only [State.modLane, State.modGate, Lane.passTicked, present, Option.bind_some, PendingAdmission.ticked,
          if_pos ends]
      rw [cleared]
      simp only [State.passExpires, present, State.clearPending]
      exact ((Staged.modField _ _ _ rfl).trans (.modField _ _ _ rfl)).trans (State.judgeFull_staged _ _)
    · next runs =>
      have fallen : s.modLane l Lane.passTicked =
          s.modLane l fun n => { n with pending := some { p with passTimer := p.passTimer - 1 } } := by
        simp only [State.modLane, State.modGate, Lane.passTicked, present, Option.bind_some, PendingAdmission.ticked,
          if_neg runs]
      rw [fallen]
      exact .refl _

/-- R116: a lane's silence timer falls; a lane that falls silent loses its pending admission. -/
def Lane.silenceTicked (n : Lane) : Lane :=
  if expires n.silenceTimer then { n with state := .silent, silenceTimer := none, pending := none }
  else { n with silenceTimer := ticked n.silenceTimer }

/-- What lies beside the lanes, for the timers of the 1 s tick. -/
structure Beside (s t : State) : Prop where
  linkPart : t.linkPart = s.linkPart
  lostPart : t.lostPart = s.lostPart
  silencePart : t.silencePart = s.silencePart

theorem Beside.trans {s t u : State} (h : Beside s t) (k : Beside t u) : Beside s u :=
  ⟨k.linkPart.trans h.linkPart, k.lostPart.trans h.lostPart, k.silencePart.trans h.silencePart⟩

theorem Staged.beside {s t : State} (h : Staged s t) : Beside s t := ⟨h.linkPart, h.lostPart, h.silencePart⟩

theorem Beside.modLane (s : State) (l : LaneId) (f : Lane → Lane) : Beside s (s.modLane l f) := ⟨rfl, rfl, rfl⟩

theorem State.passTick_beside (s : State) (l : LaneId) : Beside s (s.passTick l) :=
  (Beside.modLane s l _).trans (s.passTick_staged l).beside

/-- R116: a lane that falls silent: its record, and nothing of the other timers. -/
theorem State.silenceExpires_lane {s : State} {l : LaneId} (h : s.gate.lanes[l].silenceTimer.isSome) :
    Beside s (s.silenceExpires l) ∧
      (s.silenceExpires l).lane =
        (s.modLane l fun n => { n with state := .silent, silenceTimer := none, pending := none }).lane := by
  obtain ⟨v, hv⟩ := Option.isSome_iff_exists.1 h
  have silent := State.raise_staged (s.modLane l fun n => { n with state := .silent, silenceTimer := none }) .laneSilent
    (numberOf l) s.gate.lanes[l].station none
  unfold State.silenceExpires
  simp only [hv]
  split
  · next absent =>
    have staged := silent.trans (State.flagUncertain_staged _ s.gate.lanes[l].home)
    refine ⟨(Beside.modLane s l _).trans staged.beside, staged.lane.trans ?_⟩
    simp only [State.modLane, State.modGate, absent]
  · next p present =>
    have cleared (t : State) : Staged (t.modLane l fun n => { n with pending := none })
        (((t.clearPending l p).judgeFull p.screen).flagUncertain s.gate.lanes[l].home) :=
      ((Staged.modField _ _ _ rfl).trans (State.judgeFull_staged _ _)).trans (State.flagUncertain_staged _ _)
    have flagged (t : State) : Staged (t.modLane l fun n => { n with pending := none })
        (if p.screen = s.gate.lanes[l].home then
          ((t.clearPending l p).judgeFull p.screen).flagUncertain s.gate.lanes[l].home
        else (((t.clearPending l p).judgeFull p.screen).flagUncertain s.gate.lanes[l].home).flagUncertain p.screen) := by
      split
      · exact cleared t
      · exact (cleared t).trans (State.flagUncertain_staged _ _)
    refine ⟨((Beside.modLane s l _).trans silent.beside).trans ((Beside.modLane _ l _).trans (flagged _).beside),
      (flagged _).lane.trans ?_⟩
    funext m
    by_cases eq : m = l
    · subst eq
      rw [State.modLane_lane_self, silent.lane, State.modLane_lane_self, State.modLane_lane_self]
    · rw [State.modLane_lane_other _ _ _ eq, silent.lane, State.modLane_lane_other _ _ _ eq,
        State.modLane_lane_other _ _ _ eq]

theorem State.laneTick_lane (s : State) (l : LaneId) :
    Beside s (s.laneTick l) ∧ (s.laneTick l).lane = (s.modLane l Lane.silenceTicked).lane := by
  unfold State.laneTick
  split
  · next ends =>
    obtain ⟨n, hn⟩ := eq_some_of_expires ends
    obtain ⟨beside, lane⟩ := State.silenceExpires_lane (s := s) (l := l) (by rw [hn]; rfl)
    refine ⟨beside, lane.trans ?_⟩
    simp only [State.modLane, State.modGate, Lane.silenceTicked, if_pos ends]
  · next runs =>
    refine ⟨.modLane s l _, ?_⟩
    simp only [State.modLane, State.modGate, Lane.silenceTicked, if_neg runs]

/-! ## The whole 1 s tick -/

/-- R116, R120: a lane after a 1 s tick. -/
theorem State.lanesTick_lane (s : State) (l : LaneId) :
    (allLanes.foldl State.laneTick (allLanes.foldl State.passTick s)).lane l = (s.lane l).passTicked.silenceTicked := by
  have distinct : allLanes.Nodup := by decide
  have pass := foldl_pointwise (f := State.passTick) (P := State.lane) (g := fun _ n => n.passTicked)
    (fun t m => by rw [(t.passTick_staged m).lane, State.modLane_lane_self])
    (fun t m k ne => by rw [(t.passTick_staged m).lane, State.modLane_lane_other _ _ _ ne]) distinct s l
  have silence := foldl_pointwise (f := State.laneTick) (P := State.lane) (g := fun _ n => n.silenceTicked)
    (fun t m => by rw [(t.laneTick_lane m).2, State.modLane_lane_self])
    (fun t m k ne => by rw [(t.laneTick_lane m).2, State.modLane_lane_other _ _ _ ne]) distinct
    (allLanes.foldl State.passTick s) l
  rw [silence.1 (mem_allLanes l), pass.1 (mem_allLanes l)]

theorem State.lanesTick_beside (s : State) :
    Beside s (allLanes.foldl State.laneTick (allLanes.foldl State.passTick s)) := by
  have pass (t : State) (m : LaneId) := t.passTick_beside m
  have silence (t : State) (m : LaneId) := (t.laneTick_lane m).1
  exact
    ⟨(foldl_same (fun t m => (silence t m).linkPart) _ _).trans (foldl_same (fun t m => (pass t m).linkPart) _ _),
      (foldl_same (fun t m => (silence t m).lostPart) _ _).trans (foldl_same (fun t m => (pass t m).lostPart) _ _),
      (foldl_same (fun t m => (silence t m).silencePart) _ _).trans
        (foldl_same (fun t m => (pass t m).silencePart) _ _)⟩

/-- R13, R19, R56, R73, R88, R116, R120: `t` is what a 1 s tick makes of `s`, for the timers it lowers. -/
structure SecondTicked (s t : State) : Prop where
  loop : t.loop = s.windowEnds.loop
  tracker : t.cell.tracker = s.cell.tracker
  sky : t.seqr.skyTimer = lowered s.seqr.skyTimer
  lux : t.seqr.lux = if expires s.seqr.skyTimer then none else s.seqr.lux
  lost : ∀ c : ScreenId, t.lostPart c = lostTicked (s.lostPart c)
  silence : ∀ c : ScreenId, t.silencePart c = lowered (s.silencePart c)
  lanes : ∀ l : LaneId, t.lane l = (s.lane l).passTicked.silenceTicked

theorem State.secondTick_ticked (s : State) : SecondTicked s s.secondTick := by
  have sky : s.windowEnds.skyTick = s.windowEnds.modSeqr Sequencer.skyTicked := State.skyTick_eq _
  have distinct : allScreens.Nodup := by decide
  let lost := allScreens.foldl State.lostTick s.windowEnds.skyTick
  let sound := allScreens.foldl State.txTick lost
  have beside : Beside sound s.secondTick := sound.lanesTick_beside
  have link : s.secondTick.linkPart = s.windowEnds.skyTick.linkPart :=
    beside.linkPart.trans ((foldl_same State.txTick_linkPart _ _).trans (foldl_same State.lostTick_linkPart _ _))
  rw [sky] at link
  simp only [State.linkPart, Prod.mk.injEq] at link
  obtain ⟨loop, tracker, timer, lux⟩ := link
  refine ⟨loop, tracker, timer, lux, fun c => ?_, fun c => ?_, fun l => ?_⟩
  · have each := foldl_pointwise (f := State.lostTick) (P := State.lostPart) (g := fun _ p => lostTicked p)
      State.lostTick_own (fun t d e ne => t.lostTick_other d e ne) distinct s.windowEnds.skyTick c
    have same : sound.lostPart = lost.lostPart := foldl_same State.txTick_lostPart _ _
    rw [beside.lostPart, same, each.1 (mem_allScreens c), sky]
    rfl
  · have each := foldl_pointwise (f := State.txTick) (P := State.silencePart) (g := fun _ p => lowered p)
      State.txTick_own (fun t d e ne => t.txTick_other d e ne) distinct lost c
    have same : lost.silencePart = s.windowEnds.skyTick.silencePart := foldl_same State.lostTick_silencePart _ _
    rw [beside.silencePart, each.1 (mem_allScreens c), same, sky]
    rfl
  · have same : sound.lane = s.windowEnds.skyTick.lane :=
      (foldl_same State.txTick_lane _ _).trans (foldl_same State.lostTick_lane _ _)
    have ticked : s.secondTick.lane l = (sound.lane l).passTicked.silenceTicked := sound.lanesTick_lane l
    rw [ticked, same, sky]
    rfl

end Sys2Proof.Machine

/-! PROOFS. The 1 min tick: late timers and recall countdowns (R144, R145), and the coarser ticks of a site with no show. -/

namespace Sys2Proof.Machine

/-! ## The 1 s tick of a site with no show -/

theorem Calm.modScreen (s : State) (c : ScreenId) (f : Screen → Screen) (h : ∀ v, (f v).seq.state = v.seq.state) :
    Calm s (s.modScreen c f) := by
  refine .of_router rfl fun d => ?_
  by_cases eq : d = c
  · subst eq
    rw [State.modScreen_self]
    exact h _
  · rw [State.modScreen_other _ _ _ eq]

theorem Calm.modField (s : State) (c : ScreenId) (f : FieldCounts → FieldCounts) : Calm s (s.modField c f) :=
  .modScreen s c _ fun _ => rfl

theorem Calm.modSound (s : State) (f : SoundPath → SoundPath) : Calm s (s.modSound f) := .of_router rfl fun _ => rfl

theorem Calm.modInput (s : State) (c : ScreenId) (f : ProgInput → ProgInput) : Calm s (s.modInput c f) := .modSound s _

theorem Calm.modLane (s : State) (l : LaneId) (f : Lane → Lane) : Calm s (s.modLane l f) := .of_router rfl fun _ => rfl

theorem State.judgeFull_calm (s : State) (c : ScreenId) : Calm s (s.judgeFull c) := by
  unfold State.judgeFull
  split
  · exact (Calm.modField s c _).trans (State.raise_calm _ _ _ _ _)
  · split
    · exact .modField s c _
    · exact .refl s

theorem State.flagUncertain_calm (s : State) (c : ScreenId) : Calm s (s.flagUncertain c) := by
  unfold State.flagUncertain
  split
  · exact .refl s
  · exact (Calm.modField s c _).trans (State.raise_calm _ _ _ _ _)

theorem State.clearPending_calm (s : State) (l : LaneId) (p : PendingAdmission) : Calm s (s.clearPending l p) :=
  (Calm.modLane s l _).trans (.modField _ _ _)

/-- R69: a failure holds no show that does not run. -/
theorem State.failureHold_idle {s : State} {c : ScreenId} (h : s.screens[c].seq.state = .idle) (reason : HoldReason) :
    s.failureHold c reason = s := by
  refine if_neg fun k => ?_
  rw [h] at k
  cases k.2.1

theorem State.lostTick_calm {s : State} {c : ScreenId} (idle : s.screens[c].seq.state = .idle) : Calm s (s.lostTick c) := by
  unfold State.lostTick
  split
  · unfold State.lostDelayExpires
    split
    · exact .refl s
    · have lost := (Calm.modInput s c fun i => { i with lostDelay := none }).trans
        (.modScreen _ c (fun v => { v with sound := { v.sound with lost := true } }) fun _ => rfl)
      have raised := lost.trans (State.raise_calm _ .soundLost (numberOf c) s.sound.inputs[c].lockLosses (some c))
      exact (State.failureHold_idle ((raised.shows c).trans idle) .soundLost).symm ▸ raised
  · exact .modSound s _

theorem State.txTick_calm (s : State) (c : ScreenId) : Calm s (s.txTick c) := by
  unfold State.txTick
  split
  · unfold State.txSilent
    split
    · exact .refl s
    · exact (Calm.modSound s _).trans (State.raise_calm _ _ _ _ _)
  · exact .modSound s _

theorem State.passTick_calm (s : State) (l : LaneId) : Calm s (s.passTick l) := by
  unfold State.passTick
  split
  · exact .refl s
  · split
    · unfold State.passExpires
      split
      · exact .refl s
      · exact ((State.clearPending_calm _ _ _).trans (.modField _ _ _)).trans (State.judgeFull_calm _ _)
    · exact .modLane s l _

theorem State.silenceExpires_calm (s : State) (l : LaneId) : Calm s (s.silenceExpires l) := by
  unfold State.silenceExpires
  simp only
  split
  · exact .refl s
  · have silent := (Calm.modLane s l fun n => { n with state := .silent, silenceTimer := none }).trans
      (State.raise_calm _ .laneSilent (numberOf l) s.gate.lanes[l].station none)
    split
    · exact silent.trans (State.flagUncertain_calm _ _)
    · next p _ =>
      have flagged := ((silent.trans (State.clearPending_calm _ l p)).trans (State.judgeFull_calm _ p.screen)).trans
        (State.flagUncertain_calm _ s.gate.lanes[l].home)
      split
      · exact flagged
      · exact flagged.trans (State.flagUncertain_calm _ _)

theorem State.laneTick_calm (s : State) (l : LaneId) : Calm s (s.laneTick l) := by
  unfold State.laneTick
  split
  · exact s.silenceExpires_calm l
  · exact .modLane s l _

theorem State.secondTick_calm {s : State} (idle : s.dark) : Calm s s.secondTick := by
  have sky : Calm s s.windowEnds.skyTick := by
    rw [State.skyTick_eq]
    exact .of_router rfl fun _ => rfl
  have lost := sky.trans (.foldl (fun _ c dark => State.lostTick_calm (dark c)) allScreens (sky.dark idle))
  have silent := lost.trans (.foldl (fun t c _ => t.txTick_calm c) allScreens (lost.dark idle))
  have passed := silent.trans (.foldl (fun t l _ => t.passTick_calm l) allLanes (silent.dark idle))
  exact passed.trans (.foldl (fun t l _ => t.laneTick_calm l) allLanes (passed.dark idle))

/-! ## What an order's call and its end leave as they are -/

theorem State.requestOne_announced (s : State) (r : Request) (o : OutputId) : Announced s (s.requestOne r o) := by
  unfold State.requestOne
  split
  · exact s.renderAndPlace_announced r o
  · split
    · exact ⟨.of_ann _ (.of_queues rfl id), rfl⟩
    · split
      · split
        · exact .heldCalls s _ _
        · exact s.renderAndPlace_announced r o
      · exact s.renderAndPlace_announced r o

theorem State.request_announced (s : State) (r : Request) : Announced s (s.request r) := by
  refine .foldl _ (fun t o => ?_) _ s
  split
  · exact t.requestOne_announced r o
  · exact .refl t

/-- An ORDER_STATE to the board touches no ticket and no order. -/
theorem State.tellBoard_router (s : State) (o : Order) (b : BoardState) :
    (s.tellBoard o b).router.tickets = s.router.tickets ∧ (s.tellBoard o b).router.orders = s.router.orders := by
  have handed {c : OwnCell} (normal : c.kind.isUrgent = false) {t : State} {a : HandOver} (h : s.handNormal c = (t, a)) :
      t.router.tickets = s.router.tickets ∧ t.router.orders = s.router.orders := by
    have same : (s.handNormal c).1.router = s.router := by rw [s.handNormal_rest c normal]
    rw [h] at same
    exact ⟨congrArg Router.tickets same, congrArg Router.orders same⟩
  unfold State.tellBoard
  split
  · exact ⟨rfl, rfl⟩
  · split
    · next h => exact handed rfl h
    · next h =>
      have same := handed rfl h
      exact same

theorem Staged.modRouter (s : State) (f : Router → Router) (h : (f s.router).nextNumber = s.router.nextNumber) :
    Staged s (s.modRouter f) := { Staged.refl s with nextNumber := h, coherent := id }

theorem Staged.modOrder (s : State) (n : Nat) (f : Order → Order) : Staged s (s.modOrder n f) := .modRouter s _ rfl

theorem State.tellBoard_staged (s : State) (o : Order) (b : BoardState) : Staged s (s.tellBoard o b) := by
  have handed {c : OwnCell} {t : State} {a : HandOver} (h : s.handNormal c = (t, a)) : Staged s t := by
    have kept := s.handNormal_kept c
    rw [h] at kept
    exact kept.staged
  unfold State.tellBoard
  split
  · exact .refl s
  · split
    · next h => exact handed h
    · next h => exact (handed h).trans (.modRouter _ _ rfl)

theorem State.freeOrder_staged (s : State) (o : Order) : Staged s (s.freeOrder o) :=
  (Staged.foldl (fun s t => s.setTicket t none) (fun t x => (Kept.of_ticket t x none).staged) o.tickets s).trans
    (.modRouter _ _ rfl)

theorem State.recallExpires_staged (s : State) (n : Nat) : Staged s (s.recallExpires n) := by
  unfold State.recallExpires
  split
  · exact .refl s
  · next o _ =>
    split
    · split
      · exact (((Staged.modOrder s o.number _).trans (State.announce_kept _ _).staged).trans (.modOrder _ o.number _)).trans
          (State.tellBoard_staged _ _ _)
      · exact (((Staged.modRouter s (fun r => { r with abandoned := bump16 r.abandoned }) rfl).trans
          (State.raise_staged _ _ _ _ _)).trans (State.tellBoard_staged _ _ _)).trans (State.freeOrder_staged _ o)
    · exact .refl s

theorem State.lateTick_staged (s : State) (t : TicketId) : Staged s (s.lateTick t) := by
  have ticked (f : Ticket → Ticket) : Staged s (s.modTicket t f) := (Kept.of_modTicket s t f).staged
  unfold State.lateTick
  split
  · exact .refl s
  · split
    · unfold State.lateExpires
      split
      · exact .refl s
      · split
        · simp only
          split
          · exact ticked _
          · split
            · exact ticked _
            · exact ((ticked _).trans (.modOrder _ _ _)).trans (State.raise_staged _ _ _ _ _)
        · exact .refl s
    · exact ticked _

theorem State.recallTick_staged (s : State) (n : Nat) : Staged s (s.recallTick n) := by
  unfold State.recallTick
  split
  · exact .refl s
  · split
    · split
      · exact s.recallExpires_staged n
      · exact .modOrder s n _
    · exact .refl s

theorem State.minuteTick_staged (s : State) : Staged s s.minuteTick :=
  (Staged.foldl _ State.lateTick_staged _ s).trans (.foldl _ State.recallTick_staged _ _)

end Sys2Proof.Machine

/-! PROOFS. Tickets and orders at a 1 min tick (R143 to R145). -/

namespace Sys2Proof.Machine

/-! ## Late timers (R145) -/

/-- R145: a ticket's late timer falls; the timer of a SENT ticket ends. -/
def Ticket.lateTicked (v : Ticket) : Ticket :=
  { v with lateTimer := if v.state = .sent then lowered v.lateTimer else ticked v.lateTimer }

/-- The tickets of the pool. -/
def State.ticket (s : State) (x : TicketId) : Option Ticket := s.router.tickets[x]

theorem State.modTicket_self (s : State) (x : TicketId) (f : Ticket → Ticket) :
    (s.modTicket x f).ticket x = (s.ticket x).map f := by
  simp [State.modTicket, State.ticket]

theorem State.modTicket_other (s : State) (x : TicketId) (f : Ticket → Ticket) {y : TicketId} (h : y ≠ x) :
    (s.modTicket x f).ticket y = s.ticket y := by
  have ne : x.val ≠ y.val := fun e => h (Fin.ext e.symm)
  simp [State.modTicket, State.ticket, ne]

theorem Calm.ticket {s t : State} (h : Calm s t) : t.ticket = s.ticket := by
  funext x
  simp only [State.ticket, h.tickets]

/-- The order's late mark. -/
theorem State.modOrder_late_still (s : State) (n : Nat) : s.ordersStill (s.modOrder n fun w => { w with late := true }) := by
  refine ⟨fun o => if o.number = n then { o with late := true } else o, rfl, fun o => ?_⟩
  dsimp only
  split
  · exact ⟨rfl, id⟩
  · exact .refl o

/-- R145: the late timer of one ticket: its ticket, and orders but for a late mark. -/
theorem State.lateTick_ticket (s : State) (x : TicketId) :
    (∃ f : Ticket → Ticket, (s.lateTick x).ticket = (s.modTicket x f).ticket ∧
      (s.ticket x).map f = (s.ticket x).map Ticket.lateTicked) ∧ s.ordersStill (s.lateTick x) := by
  unfold State.lateTick
  split
  · next absent =>
    have none : s.ticket x = none := absent
    refine ⟨⟨id, ?_, by rw [none]; rfl⟩, .of_same rfl⟩
    funext y
    by_cases eq : y = x
    · subst eq
      rw [State.modTicket_self, Option.map_id, id]
    · rw [State.modTicket_other _ _ _ eq]
  · next v present =>
    have some : s.ticket x = some v := present
    split
    · next ends =>
      have expired : (s.ticket x).map (fun v => { v with lateTimer := none }) = (s.ticket x).map Ticket.lateTicked := by
        simp only [some, Option.map_some, Ticket.lateTicked, if_pos ends.1, lowered, if_pos ends.2]
      obtain ⟨n, hn⟩ := eq_some_of_expires ends.2
      have runs : v.state = .sent ∧ v.lateTimer.isSome := ⟨ends.1, by rw [hn]; rfl⟩
      simp only [State.lateExpires, present, if_pos runs]
      split
      · exact ⟨⟨_, rfl, expired⟩, .of_same rfl⟩
      · next o _ =>
        split
        · exact ⟨⟨_, rfl, expired⟩, .of_same rfl⟩
        · have raised := State.raise_calm ((s.modTicket x fun v => { v with lateTimer := none }).modOrder o.number
            fun w => { w with late := true }) .orderLate o.number (numberOf v.kitchen) o.screen
          have marked := State.modOrder_late_still (s.modTicket x fun v => { v with lateTimer := none }) o.number
          exact ⟨⟨_, raised.ticket, expired⟩, marked.trans raised.orders⟩
    · next runs =>
      refine ⟨⟨_, rfl, ?_⟩, .of_same rfl⟩
      have stays : ¬ (v.state = .sent ∧ expires v.lateTimer = true) := runs
      simp only [some, Option.map_some, Ticket.lateTicked, lowered]
      split
      · next sent => rw [if_neg fun e => stays ⟨sent, e⟩]
      · rfl

/-- R145: every late timer of the pool falls. -/
theorem State.lateTicks_ticket (s : State) (x : TicketId) :
    ((List.finRange 256).foldl State.lateTick s).ticket x = (s.ticket x).map Ticket.lateTicked := by
  have own (t : State) (y : TicketId) : (t.lateTick y).ticket y = (t.ticket y).map Ticket.lateTicked := by
    obtain ⟨f, same, value⟩ := (t.lateTick_ticket y).1
    rw [same, State.modTicket_self, value]
  have other (t : State) (y z : TicketId) (ne : z ≠ y) : (t.lateTick y).ticket z = t.ticket z := by
    obtain ⟨f, same, -⟩ := (t.lateTick_ticket y).1
    rw [same, State.modTicket_other _ _ _ ne]
  have each := foldl_pointwise (f := State.lateTick) (P := State.ticket)
    (g := fun _ (v : Option Ticket) => v.map Ticket.lateTicked) own other (List.nodup_finRange 256) s x
  exact each.1 (List.mem_finRange x)

theorem State.lateTicks_still (l : List TicketId) (s : State) : s.ordersStill (l.foldl State.lateTick s) := by
  induction l generalizing s with
  | nil => exact .of_same rfl
  | cons x l ih => exact (s.lateTick_ticket x).2.trans (ih _)

/-! ## Recall countdowns: tickets (R144) -/

/-- Every order of `t` has the tickets and the state of an order of `s`. -/
def State.ordersFrom (s t : State) : Prop :=
  ∀ w ∈ t.router.orders, ∃ o ∈ s.router.orders, w.tickets = o.tickets ∧ w.state = o.state

theorem State.ordersFrom.of_same {s t : State} (h : t.router.orders = s.router.orders) : s.ordersFrom t :=
  fun w hw => ⟨w, h ▸ hw, rfl, rfl⟩

theorem State.ordersFrom.trans {s t u : State} (h : s.ordersFrom t) (k : t.ordersFrom u) : s.ordersFrom u := fun w hw => by
  obtain ⟨v, hv, tickets, state⟩ := k w hw
  obtain ⟨o, ho, same, stays⟩ := h v hv
  exact ⟨o, ho, tickets.trans same, state.trans stays⟩

/-- Orders changed each on its own, in neither tickets nor state. -/
theorem State.ordersFrom.of_map {s t : State} {f : Order → Order} (h : t.router.orders = s.router.orders.map f)
    (same : ∀ o, (f o).tickets = o.tickets ∧ (f o).state = o.state) : s.ordersFrom t := fun w hw => by
  rw [h] at hw
  obtain ⟨o, ho, rfl⟩ := List.mem_map.1 hw
  exact ⟨o, ho, same o⟩

theorem State.ordersStill.ordersFrom {s t : State} (h : s.ordersStill t) : s.ordersFrom t := by
  obtain ⟨f, hf, still⟩ := h
  exact .of_map hf fun o => by rw [(still o).rest]; exact ⟨rfl, rfl⟩

theorem State.modOrder_from (s : State) (n : Nat) {f : Order → Order}
    (same : ∀ o, (f o).tickets = o.tickets ∧ (f o).state = o.state) : s.ordersFrom (s.modOrder n f) := by
  refine .of_map rfl fun o => ?_
  split
  · exact same o
  · exact ⟨rfl, rfl⟩

theorem Order.reported_same (before after : State) (o : Order) :
    (o.reported before after).tickets = o.tickets ∧ (o.reported before after).state = o.state := by
  unfold Order.reported
  split <;> exact ⟨rfl, rfl⟩

/-- R102: a request changes queues and held calls alone. -/
theorem State.request_router (s : State) (r : Request) : (s.request r).router = s.router := by
  have placed (t : State) (o : OutputId) : (t.renderAndPlace r o).router = t.router := by rw [t.renderAndPlace_ann r o]
  have one (t : State) (o : OutputId) : (t.requestOne r o).router = t.router := by
    unfold State.requestOne
    split
    · exact placed t o
    · split
      · rfl
      · split
        · split
          · rfl
          · exact placed t o
        · exact placed t o
  refine foldl_same (P := State.router) (fun t o => ?_) allOutputs s
  split
  · exact one t o
  · rfl

theorem State.announce_orders (s : State) (r : Request) :
    (s.announce r).router.orders = s.router.orders.map (·.reported s (s.request r)) := by
  rw [State.announce, State.reportActivity_orders, State.request_router]

theorem State.announce_tickets (s : State) (r : Request) : (s.announce r).router.tickets = s.router.tickets := by
  have same := congrArg Router.tickets (s.request_router r)
  exact same

/-- No READY order has the ticket. -/
def State.unready (s : State) (x : TicketId) : Prop := ∀ o ∈ s.router.orders, x ∈ o.tickets → o.state ≠ .ready

theorem State.unready.of_from {s t : State} {x : TicketId} (h : s.unready x) (k : s.ordersFrom t) : t.unready x :=
  fun w hw hx => by
    obtain ⟨o, ho, tickets, state⟩ := k w hw
    rw [state]
    exact h o ho (tickets ▸ hx)

/-- R142: a call changes no ticket, and no order's tickets or state. -/
theorem State.callOrder_ticket (s : State) (o : Order) : (s.callOrder o).ticket = s.ticket ∧ s.ordersFrom (s.callOrder o) := by
  let called := s.modOrder o.number fun v => { v with callCount := v.callCount + 1 }
  let asked := called.announce (called.callRequest o.number (called.callMask o.screen))
  let loaded := asked.modOrder o.number fun v =>
    { v with recallLeft := some asked.mgmt.site.recallInterval, callActive := asked.callActive o.number }
  obtain ⟨tickets, orders⟩ := loaded.tellBoard_router { o with callCount := o.callCount + 1 } .ready
  have counted : s.ordersFrom called := s.modOrder_from _ fun _ => ⟨rfl, rfl⟩
  have announced : called.ordersFrom asked := .of_map (called.announce_orders _) fun v => v.reported_same _ _
  have recalled : asked.ordersFrom loaded := asked.modOrder_from _ fun _ => ⟨rfl, rfl⟩
  refine ⟨?_, ((counted.trans announced).trans recalled).trans (.of_same orders)⟩
  funext x
  have same : (s.callOrder o).router.tickets = s.router.tickets := tickets.trans (called.announce_tickets _)
  simp only [State.ticket, same]

/-- R134: an order freed takes its own tickets and leaves the others. -/
theorem State.freeOrder_ticket (s : State) (o : Order) {x : TicketId} (h : x ∉ o.tickets) :
    (s.freeOrder o).ticket x = s.ticket x := by
  have freed (l : List TicketId) (t : State) (hx : x ∉ l) :
      (l.foldl (fun s y => s.setTicket y none) t).ticket x = t.ticket x := by
    induction l generalizing t with
    | nil => rfl
    | cons y l ih =>
      obtain ⟨ne, hx⟩ := not_or.1 fun k => hx (List.mem_cons.2 k)
      have away : y.val ≠ x.val := fun e => ne (Fin.ext e.symm)
      rw [List.foldl_cons, ih _ hx]
      simp [State.ticket, away]
  exact freed o.tickets s h

theorem State.freeOrder_orders (s : State) (o : Order) :
    (s.freeOrder o).router.orders = s.router.orders.filter fun v => v.number != o.number := by
  have same : (o.tickets.foldl (fun s t => s.setTicket t none) s).router.orders = s.router.orders :=
    foldl_same (f := fun s t => s.setTicket t none) (P := fun t => t.router.orders) (fun _ _ => rfl) o.tickets s
  exact congrArg (List.filter _) same

/-- R144: an abandoned order, up to the orders and tickets that go with it. -/
theorem State.abandon_orders (s : State) (o : Order) :
    ∃ t : State, t.ticket = s.ticket ∧ s.ordersStill t ∧ s.abandon o = t.freeOrder o := by
  have raised := State.raise_calm (s.modRouter fun r => { r with abandoned := bump16 r.abandoned }) .orderAbandoned
    o.number o.callCount o.screen
  let u := (s.modRouter fun r => { r with abandoned := bump16 r.abandoned }).raise .orderAbandoned o.number o.callCount
    o.screen
  obtain ⟨tickets, orders⟩ := u.tellBoard_router o .abandoned
  refine ⟨u.tellBoard o .abandoned, ?_, raised.orders.trans (.of_same orders), rfl⟩
  have told : (u.tellBoard o .abandoned).ticket = u.ticket := by
    funext x
    simp only [State.ticket, tickets]
  exact told.trans raised.ticket

theorem State.abandon_ticket (s : State) (o : Order) {x : TicketId} (h : x ∉ o.tickets) :
    (s.abandon o).ticket x = s.ticket x ∧ s.ordersFrom (s.abandon o) := by
  obtain ⟨t, ticket, still, abandoned⟩ := s.abandon_orders o
  rw [abandoned]
  refine ⟨(t.freeOrder_ticket o h).trans (by rw [ticket]), still.ordersFrom.trans fun w hw => ?_⟩
  rw [t.freeOrder_orders o] at hw
  exact ⟨w, (List.mem_filter.1 hw).1, rfl, rfl⟩

/-- R144: a recall countdown frees no ticket of an order that is not READY. -/
theorem State.recallTick_ticket {s : State} {x : TicketId} (h : s.unready x) (n : Nat) :
    (s.recallTick n).ticket x = s.ticket x ∧ s.ordersFrom (s.recallTick n) := by
  have same : s.ticket x = s.ticket x ∧ s.ordersFrom s := ⟨rfl, .of_same rfl⟩
  unfold State.recallTick
  split
  · exact same
  · next o found =>
    split
    · next runs =>
      split
      · simp only [State.recallExpires, found, runs, if_true]
        split
        · obtain ⟨ticket, orders⟩ := s.callOrder_ticket o
          exact ⟨by rw [ticket], orders⟩
        · have ready : o.state = .ready := by
            simp only [Order.recallRuns, Bool.and_eq_true, decide_eq_true_eq] at runs
            exact runs.1.1
          exact s.abandon_ticket o fun hx => h o (List.mem_of_find?_eq_some found) hx ready
      · exact ⟨rfl, s.modOrder_from n fun _ => ⟨rfl, rfl⟩⟩
    · exact same

theorem State.recallTicks_ticket (l : List Nat) {s : State} {x : TicketId} (h : s.unready x) :
    (l.foldl State.recallTick s).ticket x = s.ticket x := by
  induction l generalizing s with
  | nil => rfl
  | cons n l ih =>
    obtain ⟨ticket, orders⟩ := State.recallTick_ticket h n
    rw [List.foldl_cons, ih (h.of_from orders), ticket]

theorem State.minuteTick_ticket {s : State} {x : TicketId} (h : s.unready x) :
    s.minuteTick.ticket x = (s.ticket x).map Ticket.lateTicked := by
  have late := s.lateTicks_still (List.finRange 256)
  exact (State.recallTicks_ticket _ (h.of_from late.ordersFrom)).trans (s.lateTicks_ticket x)

/-! ## Recall countdowns: orders (R143, R144) -/

/-- The order of number `n`, when `s` has one, stands in `t`, but for a late mark and the end of a call. -/
def State.orderStill (s t : State) (n : Nat) : Prop := ∀ o, s.order? n = some o → ∃ w, t.order? n = some w ∧ o.still w

theorem State.orderStill.refl (s : State) (n : Nat) : s.orderStill s n := fun o h => ⟨o, h, .refl o⟩

theorem State.orderStill.trans {s t u : State} {n : Nat} (h : s.orderStill t n) (k : t.orderStill u n) :
    s.orderStill u n := fun o ho => by
  obtain ⟨v, hv, still⟩ := h o ho
  obtain ⟨w, hw, stays⟩ := k v hv
  exact ⟨w, hw, still.trans stays⟩

theorem State.order?_number {s : State} {n : Nat} {o : Order} (h : s.order? n = some o) : o.number = n := by
  simpa using List.find?_some h

/-- Orders changed each on its own, none in its number. -/
theorem State.order?_map {s t : State} {f : Order → Order} (h : t.router.orders = s.router.orders.map f)
    (number : ∀ o, (f o).number = o.number) (n : Nat) : t.order? n = (s.order? n).map f := by
  have same : (fun o : Order => o.number == n) ∘ f = fun o => o.number == n := by
    funext o
    simp only [Function.comp_apply, number]
  rw [State.order?, h, List.find?_map, same]
  rfl

theorem State.orderStill.of_map {s t : State} {f : Order → Order} {n : Nat}
    (h : t.router.orders = s.router.orders.map f) (number : ∀ o, (f o).number = o.number)
    (still : ∀ o : Order, o.number = n → o.still (f o)) : s.orderStill t n := fun o ho =>
  ⟨f o, by rw [State.order?_map h number, ho]; rfl, still o (State.order?_number ho)⟩

theorem State.orderStill.of_same {s t : State} {n : Nat} (h : t.router.orders = s.router.orders) : s.orderStill t n :=
  fun o ho => ⟨o, by rw [State.order?, h]; exact ho, .refl o⟩

theorem State.ordersStill.order {s t : State} (h : s.ordersStill t) (n : Nat) : s.orderStill t n := by
  obtain ⟨f, hf, still⟩ := h
  exact .of_map hf (fun o => by rw [(still o).rest]) fun o _ => still o

/-- A change of the order of another number. -/
theorem State.modOrder_other (s : State) {m n : Nat} (ne : n ≠ m) {f : Order → Order}
    (number : ∀ o, (f o).number = o.number) : s.orderStill (s.modOrder m f) n := by
  refine .of_map rfl (fun o => ?_) fun o ho => ?_
  · split
    · exact number o
    · rfl
  · rw [if_neg fun e => ne (ho.symm.trans e)]
    exact .refl o

theorem Order.reported_number (before after : State) (o : Order) : (o.reported before after).number = o.number := by
  unfold Order.reported
  split <;> rfl

/-- R109, R142: a call of one order leaves the others still. -/
theorem State.callOrder_other (s : State) {o : Order} {n : Nat} (ne : n ≠ o.number) : s.orderStill (s.callOrder o) n := by
  let called := s.modOrder o.number fun v => { v with callCount := v.callCount + 1 }
  let request := called.callRequest o.number (called.callMask o.screen)
  let asked := called.announce request
  let loaded := asked.modOrder o.number fun v =>
    { v with recallLeft := some asked.mgmt.site.recallInterval, callActive := asked.callActive o.number }
  obtain ⟨-, orders⟩ := loaded.tellBoard_router { o with callCount := o.callCount + 1 } .ready
  have counted : s.orderStill called n := s.modOrder_other ne fun _ => rfl
  have announced : called.orderStill asked n :=
    .of_map (called.announce_orders request) (fun v => v.reported_number _ _) fun v hv =>
      Order.reported_still fun active => by
        have other : request.order ≠ some v.number := fun e => ne (hv.symm.trans (Option.some.inj e).symm)
        exact (called.request_callsFrom request).active other active
  have recalled : asked.orderStill loaded n := asked.modOrder_other ne fun _ => rfl
  exact ((counted.trans announced).trans recalled).trans (.of_same orders)

theorem State.freeOrder_other (s : State) {o : Order} {n : Nat} (ne : n ≠ o.number) : s.orderStill (s.freeOrder o) n :=
  fun w hw => by
    refine ⟨w, ?_, .refl w⟩
    rw [State.order?, s.freeOrder_orders o, List.find?_filter]
    have same : (fun v : Order => decide ((v.number != o.number) = true ∧ (v.number == n) = true)) =
        fun v => v.number == n := by
      funext v
      by_cases eq : v.number = n <;> simp [eq, ne]
    rw [same]
    exact hw

theorem State.recallTick_other (s : State) {m n : Nat} (ne : n ≠ m) : s.orderStill (s.recallTick m) n := by
  unfold State.recallTick
  split
  · exact .refl s n
  · next o found =>
    have away : n ≠ o.number := by rw [State.order?_number found]; exact ne
    split
    · next runs =>
      split
      · simp only [State.recallExpires, found, runs, if_true]
        split
        · exact s.callOrder_other away
        · obtain ⟨t, -, still, abandoned⟩ := s.abandon_orders o
          rw [abandoned]
          exact (still.order n).trans (t.freeOrder_other away)
      · exact s.modOrder_other ne fun _ => rfl
    · exact .refl s n

theorem State.recallTicks_other {l : List Nat} {n : Nat} (h : n ∉ l) (s : State) :
    s.orderStill (l.foldl State.recallTick s) n := by
  induction l generalizing s with
  | nil => exact .refl s n
  | cons m l ih =>
    obtain ⟨ne, h⟩ := not_or.1 fun k => h (List.mem_cons.2 k)
    exact (s.recallTick_other ne).trans (ih h _)

/-- R143: a countdown that runs and does not end falls by 1. -/
theorem State.recallTick_falls {s : State} {n k : Nat} {o : Order} (found : s.order? n = some o) (ready : o.state = .ready)
    (quiet : o.callActive = false) (left : o.recallLeft = some k) (more : 2 ≤ k) :
    (s.recallTick n).order? n = some { o with recallLeft := some (k - 1) } := by
  have runs : o.recallRuns = true := by simp [Order.recallRuns, ready, quiet, left]
  have goes : expires o.recallLeft = false := by
    have high : ¬ k ≤ 1 := by omega
    simp [expires, left, high]
  have number := State.order?_number found
  simp only [State.recallTick, found, runs, goes, if_true, Bool.false_eq_true, if_false]
  rw [State.order?_map (f := fun o => if o.number = n then { o with recallLeft := ticked o.recallLeft } else o) rfl
    (fun o => by split <;> rfl), found, Option.map_some, if_pos number, left]
  rfl

/-- R143: at a 1 min tick the countdown of a READY order with no active call falls by 1, wherever the order stands in the
table. -/
theorem State.minuteTick_order {s : State} (distinct : (s.router.orders.map (·.number)).Nodup) {n k : Nat} {o : Order}
    (found : s.order? n = some o) (ready : o.state = .ready) (quiet : o.callActive = false)
    (left : o.recallLeft = some k) (more : 2 ≤ k) :
    ∃ w, s.minuteTick.order? n = some w ∧ w.state = .ready ∧ w.callCount = o.callCount ∧ w.recallLeft = some (k - 1) := by
  have listed : n ∈ s.router.orders.map (·.number) :=
    List.mem_map.2 ⟨o, List.mem_of_find?_eq_some found, State.order?_number found⟩
  obtain ⟨before, behind, order⟩ := List.append_of_mem listed
  rw [order] at distinct
  obtain ⟨-, rest, apart⟩ := List.nodup_append.1 distinct
  have notBefore : n ∉ before := fun h => apart n h n List.mem_cons_self rfl
  have notBehind : n ∉ behind := (List.nodup_cons.1 rest).1
  let late := (List.finRange 256).foldl State.lateTick s
  obtain ⟨v, hv, still⟩ :=
    (((s.lateTicks_still (List.finRange 256)).order n).trans (State.recallTicks_other notBefore late)) o found
  have fallen := State.recallTick_falls hv (still.state.trans ready) (still.calls quiet)
    (still.recallLeft.trans left) more
  obtain ⟨w, hw, stays⟩ := State.recallTicks_other notBehind _ _ fallen
  refine ⟨w, ?_, stays.state.trans (still.state.trans ready), stays.callCount.trans still.callCount, stays.recallLeft⟩
  rw [State.minuteTick, order, List.foldl_append, List.foldl_cons]
  exact hw

end Sys2Proof.Machine

/-! PROOFS. The step on an empty queue is a tick (R12, R13), settling `EmptyQueueTicks`. -/

namespace Sys2Proof.Machine

/-! ## The tick of each kind -/

/-- The 1 ms part of a tick. -/
def State.afterMs (s : State) : State := State.msTick { s with time := s.time.next }

theorem State.afterMs_apart (s : State) : Apart s s.afterMs := by
  obtain ⟨seqr, inputs, silence, gate, screens⟩ := State.msTick_apart { s with time := s.time.next }
  exact ⟨seqr, inputs, silence, gate, screens⟩

theorem State.afterMs_port (s : State) (p : PortId) : (s.port p).msTicked (s.afterMs.port p) := by
  have ticked := State.msTick_port { s with time := s.time.next } p
  cases p <;> exact ticked

theorem State.tick_of_ms {s : State} (h : s.time.kind = .ms) : s.tick = s.afterMs := by
  simp only [State.tick, h, State.afterMs]

theorem State.tick_of_tens {s : State} (h : s.time.kind = .tens) : s.tick = s.afterMs.tensTick := by
  simp only [State.tick, h, State.afterMs]

theorem State.tick_of_second {s : State} (h : s.time.kind = .second) : s.tick = s.afterMs.tensTick.secondTick := by
  simp only [State.tick, h, State.afterMs]

theorem State.tick_of_minute {s : State} (h : s.time.kind = .minute) :
    s.tick = s.afterMs.tensTick.secondTick.minuteTick := by
  simp only [State.tick, h, State.afterMs]

/-- R12: 1 ms more, modulo one minute. -/
theorem Timebase.next_ms {t : Timebase} (ms : t.ms ≤ 9) (tens : t.tens ≤ 99) (secs : t.secs ≤ 59) :
    t.next.ms + 10 * t.next.tens + 1000 * t.next.secs = (t.ms + 10 * t.tens + 1000 * t.secs + 1) % 60000 := by
  rcases t.kind_cases with ⟨-, _, k⟩ | ⟨-, _, _, k⟩ | ⟨-, _, _, _, k⟩ | ⟨-, _, _, _, k⟩ <;> rw [k] <;> dsimp only <;> omega

theorem Timebase.kind_tens {t : Timebase} (ms : t.ms = 9) (tens : t.tens < 99) : t.kind = .tens := by
  rcases t.kind_cases with ⟨_, _, _⟩ | ⟨k, _, _, _⟩ | ⟨_, _, _, _, _⟩ | ⟨_, _, _, _, _⟩
  · omega
  · exact k
  · omega
  · omega

theorem Timebase.kind_second {t : Timebase} (ms : t.ms = 9) (tens : t.tens = 99) :
    t.kind = .second ∨ t.kind = .minute := by
  rcases t.kind_cases with ⟨_, _, _⟩ | ⟨_, _, _, _⟩ | ⟨k, _, _, _, _⟩ | ⟨k, _, _, _, _⟩
  · omega
  · omega
  · exact .inl k
  · exact .inr k

/-! ## Ports and tracker at every tick -/

theorem State.windowEnds_port (s : State) (p : PortId) : s.windowEnds.port p = { s.port p with window := 0 } := by
  cases p <;> rfl

theorem State.port_of_loop {s t : State} (h : t.loop = s.loop) (p : PortId) : t.port p = s.port p := by
  cases p <;> simp only [State.port, h]

/-- R17, R19, R46: no coarser tick touches the ports, but for their windows, or the tracker. -/
theorem State.tick_link (s : State) :
    (s.tick.loop = s.afterMs.loop ∨ s.tick.loop = s.afterMs.windowEnds.loop) ∧
      s.tick.cell.tracker = s.afterMs.cell.tracker := by
  have tens := s.afterMs.tensTick_staged
  have second := s.afterMs.tensTick.secondTick_ticked
  have windows : s.afterMs.tensTick.windowEnds.loop = s.afterMs.windowEnds.loop := by
    simp only [State.windowEnds, State.modPort, State.modLoop, tens.loop]
  have minute := s.afterMs.tensTick.secondTick.minuteTick_staged
  rcases s.time.kind_cases with ⟨k, -⟩ | ⟨k, -⟩ | ⟨k, -⟩ | ⟨k, -⟩
  · rw [State.tick_of_ms k]
    exact ⟨.inl rfl, rfl⟩
  · rw [State.tick_of_tens k]
    exact ⟨.inl tens.loop, tens.tracker⟩
  · rw [State.tick_of_second k]
    exact ⟨.inr (second.loop.trans windows), second.tracker.trans tens.tracker⟩
  · rw [State.tick_of_minute k]
    exact ⟨.inr (minute.loop.trans (second.loop.trans windows)), minute.tracker.trans (second.tracker.trans tens.tracker)⟩

theorem State.tick_port (s : State) (p : PortId) : (s.port p).msTicked (s.tick.port p) := by
  have ticked := s.afterMs_port p
  rcases s.tick_link.1 with same | windows
  · rw [State.port_of_loop same]
    exact ticked
  · rw [State.port_of_loop windows, State.windowEnds_port]
    exact ⟨ticked.quiet, ticked.loss⟩

/-! ## The 10 ms tick -/

theorem State.tick_seq {s : State} (k : s.time.kind = .tens) (waits : ∀ c : ScreenId, s.waitsForGo c) (c : ScreenId) :
    s.tick.screens[c].seq = s.screens[c].tenMsTicked.seq := by
  have apart := s.afterMs_apart
  have after (d : ScreenId) : s.afterMs.waitsForGo d :=
    (waits d).of_same apart.seqr (by rw [apart.screens d]) (by rw [apart.screens d]) (by rw [apart.screens d])
  rw [State.tick_of_tens k, State.tensTick_screens after c, apart.screens c]
  rfl

/-! ## The 1 s tick -/

theorem Apart.lostPart {s t : State} (h : Apart s t) : t.lostPart = s.lostPart := by
  funext c
  simp only [State.lostPart, h.inputs]
  rw [h.screens c]

theorem Apart.silencePart {s t : State} (h : Apart s t) : t.silencePart = s.silencePart := funext h.silence

theorem Apart.lane {s t : State} (h : Apart s t) : t.lane = s.lane := by
  funext l
  simp only [State.lane, h.gate]

/-- R19, R56, R73, R88, R116, R120: the timers of a whole 1 s tick, from the state before it. -/
structure SecondPassed (s t : State) : Prop where
  windows : ∀ p : PortId, (t.port p).window = 0
  sky : t.seqr.skyTimer = lowered s.seqr.skyTimer
  lux : t.seqr.lux = if expires s.seqr.skyTimer then none else s.seqr.lux
  lost : ∀ c : ScreenId, t.lostPart c = lostTicked (s.lostPart c)
  silence : ∀ c : ScreenId, t.silencePart c = lowered (s.silencePart c)
  lanes : ∀ l : LaneId, t.lane l = (s.lane l).passTicked.silenceTicked

theorem SecondPassed.staged {s t u : State} (h : SecondPassed s t) (k : Staged t u) : SecondPassed s u where
  windows p := by rw [State.port_of_loop k.loop]; exact h.windows p
  sky := k.sky.1.trans h.sky
  lux := k.sky.2.trans h.lux
  lost c := by rw [k.lostPart]; exact h.lost c
  silence c := by rw [k.silencePart]; exact h.silence c
  lanes l := by rw [k.lane]; exact h.lanes l

theorem State.afterSecond (s : State) : SecondPassed s s.afterMs.tensTick.secondTick := by
  have apart := s.afterMs_apart
  have tens := s.afterMs.tensTick_staged
  have second := s.afterMs.tensTick.secondTick_ticked
  have timer : s.afterMs.tensTick.seqr.skyTimer = s.seqr.skyTimer := tens.sky.1.trans (by rw [apart.seqr])
  have known : s.afterMs.tensTick.seqr.lux = s.seqr.lux := tens.sky.2.trans (by rw [apart.seqr])
  refine ⟨fun p => ?_, second.sky.trans (congrArg lowered timer), ?_, fun c => ?_, fun c => ?_, fun l => ?_⟩
  · rw [State.port_of_loop second.loop, State.windowEnds_port]
  · rw [second.lux, timer, known]
  · rw [second.lost c, tens.lostPart, apart.lostPart]
  · rw [second.silence c, tens.silencePart, apart.silencePart]
  · rw [second.lanes l, tens.lane, apart.lane]

theorem State.tick_second {s : State} (k : s.time.kind = .second ∨ s.time.kind = .minute) : SecondPassed s s.tick := by
  rcases k with k | k
  · rw [State.tick_of_second k]
    exact s.afterSecond
  · rw [State.tick_of_minute k]
    exact s.afterSecond.staged (State.minuteTick_staged _)

/-- R116: the silence timer of a lane after a 1 s tick. -/
theorem Lane.silence_after {v : Lane} {n : Nat} (h : v.silenceTimer = some n) :
    v.passTicked.silenceTicked.silenceTimer = lowered (some n) ∧
      (n ≤ 1 → v.passTicked.silenceTicked.state = .silent) := by
  have same : v.passTicked.silenceTimer = some n := h
  by_cases ends : expires (some n) = true
  · rw [Lane.silenceTicked, same, if_pos ends, lowered, if_pos ends]
    exact ⟨rfl, fun _ => rfl⟩
  · rw [Lane.silenceTicked, same, if_neg ends, lowered, if_neg ends]
    exact ⟨rfl, fun low => absurd (expires_some low) ends⟩

/-- R120: the pending admission of a lane that does not fall silent, after a 1 s tick. -/
theorem Lane.pending_after {v : Lane} {q : PendingAdmission} (h : v.pending = some q)
    (heard : ∀ n, v.silenceTimer = some n → 2 ≤ n) : v.passTicked.silenceTicked.pending = q.ticked := by
  have stays : expires v.passTicked.silenceTimer = false := by
    by_contra ends
    obtain ⟨n, hn⟩ := eq_some_of_expires (eq_true_of_ne_false ends)
    have high := heard n hn
    rw [hn] at ends
    exact ends (by simp only [expires, decide_eq_false_iff_not]; omega)
  rw [Lane.silenceTicked, if_neg (Bool.eq_false_iff.1 stays)]
  simp only [Lane.passTicked, h, Option.bind_some]

/-! ## The 1 min tick -/

theorem State.afterSecond_calm {s : State} (empty : s.cell.tracker = []) (idle : s.dark) :
    Calm s s.afterMs.tensTick.secondTick := by
  have moved : Calm s { s with time := s.time.next } := .of_router rfl fun _ => rfl
  have ms : Calm s s.afterMs := moved.trans (State.msTick_calm empty)
  have tens := ms.trans (State.tensTick_calm (ms.dark idle))
  exact tens.trans (State.secondTick_calm (tens.dark idle))

/-- An order of a table with no number twice is the one of its number. -/
theorem State.order?_of_mem {s : State} (distinct : s.router.orders.Pairwise fun o w => o.number ≠ w.number) {o : Order}
    (ho : o ∈ s.router.orders) : s.order? o.number = some o := by
  have here : ∃ w, s.order? o.number = some w :=
    Option.isSome_iff_exists.1 (List.find?_isSome.2 ⟨o, ho, by simp⟩)
  obtain ⟨w, hw⟩ := here
  have same : w = o := List.inj_on_of_nodup_map (List.pairwise_map.2 distinct) (List.mem_of_find?_eq_some hw) ho
    (State.order?_number hw)
  rw [hw, same]

end Sys2Proof.Machine

namespace Sys2Proof.Proofs
open Sys2Proof.Machine

/-- R19, R56, R73, R88, R116, R120: the timers of a 1 s tick. -/
theorem emptyQueue_second {s : State} (ms : s.time.ms = 9) (tens : s.time.tens = 99) :
    let t := s.tick
    let lowered (n : Nat) : Option Nat := if n ≤ 1 then none else some (n - 1)
    (∀ p : PortId, (t.port p).window = 0) ∧
      (∀ n, s.seqr.skyTimer = some n → t.seqr.skyTimer = lowered n ∧ (n ≤ 1 → t.seqr.lux = none)) ∧
      (∀ (c : ScreenId) (n : Nat), s.sound.inputs[c].lostDelay = some n →
        t.sound.inputs[c].lostDelay = lowered n ∧ (n ≤ 1 → t.screens[c].sound.lost = true)) ∧
      (∀ (c : ScreenId) (n : Nat), s.sound.transmitters[c].silenceTimer = some n →
        t.sound.transmitters[c].silenceTimer = lowered n) ∧
      (∀ (l : LaneId) (n : Nat), s.gate.lanes[l].silenceTimer = some n →
        t.gate.lanes[l].silenceTimer = lowered n ∧ (n ≤ 1 → t.gate.lanes[l].state = .silent)) ∧
      ∀ (l : LaneId) (q : PendingAdmission), s.gate.lanes[l].pending = some q →
        (∀ n, s.gate.lanes[l].silenceTimer = some n → 2 ≤ n) →
        t.gate.lanes[l].pending =
          if q.passTimer ≤ 1 then none else some { q with passTimer := q.passTimer - 1 } := by
  intro t lowered
  have passed : SecondPassed s t := State.tick_second (Timebase.kind_second ms tens)
  refine ⟨passed.windows, fun n hn => ⟨?_, fun low => ?_⟩, fun c n hn => ?_, fun c n hn => ?_, fun l n hn => ?_,
    fun l q hq heard => ?_⟩
  · rw [passed.sky, hn, lowered_some]
  · rw [passed.lux, hn, if_pos (expires_some low)]
  · have lost := passed.lost c
    simp only [State.lostPart, lostTicked, Prod.mk.injEq, hn, lowered_some] at lost
    exact ⟨lost.1, fun low => by rw [lost.2, expires_some low, Bool.or_true]⟩
  · have silence := passed.silence c
    simp only [State.silencePart, hn, lowered_some] at silence
    exact silence
  · have lane := passed.lanes l
    obtain ⟨timer, silent⟩ := Lane.silence_after hn
    simp only [State.lane] at lane
    rw [lane]
    exact ⟨timer.trans (lowered_some n), silent⟩
  · have lane := passed.lanes l
    simp only [State.lane] at lane
    rw [lane]
    exact Lane.pending_after hq heard

/-- R143, R145: the late timers and the recall countdowns of a 1 min tick, with no show and no tracked cell. -/
theorem emptyQueue_minute {s : State} (time : s.time = ⟨9, 99, 59⟩) (empty : s.cell.tracker = []) (idle : s.dark) :
    (∀ (x : TicketId) (v : Ticket) (n : Nat), s.router.tickets[x] = some v → v.state = .sent → v.lateTimer = some n →
      (∀ o ∈ s.router.orders, x ∈ o.tickets → o.state ≠ .ready) →
      s.tick.router.tickets[x] = some { v with lateTimer := if n ≤ 1 then none else some (n - 1) }) ∧
    ((s.router.orders.Pairwise fun o w => o.number ≠ w.number) →
      ∀ o ∈ s.router.orders, ∀ n, o.state = .ready → o.callActive = false → o.recallLeft = some n → 2 ≤ n →
        ∃ w, s.tick.order? o.number = some w ∧ w.state = .ready ∧ w.callCount = o.callCount ∧
          w.recallLeft = some (n - 1)) := by
  have minute : s.time.kind = .minute := by rw [time]; rfl
  have calm := State.afterSecond_calm empty idle
  rw [State.tick_of_minute minute]
  refine ⟨fun x v n hv sent left unready => ?_, fun distinct o ho n ready quiet left more => ?_⟩
  · have late := State.minuteTick_ticket (State.unready.of_from (s := s) (x := x) unready calm.orders.ordersFrom)
    rw [calm.ticket] at late
    refine late.trans ?_
    simp only [State.ticket, hv, Option.map_some, Ticket.lateTicked, if_pos sent, left, lowered_some]
  · obtain ⟨w, found, still⟩ := calm.orders.order o.number o (State.order?_of_mem distinct ho)
    have numbers := calm.orders.numbers
    have nodup : (s.router.orders.map (·.number)).Nodup := List.pairwise_map.2 distinct
    rw [← numbers] at nodup
    obtain ⟨u, hu, state, count, fallen⟩ := State.minuteTick_order nodup found (still.state.trans ready)
      (still.calls quiet) (still.recallLeft.trans left) more
    exact ⟨u, hu, state, count.trans still.callCount, fallen⟩

/-- Settles O3: a step on an empty queue is one tick, whose parts are taken kind by kind. -/
theorem emptyQueueTicks : Obligations.EmptyQueueTicks := by
  intro s queue ms tens secs
  have kept := s.tick_keeps
  have time : s.tick.time = s.time.next := kept.time
  obtain ⟨hms, htens, hsecs⟩ := Timebase.next_range ⟨ms, tens, secs⟩
  refine ⟨s.tick, step_empty queue, kept.pending.trans queue, kept.station, time ▸ hms, time ▸ htens, time ▸ hsecs,
    time ▸ Timebase.next_ms ms tens secs, fun p => ?_, fun fits => ?_, fun nine below waits c => ?_,
    emptyQueue_second, emptyQueue_minute⟩
  · exact ⟨(s.tick_port p).quiet, (s.tick_port p).loss⟩
  · exact s.tick_link.2.trans (State.msTick_tracker fits)
  · exact State.tick_seq (Timebase.kind_tens nine below) waits c

end Sys2Proof.Proofs

/-! PROOFS. What every step keeps of the stores, queues, tracker and counts (R40, R41, R43, R44, R76, R93, R103, R113,
Table 1-1). First what is handed to the transmit queue: no tracked cell carries a tag of another cell (`KeepsTags`). -/

namespace Sys2Proof.Machine

/-! ## Tags of queued cells (Table 3-2, R43) -/

/-- A cell of a tracked kind carries no tag of another cell. -/
def OwnCell.tagFits (o : OwnCell) : Prop := o.kind.tracked.isSome → o.echo = none

theorem OwnCell.tagFits.of_fresh {o : OwnCell} (h : o.echo = none) : o.tagFits := fun _ => h

theorem OwnCell.tagFits.of_untracked {o : OwnCell} (h : o.kind.tracked = none) : o.tagFits := fun k => by
  rw [h] at k
  cases k

/-- R41: a cell queued after a hand-over was queued before it, or is the one handed over. -/
theorem CellProcessor.mem_handOver {c : CellProcessor} {o x : OwnCell}
    (h : x ∈ (c.handOver o).cell.urgent ++ (c.handOver o).cell.normal) : x ∈ c.urgent ++ c.normal ∨ x = o := by
  rcases c.handOver_cases o with ⟨-, -, -, k⟩ | ⟨-, -, last, -, -, -, k⟩ | ⟨-, -, -, -, k⟩
  · rw [k] at h
    split at h <;> simp only [List.mem_append, List.mem_singleton] at h ⊢ <;> tauto
  · rw [k] at h
    simp only [List.mem_append, List.mem_singleton] at h ⊢
    rcases h with (h | h) | h
    · exact .inl (.inl h)
    · exact .inr h
    · exact .inl (.inr (List.mem_of_mem_dropLast h))
  · rw [k] at h
    exact .inl h

theorem CellProcessor.tagsFit.handOver {c : CellProcessor} (h : c.tagsFit) {o : OwnCell} (ho : o.tagFits) :
    (c.handOver o).cell.tagsFit := fun x hx => by
  rcases CellProcessor.mem_handOver hx with hx | rfl
  · exact h x hx
  · exact ho

/-- `t` follows from `s`, and its queued cells of tracked kinds carry no tags where those of `s` carry none. -/
def KeepsTags (s t : State) : Prop := s.cell.tagsFit → t.cell.tagsFit

theorem KeepsTags.refl (s : State) : KeepsTags s s := id

theorem KeepsTags.trans {s t u : State} (h : KeepsTags s t) (k : KeepsTags t u) : KeepsTags s u := k ∘ h

theorem KeepsTags.of_cell {s t : State} (h : t.cell = s.cell) : KeepsTags s t := fun k => h ▸ k

/-- What keeps tags from a state whose Cell Processor is that of `s` keeps them from `s`. -/
theorem KeepsTags.after {s t u : State} (k : KeepsTags t u) (h : t.cell = s.cell) : KeepsTags s u :=
  (KeepsTags.of_cell h).trans k

theorem KeepsTags.foldl {α : Type} (f : State → α → State) (h : ∀ s a, KeepsTags s (f s a)) (l : List α) (s : State) :
    KeepsTags s (l.foldl f s) := by
  induction l generalizing s with
  | nil => exact .refl s
  | cons a l ih => exact (h s a).trans (ih _)

theorem Announced.cell {s t : State} (h : Announced s t) : t.cell = s.cell := by rw [h.rest]

theorem Announced.keepsTags {s t : State} (h : Announced s t) : KeepsTags s t := .of_cell h.cell

theorem State.handNormal_tags (s : State) {o : OwnCell} (h : o.tagFits) : KeepsTags s (s.handNormal o).1 :=
  fun k => k.handOver h

theorem State.eventRequest_tags (s : State) (e : Event) (n : Nat) : KeepsTags s (s.eventRequest e n) :=
  .of_cell (by
    unfold State.eventRequest
    split
    · rfl
    · split
      · rfl
      · rw [State.announce, s.request_event _ rfl]
        rfl)

theorem State.sendNotice_tags (s : State) (e : Event) (n v : Nat) (c : Option ScreenId) :
    KeepsTags s (s.sendNotice e n v c) := by
  unfold State.sendNotice
  split
  · exact State.handNormal_tags (s.modMgmt fun m => { m with notices := bump16 m.notices })
      (OwnCell.tagFits.of_untracked rfl)
  · exact .refl s

theorem State.raise_tags (s : State) (e : Event) (n v : Nat) (c : Option ScreenId) : KeepsTags s (s.raise e n v c) :=
  (s.eventRequest_tags e n).trans (State.sendNotice_tags _ e n v c)

/-- R139: a TICKET takes its tag from the counter. -/
theorem State.handTicket_tags (s : State) (t : TicketId) (v : Ticket) : KeepsTags s (s.handTicket t v).1 :=
  State.handNormal_tags (s.modRouter fun r => { r with serials := r.serials.set t (r.serials[t] + 1) })
    (OwnCell.tagFits.of_fresh rfl)

theorem KeepsTags.of_handTicket {s : State} {t : TicketId} {v : Ticket} {r : State × HandOver}
    (h : s.handTicket t v = r) : KeepsTags s r.1 := h ▸ s.handTicket_tags t v

theorem State.returnTicket_cell (s : State) (k : KitchenId) (t : TicketId) : (s.returnTicket k t).cell = s.cell := rfl

theorem State.ticketFailed_tags (t : TicketId) (n : Nat) (s : State) : KeepsTags s (State.ticketFailed t n s) := by
  induction n generalizing s with
  | zero => exact .refl s
  | succ n ih =>
    unfold State.ticketFailed
    split
    · exact .refl s
    · simp only
      split
      · split
        · split
          · next h => exact (KeepsTags.of_handTicket h).after rfl
          · next h => exact ((KeepsTags.of_handTicket h).after rfl).trans (ih _)
        · exact (State.raise_tags _ _ _ _ _).after (by
            simp only [State.modKitchen_cell, State.returnTicket_cell, State.modTicket_cell, State.modRouter_cell])
      · exact .of_cell rfl

theorem State.ticketOutcome_tags (s : State) (t : TicketId) (n : Byte) (d : Bool) :
    KeepsTags s (s.ticketOutcome t n d) := by
  unfold State.ticketOutcome
  split
  · split
    · split <;> exact .of_cell rfl
    · exact State.ticketFailed_tags t 3 s
  · exact .of_cell rfl

theorem State.sendHead_tags (s : State) (k : KitchenId) (t : TicketId) (rest : List TicketId) :
    KeepsTags s (s.sendHead k t rest) := by
  unfold State.sendHead
  split
  · exact .of_cell rfl
  · simp only
    split
    · next h => exact (KeepsTags.of_handTicket h).after rfl
    · next h => exact ((KeepsTags.of_handTicket h).after rfl).trans (State.ticketFailed_tags t 3 _)

theorem State.dispatchUpTo_tags (k : KitchenId) (n : Nat) (s : State) : KeepsTags s (State.dispatchUpTo k n s) := by
  induction n generalizing s with
  | zero => exact .refl s
  | succ n ih =>
    unfold State.dispatchUpTo
    split
    · exact .refl s
    · split
      · exact (s.sendHead_tags k _ _).trans (ih _)
      · exact .refl s

theorem State.dispatch_tags (s : State) (k : KitchenId) : KeepsTags s (s.dispatch k) := State.dispatchUpTo_tags k _ s

theorem State.toldRemoved_tags (s : State) (o : OwnCell) : KeepsTags s (s.toldRemoved o) := by
  unfold State.toldRemoved
  split
  · exact s.ticketOutcome_tags _ _ _
  all_goals exact .of_cell rfl

theorem State.handUrgent_tags (s : State) {o : OwnCell} (h : o.tagFits) : KeepsTags s (s.handUrgent o).1 := by
  have handed : KeepsTags s { s with cell := (s.cell.handOver o).cell } := fun k => k.handOver h
  unfold State.handUrgent
  simp only
  split
  · exact handed.trans (State.toldRemoved_tags _ _)
  · exact handed

theorem State.kitchenSeen_tags (s : State) (n : Nat) : KeepsTags s (s.kitchenSeen n) := by
  unfold State.kitchenSeen
  split
  · exact .refl s
  · split
    · exact .refl s
    · exact State.dispatch_tags (s.modKitchen _ fun st => { st with state := .present }) _

/-! Announcements hand over no cell. -/

theorem State.startEntry_cell (s : State) (o : OutputId) : (s.startEntry o).cell = s.cell := by
  unfold State.startEntry
  split <;> rfl

theorem State.entryLeft_announced (s : State) (o : OutputId) : Announced s (s.entryLeft o) := by
  unfold State.entryLeft
  split
  · exact s.moveHeld_announced _
  · exact .refl s

theorem State.withdrawFrom_cell (n : Nat) (s : State) (o : OutputId) : (State.withdrawFrom n s o).cell = s.cell := rfl

theorem State.reportActivity_cell (s t : State) : (s.reportActivity t).cell = t.cell := rfl

theorem State.endEntry_tags (s : State) (o : OutputId) : KeepsTags s (s.endEntry o) := by
  unfold State.endEntry
  split
  · exact .refl s
  · simp only
    refine .of_cell ?_
    rw [State.reportActivity_cell, (State.entryLeft_announced _ o).cell, State.startEntry_cell]
    rfl

theorem State.foldl_cell {α : Type} (f : State → α → State) (h : ∀ s a, (f s a).cell = s.cell) (l : List α) (s : State) :
    (l.foldl f s).cell = s.cell := by
  induction l generalizing s with
  | nil => rfl
  | cons a l ih => exact (ih _).trans (h s a)

theorem State.withdrawCalls_cell (s : State) (n : Nat) : (s.withdrawCalls n).cell = s.cell := by
  unfold State.withdrawCalls
  simp only
  rw [State.reportActivity_cell, State.foldl_cell _ fun s o => (s.entryLeft_announced o).cell,
    State.foldl_cell _ (State.withdrawFrom_cell n)]
  exact State.foldl_cell _ (fun _ _ => rfl) allScreens s

end Sys2Proof.Machine

namespace Sys2Proof.Machine

/-! ## Lanes counted by the screen their pending admission names (R113) -/

/-- R113: the lane's pending admission names the screen. -/
def Lane.names (c : ScreenId) (n : Lane) : Bool :=
  match n.pending with
  | some p => decide (p.screen = c)
  | none => false

/-- R113: and its vehicle is TALL. -/
def Lane.namesTall (c : ScreenId) (n : Lane) : Bool :=
  match n.pending with
  | some p => decide (p.screen = c) && decide (p.vehicle = .tall)
  | none => false

/-- The number of lanes that satisfy `p`. -/
def laneCount (lanes : Vector Lane 8) (p : Lane → Bool) : Nat := (allLanes.filter fun l => p lanes[l]).length

theorem State.pendingCounted_iff (s : State) :
    s.pendingCounted ↔ ∀ c : ScreenId,
      s.screens[c].field.pending = laneCount s.gate.lanes (Lane.names c) ∧
        s.screens[c].field.tallPending = laneCount s.gate.lanes (Lane.namesTall c) := Iff.rfl

theorem laneCount_congr {v w : Vector Lane 8} {p : Lane → Bool} (h : ∀ l : LaneId, p v[l] = p w[l]) :
    laneCount v p = laneCount w p := by
  simp only [laneCount, h]

/-- A count over the lanes, that of one lane set apart. -/
theorem laneCount_apart (v : Vector Lane 8) (p : Lane → Bool) (l : LaneId) :
    laneCount v p = ((allLanes.erase l).filter fun m => p v[m]).length + (p v[l]).toNat := by
  have listed : l ∈ allLanes := by
    revert l
    decide
  rw [laneCount, ((List.perm_cons_erase listed).filter _).length_eq, List.filter_cons]
  split
  · next h => rw [h]; rfl
  · next h => rw [Bool.eq_false_iff.2 h]; rfl

/-- A lane that counts is counted. -/
theorem laneCount_pos {v : Vector Lane 8} {p : Lane → Bool} {l : LaneId} (h : p v[l] = true) : 0 < laneCount v p := by
  rw [laneCount_apart v p l, h]
  exact Nat.succ_pos _

/-- One lane replaced: the count moves by what that lane counts. -/
theorem laneCount_set (v : Vector Lane 8) (l : LaneId) (n : Lane) (p : Lane → Bool) :
    laneCount (v.set l n) p + (p v[l]).toNat = laneCount v p + (p n).toNat := by
  have others : ((allLanes.erase l).filter fun m => p (v.set l n)[m]) = (allLanes.erase l).filter fun m => p v[m] := by
    refine List.filter_congr fun m hm => ?_
    have ne : l.val ≠ m.val := fun e =>
      ((List.Nodup.mem_erase_iff (by decide : allLanes.Nodup)).1 hm).1 (Fin.ext e).symm
    simp only [Fin.getElem_fin, Vector.getElem_set_ne _ _ ne]
  have own : (v.set l n)[l] = n := by simp only [Fin.getElem_fin, Vector.getElem_set_self]
  rw [laneCount_apart (v.set l n) p l, laneCount_apart v p l, others, own]
  omega

/-- The lanes' pending admissions name what they named, and the counts of the screens stand. -/
theorem State.pendingCounted.of_same {s t : State} (h : s.pendingCounted)
    (names : ∀ (l : LaneId) (c : ScreenId), t.gate.lanes[l].names c = s.gate.lanes[l].names c)
    (tall : ∀ (l : LaneId) (c : ScreenId), t.gate.lanes[l].namesTall c = s.gate.lanes[l].namesTall c)
    (counts : ∀ c : ScreenId, t.screens[c].field.pending = s.screens[c].field.pending ∧
      t.screens[c].field.tallPending = s.screens[c].field.tallPending) : t.pendingCounted := by
  rw [State.pendingCounted_iff] at h ⊢
  intro c
  rw [(counts c).1, (counts c).2, laneCount_congr fun l => names l c, laneCount_congr fun l => tall l c]
  exact h c

/-- One lane's pending admission changes, and the counts of the screens move with it. -/
theorem State.pendingCounted.of_lane {s t : State} (h : s.pendingCounted) (l : LaneId) (n : Lane)
    (lanes : t.gate.lanes = s.gate.lanes.set l n)
    (names : ∀ c : ScreenId, t.screens[c].field.pending + (s.gate.lanes[l].names c).toNat =
      s.screens[c].field.pending + (n.names c).toNat)
    (tall : ∀ c : ScreenId, t.screens[c].field.tallPending + (s.gate.lanes[l].namesTall c).toNat =
      s.screens[c].field.tallPending + (n.namesTall c).toNat) : t.pendingCounted := by
  rw [State.pendingCounted_iff] at h ⊢
  intro c
  have named := laneCount_set s.gate.lanes l n (Lane.names c)
  have tallNamed := laneCount_set s.gate.lanes l n (Lane.namesTall c)
  obtain ⟨hp, ht⟩ := h c
  have := names c
  have := tall c
  rw [lanes]
  constructor <;> omega

/-! ## `KeepsFit`: what fits keeps fitting -/

/-- `t` follows from `s`, and its stores, queues, tracker and counts are within their bounds where those of `s` are. -/
structure KeepsFit (s t : State) : Prop where
  fits : s.fits → t.fits

theorem KeepsFit.refl (s : State) : KeepsFit s s := ⟨id⟩

theorem KeepsFit.trans {s t u : State} (h : KeepsFit s t) (k : KeepsFit t u) : KeepsFit s u := ⟨k.fits ∘ h.fits⟩

theorem KeepsFit.foldl {α : Type} (f : State → α → State) (h : ∀ s a, KeepsFit s (f s a)) (l : List α) (s : State) :
    KeepsFit s (l.foldl f s) := by
  induction l generalizing s with
  | nil => exact .refl s
  | cons a l ih => exact (h s a).trans (ih _)

/-- What is `Kept` and keeps the tags keeps what fits. -/
theorem Kept.keepsFit {s t : State} (h : Kept s t) (tags : KeepsTags s t) : KeepsFit s t where
  fits hs :=
    { stores := ⟨by rw [h.ann.rest]; exact hs.stores.1, by rw [h.sound]; exact hs.stores.2⟩
      queue := h.cell.fits hs.queue
      tracker := by rw [h.cell.rest]; exact hs.tracker
      tags := tags hs.tags
      announcements := h.ann.fits hs.announcements
      pending := hs.pending.of_same (fun _ _ => by rw [h.gate]) (fun _ _ => by rw [h.gate]) fun c => by
        rw [h.screens c]; exact ⟨rfl, rfl⟩
      counts := fun c => by rw [h.screens c]; exact hs.counts c }

theorem Announced.keepsFit {s t : State} (h : Announced s t) : KeepsFit s t := h.kept.keepsFit h.keepsTags

/-! ## Changes of one record -/

theorem KeepsFit.modSeqr (s : State) (f : Sequencer → Sequencer) : KeepsFit s (s.modSeqr f) := ⟨fun h => { h with }⟩

theorem KeepsFit.modMgmt (s : State) (f : Management → Management) : KeepsFit s (s.modMgmt f) := ⟨fun h => { h with }⟩

theorem KeepsFit.modRouter (s : State) (f : Router → Router) : KeepsFit s (s.modRouter f) := ⟨fun h => { h with }⟩

theorem KeepsFit.modOrder (s : State) (n : Nat) (f : Order → Order) : KeepsFit s (s.modOrder n f) := .modRouter s _

theorem KeepsFit.modKitchen (s : State) (k : KitchenId) (f : Kitchen → Kitchen) : KeepsFit s (s.modKitchen k f) :=
  .modRouter s _

theorem KeepsFit.setTicket (s : State) (t : TicketId) (v : Option Ticket) : KeepsFit s (s.setTicket t v) :=
  .modRouter s _

theorem KeepsFit.modTicket (s : State) (t : TicketId) (f : Ticket → Ticket) : KeepsFit s (s.modTicket t f) :=
  .setTicket s t _

theorem KeepsFit.draw (s : State) : KeepsFit s s.draw := ⟨fun h => { h with }⟩

theorem KeepsFit.modLoop (s : State) (f : LoopPorts → LoopPorts) : KeepsFit s (s.modLoop f) := ⟨fun h => { h with }⟩

theorem KeepsFit.modPort (s : State) (p : PortId) (f : Port → Port) : KeepsFit s (s.modPort p f) := by
  cases p
  · exact .modLoop s fun l => { l with portA := f l.portA }
  · exact .modLoop s fun l => { l with portB := f l.portB }

theorem KeepsFit.modGate (s : State) (f : GateCounter → GateCounter) (h : (f s.gate).lanes = s.gate.lanes) :
    KeepsFit s (s.modGate f) :=
  ⟨fun hs => { hs with
    pending := hs.pending.of_same (fun _ _ => by rw [State.modGate_gate, h]) (fun _ _ => by rw [State.modGate_gate, h])
      fun _ => ⟨rfl, rfl⟩ }⟩

/-- A lane changes, the screen and the vehicle of its pending admission do not. -/
theorem KeepsFit.modLane (s : State) (l : LaneId) (f : Lane → Lane)
    (names : ∀ c, (f s.gate.lanes[l]).names c = s.gate.lanes[l].names c)
    (tall : ∀ c, (f s.gate.lanes[l]).namesTall c = s.gate.lanes[l].namesTall c) : KeepsFit s (s.modLane l f) :=
  ⟨fun hs => { hs with
    pending := hs.pending.of_lane l _ rfl (fun c => by rw [names c]; rfl) fun c => by rw [tall c]; rfl }⟩

theorem KeepsFit.modLane_same (s : State) (l : LaneId) (f : Lane → Lane)
    (h : (f s.gate.lanes[l]).pending = s.gate.lanes[l].pending) : KeepsFit s (s.modLane l f) :=
  .modLane s l f (fun c => by simp only [Lane.names, h]) fun c => by simp only [Lane.namesTall, h]

/-- The Sound Path changes, its delay lines stay canonical (R76). -/
theorem KeepsFit.modSound (s : State) (f : SoundPath → SoundPath)
    (h : ∀ c : ScreenId, Memory.wf zeroFrame s.sound.lines[c].frames →
      Memory.wf zeroFrame (f s.sound).lines[c].frames) : KeepsFit s (s.modSound f) :=
  ⟨fun hs => { hs with stores := ⟨hs.stores.1, fun c => h c (hs.stores.2 c)⟩ }⟩

theorem KeepsFit.modInput (s : State) (c : ScreenId) (f : ProgInput → ProgInput) : KeepsFit s (s.modInput c f) :=
  .modSound s _ fun _ => id

theorem KeepsFit.modTransmitter (s : State) (c : ScreenId) (f : Transmitter → Transmitter) :
    KeepsFit s (s.modTransmitter c f) := .modSound s _ fun _ => id

theorem KeepsFit.modOutput (s : State) (o : OutputId) (f : OutputState → OutputState) : KeepsFit s (s.modOutput o f) :=
  .modSound s _ fun _ => id

theorem KeepsFit.modOutputConfig (s : State) (o : OutputId) (f : OutputConfig → OutputConfig) :
    KeepsFit s (s.modOutputConfig o f) := .modSound s _ fun _ => id

theorem KeepsFit.modLine (s : State) (c : ScreenId) (f : DelayLine → DelayLine)
    (h : Memory.wf zeroFrame s.sound.lines[c].frames → Memory.wf zeroFrame (f s.sound.lines[c]).frames) :
    KeepsFit s (s.modLine c f) := by
  refine .modSound s _ fun d hd => ?_
  simp only [Fin.getElem_fin, Vector.getElem_set]
  split
  · next e => cases Fin.ext e; exact h hd
  · exact hd

/-- The Composer changes, its memory stays canonical (R93) and its queues fit (R103). -/
theorem KeepsFit.modAnn (s : State) (f : Composer → Composer)
    (memory : Memory.wf 0 s.ann.memory → Memory.wf 0 (f s.ann).memory)
    (queues : s.ann.queuesFit → (f s.ann).queuesFit) : KeepsFit s (s.modAnn f) :=
  ⟨fun hs => { hs with
    stores := ⟨memory hs.stores.1, hs.stores.2⟩
    announcements := queues hs.announcements }⟩

theorem KeepsFit.modClip (s : State) (k : ClipId) (f : Clip → Clip) : KeepsFit s (s.modClip k f) := .modAnn s _ id id

/-- The counts of a screen that R113 and Table 1-1 bound. -/
structure FieldCounts.sameCounts (f g : FieldCounts) : Prop where
  occupancy : g.occupancy = f.occupancy
  tall : g.tall = f.tall
  pending : g.pending = f.pending
  tallPending : g.tallPending = f.tallPending

/-- What a lookup finds in the records after one screen's was changed. -/
theorem State.modScreen_all (s : State) (c : ScreenId) (f : Screen → Screen) {p : Screen → Screen → Prop}
    (same : ∀ v, p v v) (h : p s.screens[c] (f s.screens[c])) (d : ScreenId) :
    p s.screens[d] (s.modScreen c f).screens[d] := by
  simp only [Fin.getElem_fin, State.modScreen_get]
  split
  · next e => cases Fin.ext e; exact h
  · exact same _

theorem KeepsFit.modScreen (s : State) (c : ScreenId) (f : Screen → Screen)
    (h : s.screens[c].field.sameCounts (f s.screens[c]).field) : KeepsFit s (s.modScreen c f) where
  fits hs := by
    have same := s.modScreen_all c f (p := fun v w => v.field.sameCounts w.field) (fun _ => ⟨rfl, rfl, rfl, rfl⟩) h
    exact
      { hs with
        pending := hs.pending.of_same (fun _ _ => rfl) (fun _ _ => rfl) fun d => ⟨(same d).pending, (same d).tallPending⟩
        counts := fun d => by rw [(same d).occupancy, (same d).tall]; exact hs.counts d }

theorem KeepsFit.modField (s : State) (c : ScreenId) (f : FieldCounts → FieldCounts)
    (h : s.screens[c].field.sameCounts (f s.screens[c].field)) : KeepsFit s (s.modField c f) := .modScreen s c _ h

theorem KeepsFit.modSeq (s : State) (c : ScreenId) (f : ShowRecord → ShowRecord) : KeepsFit s (s.modSeq c f) :=
  .modScreen s c _ ⟨rfl, rfl, rfl, rfl⟩

theorem KeepsFit.modScreenSound (s : State) (c : ScreenId) (f : ScreenSound → ScreenSound) :
    KeepsFit s (s.modScreenSound c f) := .modScreen s c _ ⟨rfl, rfl, rfl, rfl⟩

theorem KeepsFit.setOrderingState (s : State) (c : ScreenId) (o : OrderingState) :
    KeepsFit s (s.setOrderingState c o) := .modScreen s c _ ⟨rfl, rfl, rfl, rfl⟩

/-- O and Ot of one screen change within Table 1-1's bounds. -/
theorem KeepsFit.modOccupancy (s : State) (c : ScreenId) (f : FieldCounts → FieldCounts)
    (pending : (f s.screens[c].field).pending = s.screens[c].field.pending)
    (tallPending : (f s.screens[c].field).tallPending = s.screens[c].field.tallPending)
    (counts : s.screens[c].field.occupancy ≤ 4095 ∧ s.screens[c].field.tall ≤ s.screens[c].field.occupancy →
      (f s.screens[c].field).occupancy ≤ 4095 ∧ (f s.screens[c].field).tall ≤ (f s.screens[c].field).occupancy) :
    KeepsFit s (s.modField c f) where
  fits hs := by
    have same := s.modScreen_all c (fun v => { v with field := f v.field })
      (p := fun v w => w.field.pending = v.field.pending ∧ w.field.tallPending = v.field.tallPending)
      (fun _ => ⟨rfl, rfl⟩) ⟨pending, tallPending⟩
    have bounds := s.modScreen_all c (fun v => { v with field := f v.field })
      (p := fun v w => v.field.occupancy ≤ 4095 ∧ v.field.tall ≤ v.field.occupancy →
        w.field.occupancy ≤ 4095 ∧ w.field.tall ≤ w.field.occupancy) (fun _ => id) counts
    exact
      { hs with
        pending := hs.pending.of_same (fun _ _ => rfl) (fun _ _ => rfl) same
        counts := fun d => bounds d (hs.counts d) }

/-- The Cell Processor changes, and its queue, tracker and tags still fit. -/
theorem KeepsFit.modCell (s : State) (f : CellProcessor → CellProcessor)
    (queue : (f s.cell).queued ≤ s.cell.queued)
    (tracker : s.cell.trackerFits → (f s.cell).trackerFits)
    (cells : ∀ o ∈ (f s.cell).urgent ++ (f s.cell).normal, o ∈ s.cell.urgent ++ s.cell.normal) :
    KeepsFit s (s.modCell f) :=
  ⟨fun hs => { hs with
    queue := queue.trans hs.queue
    tracker := tracker hs.tracker
    tags := fun o ho => hs.tags o (cells o ho) }⟩

/-- The Cell Processor changes beside its queue and its tracker. -/
theorem KeepsFit.modCell_same (s : State) (f : CellProcessor → CellProcessor)
    (urgent : (f s.cell).urgent = s.cell.urgent) (normal : (f s.cell).normal = s.cell.normal)
    (tracker : (f s.cell).tracker = s.cell.tracker) : KeepsFit s (s.modCell f) := by
  refine .modCell s f ?_ ?_ ?_
  · rw [CellProcessor.queued, urgent, normal]; exact le_rfl
  · unfold CellProcessor.trackerFits; rw [tracker]; exact id
  · rw [urgent, normal]; exact fun _ => id

/-! ## Cells handed over, events, announcements and dispatch -/

theorem State.handNormal_fit {s t : State} {o : OwnCell} {a : HandOver} (ho : o.tagFits) (h : s.handNormal o = (t, a)) :
    KeepsFit s t := by
  have kept := (s.handNormal_kept o).keepsFit (s.handNormal_tags ho)
  rwa [h] at kept

theorem State.handUrgent_fit {s t : State} {o : OwnCell} {a : HandOver} (ho : o.tagFits) (h : s.handUrgent o = (t, a)) :
    KeepsFit s t := by
  have kept := (s.handUrgent_kept o).keepsFit (s.handUrgent_tags ho)
  rwa [h] at kept

theorem State.raise_fit (s : State) (e : Event) (n v : Nat) (c : Option ScreenId) : KeepsFit s (s.raise e n v c) :=
  (s.raise_kept e n v c).keepsFit (s.raise_tags e n v c)

theorem State.announce_fit (s : State) (r : Request) : KeepsFit s (s.announce r) :=
  ((s.request_announced r).trans (State.reportActivity_announced _ _)).keepsFit

theorem State.releaseHeld_fit (s : State) (c : ScreenId) : KeepsFit s (s.releaseHeld c) :=
  (s.releaseHeld_announced c).keepsFit

theorem State.startEntry_fit (s : State) (o : OutputId) : KeepsFit s (s.startEntry o) :=
  (s.startEntry_kept o).keepsFit (.of_cell (s.startEntry_cell o))

theorem State.endEntry_fit (s : State) (o : OutputId) : KeepsFit s (s.endEntry o) :=
  (s.endEntry_kept o).keepsFit (s.endEntry_tags o)

theorem State.stopQueue_fit (s : State) (c : ScreenId) : KeepsFit s (s.stopQueue c) :=
  (s.stopQueue_kept c).keepsFit (.of_cell rfl)

theorem State.withdrawCalls_fit (s : State) (n : Nat) : KeepsFit s (s.withdrawCalls n) :=
  (s.withdrawCalls_kept n).keepsFit (.of_cell (s.withdrawCalls_cell n))

theorem State.dispatch_fit (s : State) (k : KitchenId) : KeepsFit s (s.dispatch k) :=
  (s.dispatch_kept k).keepsFit (s.dispatch_tags k)

theorem State.ticketOutcome_fit (s : State) (t : TicketId) (n : Byte) (d : Bool) : KeepsFit s (s.ticketOutcome t n d) :=
  (s.ticketOutcome_kept t n d).keepsFit (s.ticketOutcome_tags t n d)

theorem State.kitchenSeen_fit (s : State) (n : Nat) : KeepsFit s (s.kitchenSeen n) :=
  (s.kitchenSeen_kept n).keepsFit (s.kitchenSeen_tags n)

end Sys2Proof.Machine

namespace Sys2Proof.Machine

/-! ## Field flags and lanes (07) -/

theorem State.judgeFull_fit (s : State) (c : ScreenId) : KeepsFit s (s.judgeFull c) := by
  unfold State.judgeFull
  split
  · exact (KeepsFit.modField s c _ ⟨rfl, rfl, rfl, rfl⟩).trans (State.raise_fit _ _ _ _ _)
  · split
    · exact .modField s c _ ⟨rfl, rfl, rfl, rfl⟩
    · exact .refl s

theorem State.judgeNearFull_fit (s : State) (c : ScreenId) : KeepsFit s (s.judgeNearFull c) := by
  unfold State.judgeNearFull
  simp only
  split
  · exact (KeepsFit.modField s c _ ⟨rfl, rfl, rfl, rfl⟩).trans (State.raise_fit _ _ _ _ _)
  · split
    · exact (KeepsFit.modField s c _ ⟨rfl, rfl, rfl, rfl⟩).trans (State.raise_fit _ _ _ _ _)
    · exact .refl s

theorem State.judgeFlags_fit (s : State) (c : ScreenId) : KeepsFit s (s.judgeFlags c) :=
  (s.judgeNearFull_fit c).trans (State.judgeFull_fit _ c)

theorem State.flagUncertain_fit (s : State) (c : ScreenId) : KeepsFit s (s.flagUncertain c) := by
  unfold State.flagUncertain
  split
  · exact .refl s
  · exact (KeepsFit.modField s c _ ⟨rfl, rfl, rfl, rfl⟩).trans (State.raise_fit _ _ _ _ _)

theorem State.laneSeen_fit (s : State) (n : Nat) : KeepsFit s (s.laneSeen n) := by
  unfold State.laneSeen
  split
  · exact .refl s
  · exact .modLane_same s _ _ rfl

theorem State.cellSeen_fit (s : State) (source : Byte) : KeepsFit s (s.cellSeen source) :=
  (s.laneSeen_fit _).trans (State.kitchenSeen_fit _ _)

/-- What a lane with no pending admission names, and one with a pending admission. -/
theorem Lane.names_none {n : Lane} (h : n.pending = none) (c : ScreenId) : n.names c = false ∧ n.namesTall c = false := by
  simp only [Lane.names, Lane.namesTall, h, and_self]

theorem Lane.names_some {n : Lane} {p : PendingAdmission} (h : n.pending = some p) (c : ScreenId) :
    n.names c = decide (p.screen = c) ∧ n.namesTall c = (decide (p.screen = c) && decide (p.vehicle = .tall)) := by
  simp only [Lane.names, Lane.namesTall, h, and_self]

theorem State.modField_field (s : State) (c d : ScreenId) (g : FieldCounts → FieldCounts) :
    (s.modField c g).screens[d].field = if c = d then g s.screens[c].field else s.screens[d].field := by
  simp only [State.modField, Fin.getElem_fin, State.modScreen_get, ← Fin.ext_iff]
  split <;> rfl

/-- R113: a lane's pending admission is made or cleared, with the counts of the screen that it names. -/
theorem KeepsFit.movePending (s : State) (l : LaneId) (f : Lane → Lane) (c : ScreenId) (g : FieldCounts → FieldCounts)
    (counts : ∀ v, (g v).occupancy = v.occupancy ∧ (g v).tall = v.tall)
    (others : ∀ d, c ≠ d → (f s.gate.lanes[l]).names d = s.gate.lanes[l].names d ∧
      (f s.gate.lanes[l]).namesTall d = s.gate.lanes[l].namesTall d)
    (pending : s.pendingCounted →
      (g s.screens[c].field).pending + (s.gate.lanes[l].names c).toNat =
        s.screens[c].field.pending + ((f s.gate.lanes[l]).names c).toNat)
    (tall : s.pendingCounted →
      (g s.screens[c].field).tallPending + (s.gate.lanes[l].namesTall c).toNat =
        s.screens[c].field.tallPending + ((f s.gate.lanes[l]).namesTall c).toNat) :
    KeepsFit s ((s.modLane l f).modField c g) where
  fits hs := by
    have field (d : ScreenId) := (s.modLane l f).modField_field c d g
    refine { hs with pending := hs.pending.of_lane l (f s.gate.lanes[l]) rfl (fun d => ?_) fun d => ?_, counts := fun d => ?_ }
    · rw [field d]
      split
      · next e => exact e ▸ pending hs.pending
      · next e => rw [(others d e).1]; rfl
    · rw [field d]
      split
      · next e => exact e ▸ tall hs.pending
      · next e => rw [(others d e).2]; rfl
    · rw [field d]
      split
      · next e =>
        rw [(counts _).1, (counts _).2]
        exact hs.counts c
      · exact hs.counts d

/-- R113, R119: a free lane's pending admission made. -/
theorem KeepsFit.pend (s : State) (l : LaneId) (p : PendingAdmission) (free : s.gate.lanes[l].pending = none) :
    KeepsFit s ((s.modLane l fun n => { n with pending := some p }).modField p.screen fun f => f.pend p.vehicle) := by
  have before := Lane.names_none free
  have after := Lane.names_some (n := { s.gate.lanes[l] with pending := some p }) rfl
  refine .movePending s l _ p.screen _ (fun _ => ⟨rfl, rfl⟩) (fun d hd => ?_) (fun _ => ?_) fun _ => ?_
  · rw [(before d).1, (before d).2, (after d).1, (after d).2, decide_eq_false hd]
    exact ⟨rfl, rfl⟩
  · rw [(before _).1, (after _).1, decide_eq_true rfl]
    rfl
  · rw [(before _).2, (after _).2, decide_eq_true rfl]
    simp only [FieldCounts.pend]
    split <;> simp_all

/-- R113: a lane's pending admission cleared. -/
theorem State.clearPending_fit (s : State) (l : LaneId) (p : PendingAdmission) (held : s.gate.lanes[l].pending = some p) :
    KeepsFit s (s.clearPending l p) := by
  have before := Lane.names_some held
  have after := Lane.names_none (n := { s.gate.lanes[l] with pending := none }) rfl
  refine .movePending s l _ p.screen _ (fun _ => ⟨rfl, rfl⟩) (fun d hd => ?_) (fun hs => ?_) fun hs => ?_
  · rw [(before d).1, (before d).2, (after d).1, (after d).2, decide_eq_false hd]
    exact ⟨rfl, rfl⟩
  · have own : s.gate.lanes[l].names p.screen = true := by rw [(before _).1, decide_eq_true rfl]
    have counted := laneCount_pos own
    rw [← (s.pendingCounted_iff.1 hs p.screen).1] at counted
    rw [own, (after _).1]
    exact Nat.sub_add_cancel counted
  · have own : s.gate.lanes[l].namesTall p.screen = decide (p.vehicle = .tall) := by
      rw [(before _).2, decide_eq_true rfl, Bool.true_and]
    rw [own, (after _).2]
    by_cases hv : p.vehicle = .tall
    · have counted := laneCount_pos (own.trans (decide_eq_true hv))
      rw [← (s.pendingCounted_iff.1 hs p.screen).2] at counted
      simp only [FieldCounts.unpend, if_pos hv, decide_eq_true hv]
      exact Nat.sub_add_cancel counted
    · simp only [FieldCounts.unpend, if_neg hv, decide_eq_false hv]

theorem State.grant_fit (s : State) (c : ScreenId) (l : LaneId) (v : Vehicle) (free : s.gate.lanes[l].pending = none) :
    KeepsFit s (s.grant c l v) :=
  (KeepsFit.pend s l ⟨c, v, s.gate.lanes[l].passTimeout⟩ free).trans (State.judgeFull_fit _ c)

/-- R117: a GRANT is given on a lane with no pending admission. -/
theorem State.judgeAsk_grant {s : State} {source screen vehicle : Byte} {c : ScreenId} {l : LaneId} {v : Vehicle}
    (h : s.judgeAsk source screen vehicle = .grant c l v) : s.gate.lanes[l].pending = none := by
  unfold State.judgeAsk at h
  split at h
  · cases h
  · next m _ =>
    by_cases free : s.gate.lanes[m].pending = none
    · have granted : l = m := by
        simp only [free, Option.isSome_none] at h
        split at h
        · cases h
        · simp only [Bool.false_eq_true, if_false] at h
          split at h
          · cases h
          · split at h
            · cases h
            · split at h
              · split at h
                · cases h
                · split at h <;> cases h
                  rfl
              · split at h
                · cases h; rfl
                · split at h <;> cases h
      exact granted ▸ free
    · have busy : s.gate.lanes[m].pending.isSome = true := Option.isSome_iff_ne_none.2 free
      rw [if_pos busy] at h
      split at h <;> cases h

theorem State.takeAdmitAsk_fit (s : State) (m : Sender) (screen vehicle : Byte) :
    KeepsFit s (s.takeAdmitAsk m screen vehicle) := by
  have reply (v : AskVerdict) : (s.admitReply m screen v).tagFits := .of_untracked rfl
  unfold State.takeAdmitAsk
  simp only
  split
  · next sent c l v h verdict =>
    have kept := s.handUrgent_kept (s.admitReply m screen (s.judgeAsk m.source screen vehicle))
    rw [h] at kept
    have free : sent.gate.lanes[l].pending = none := by rw [kept.gate]; exact State.judgeAsk_grant verdict
    exact (State.handUrgent_fit (reply _) h).trans (State.grant_fit _ c l v free)
  · next h _ => exact State.handUrgent_fit (reply _) h

theorem State.passExpires_fit (s : State) (l : LaneId) : KeepsFit s (s.passExpires l) := by
  unfold State.passExpires
  split
  · exact .refl s
  · next p held =>
    exact ((s.clearPending_fit l p held).trans (.modField _ _ _ ⟨rfl, rfl, rfl, rfl⟩)).trans (State.judgeFull_fit _ _)

theorem State.silenceExpires_fit (s : State) (l : LaneId) : KeepsFit s (s.silenceExpires l) := by
  unfold State.silenceExpires
  simp only
  split
  · exact .refl s
  · have silenced := KeepsFit.modLane_same s l (fun n => { n with state := .silent, silenceTimer := none }) rfl
    have raised := State.raise_kept (s.modLane l fun n => { n with state := .silent, silenceTimer := none }) .laneSilent
      (numberOf l) s.gate.lanes[l].station none
    have silent := silenced.trans (State.raise_fit _ .laneSilent (numberOf l) s.gate.lanes[l].station none)
    split
    · exact silent.trans (State.flagUncertain_fit _ _)
    · next p held =>
      have cleared := State.clearPending_fit _ l p (by rw [raised.gate]; simpa using held)
      have flagged := ((silent.trans cleared).trans (State.judgeFull_fit _ p.screen)).trans
        (State.flagUncertain_fit _ s.gate.lanes[l].home)
      split
      · exact flagged
      · exact flagged.trans (State.flagUncertain_fit _ _)

/-- R121: a car enters: O stays within 4095, and Ot within O. -/
theorem FieldCounts.gain_bounds (f : FieldCounts) (v : Vehicle) (h : f.occupancy ≤ 4095 ∧ f.tall ≤ f.occupancy) :
    (f.gain v).occupancy ≤ 4095 ∧ (f.gain v).tall ≤ (f.gain v).occupancy := by
  simp only [FieldCounts.gain]
  split <;> omega

/-- R123: a car leaves: O falls, and Ot stays within it. -/
theorem KeepsFit.lose (s : State) (c : ScreenId) (v : Vehicle) : KeepsFit s (s.modField c fun f => f.lose v) :=
  .modOccupancy s c _ rfl rfl fun ⟨bound, _⟩ => ⟨(Nat.sub_le _ _).trans bound, Nat.min_le_right _ _⟩

theorem State.enters_fit (s : State) (l : LaneId) (v : Vehicle) : KeepsFit s (s.enters l v) := by
  unfold State.enters
  split
  · next p held =>
    exact ((s.clearPending_fit l p held).trans (.modOccupancy _ _ _ rfl rfl (FieldCounts.gain_bounds _ _))).trans
      (State.judgeFlags_fit _ _)
  · refine (KeepsFit.modOccupancy s _ _ rfl rfl fun h => ?_).trans (State.judgeFlags_fit _ _)
    exact FieldCounts.gain_bounds _ v h

theorem State.backsOut_fit (s : State) (l : LaneId) : KeepsFit s (s.backsOut l) := by
  unfold State.backsOut
  split
  · next p held => exact (s.clearPending_fit l p held).trans (State.judgeFull_fit _ _)
  · exact .modGate s _ rfl

theorem State.exits_fit (s : State) (l : LaneId) (v : Vehicle) : KeepsFit s (s.exits l v) :=
  (KeepsFit.lose s _ v).trans (State.judgeFlags_fit _ _)

theorem State.takePassage_fit (s : State) (source : Byte) (p : Option Passage) (vehicle : Byte) :
    KeepsFit s (s.takePassage source p vehicle) := by
  unfold State.takePassage
  split
  · split
    · exact s.enters_fit _ _
    · exact s.backsOut_fit _
    · exact s.exits_fit _ _
    · exact .modGate s _ rfl
  · exact .modGate s _ rfl

/-! ## Orders (08) -/

theorem State.replyOrder_fit (s : State) (m : Sender) (v : PlaceVerdict) : KeepsFit s (s.replyOrder m v) := by
  unfold State.replyOrder
  split
  · next h => exact State.handNormal_fit (.of_untracked rfl) h
  · next h => exact (State.handNormal_fit (.of_untracked rfl) h).trans (.modRouter _ _)

theorem State.joinBacklog_fit (s : State) (k : KitchenId) (t : TicketId) : KeepsFit s (s.joinBacklog k t) :=
  .modKitchen s k _

theorem State.makeTicket_fit (n : Nat) (rush : Bool) (s : State) (t : TicketId × KitchenId × List OrderLine) :
    KeepsFit s (State.makeTicket n rush s t) := (KeepsFit.setTicket s t.1 _).trans (State.joinBacklog_fit _ _ _)

theorem State.enterOrder_fit (s : State) (m : Sender) (screen : Option ScreenId) (lines : List OrderLine)
    (chosen : List KitchenId) (n : Nat) : KeepsFit s (s.enterOrder m screen lines chosen n) := by
  have portions := KeepsFit.foldl State.takePortions (fun s l => .modRouter s _) lines s
  exact (portions.trans (.modRouter _ _)).trans (.foldl _ (State.makeTicket_fit n _) _ _)

theorem State.takeOrderPlace_fit (s : State) (m : Sender) (screen : Byte) (raw : List (Byte × Byte)) :
    KeepsFit s (s.takeOrderPlace m screen raw) := by
  unfold State.takeOrderPlace
  simp only
  split
  · exact (KeepsFit.modRouter s _).trans (State.replyOrder_fit _ _ _)
  · split
    · exact (KeepsFit.modRouter s _).trans (State.replyOrder_fit _ _ _)
    · exact ((s.enterOrder_fit _ _ _ _ _).trans (State.replyOrder_fit _ _ _)).trans (.foldl _ State.dispatch_fit _ _)

theorem State.tellBoard_fit (s : State) (o : Order) (b : BoardState) : KeepsFit s (s.tellBoard o b) := by
  unfold State.tellBoard
  split
  · exact .refl s
  · split
    · next h => exact State.handNormal_fit (.of_untracked rfl) h
    · next h => exact (State.handNormal_fit (.of_untracked rfl) h).trans (.modRouter _ _)

theorem State.callOrder_fit (s : State) (o : Order) : KeepsFit s (s.callOrder o) :=
  (((KeepsFit.modOrder s _ _).trans (State.announce_fit _ _)).trans (.modOrder _ _ _)).trans (State.tellBoard_fit _ _ _)

theorem State.freeOrder_fit (s : State) (o : Order) : KeepsFit s (s.freeOrder o) :=
  (KeepsFit.foldl _ (fun s t => .setTicket s t none) _ s).trans (.modRouter _ _)

theorem State.abandon_fit (s : State) (o : Order) : KeepsFit s (s.abandon o) :=
  (((KeepsFit.modRouter s _).trans (State.raise_fit _ _ _ _ _)).trans (State.tellBoard_fit _ _ _)).trans
    (State.freeOrder_fit _ _)

theorem State.recallExpires_fit (s : State) (n : Nat) : KeepsFit s (s.recallExpires n) := by
  unfold State.recallExpires
  split
  · exact .refl s
  · split
    · split
      · exact s.callOrder_fit _
      · exact s.abandon_fit _
    · exact .refl s

theorem State.bumpTicket_fit (s : State) (o : Order) (k : KitchenId) (t : TicketId) : KeepsFit s (s.bumpTicket o k t) := by
  have bumped := ((KeepsFit.modTicket s t fun v => { v with state := .bumped, lateTimer := none }).trans
    (.modKitchen _ k fun st => { st with sent := st.sent - 1 })).trans (State.dispatch_fit _ k)
  unfold State.bumpTicket
  simp only
  split
  · exact (bumped.trans (.modOrder _ _ _)).trans (State.callOrder_fit _ _)
  · exact bumped

theorem State.takeBump_fit (s : State) (source : Byte) (n : Half) (kitchen : Byte) :
    KeepsFit s (s.takeBump source n kitchen) := by
  unfold State.takeBump
  simp only
  split
  · exact .modRouter s _
  · split
    · split
      · exact .modRouter s _
      · split
        · exact .modRouter s _
        · exact s.bumpTicket_fit _ _ _
    · exact .modRouter s _

theorem State.lateExpires_fit (s : State) (t : TicketId) : KeepsFit s (s.lateExpires t) := by
  unfold State.lateExpires
  split
  · exact .refl s
  · split
    · have expired := KeepsFit.modTicket s t fun v => { v with lateTimer := none }
      simp only
      split
      · exact expired
      · split
        · exact expired
        · exact (expired.trans (.modOrder _ _ _)).trans (State.raise_fit _ _ _ _ _)
    · exact .refl s

theorem State.lateOf_fit (s : State) (n : Nat) (k : KitchenId) : KeepsFit s (s.lateOf n k) := by
  unfold State.lateOf
  split
  · exact .refl s
  · split
    · exact .refl s
    · exact s.lateExpires_fit _

theorem State.takePickup_fit (s : State) (source : Byte) (n : Half) : KeepsFit s (s.takePickup source n) := by
  unfold State.takePickup
  split
  · split
    · split
      · exact ((s.withdrawCalls_fit _).trans (State.tellBoard_fit _ _ _)).trans (State.freeOrder_fit _ _)
      · exact .modRouter s _
    · exact .modRouter s _
  · exact .modRouter s _

theorem State.sendVoid_fit (s : State) (o : Order) (k : KitchenId) (t : TicketId) : KeepsFit s (s.sendVoid o k t) := by
  unfold State.sendVoid
  split
  · next h => exact State.handNormal_fit (.of_fresh rfl) h
  · next h => exact (State.handNormal_fit (.of_fresh rfl) h).trans (.modRouter _ _)

theorem State.cancelTicket_fit (o : Order) (s : State) (t : TicketId) : KeepsFit s (State.cancelTicket o s t) := by
  have freed := KeepsFit.setTicket s t none
  unfold State.cancelTicket
  split
  · exact .refl s
  · split
    · exact (freed.trans (.modKitchen _ _ _)).trans (.foldl _ (fun s l => .modRouter s _) _ _)
    · exact ((freed.trans (.modKitchen _ _ _)).trans (State.sendVoid_fit _ _ _ _)).trans (State.dispatch_fit _ _)
    · exact freed

theorem State.doCancel_fit (s : State) (n : Half) : KeepsFit s (s.doCancel n).1 := by
  unfold State.doCancel
  split
  · exact .refl s
  · exact (((KeepsFit.foldl _ (State.cancelTicket_fit _) _ s).trans (State.withdrawCalls_fit _ _)).trans
      (State.tellBoard_fit _ _ _)).trans (State.freeOrder_fit _ _)

end Sys2Proof.Machine

namespace Sys2Proof.Machine

/-! ## The Show Sequencer (04) -/

theorem State.changeShow_fit (s : State) (c : ScreenId) (new : ShowState) : KeepsFit s (s.changeShow c new) := by
  have reactions (t : State) (old : ShowState) : KeepsFit t (t.showReactions c old new) := by
    unfold State.showReactions
    split
    · exact (t.releaseHeld_fit c).trans (State.raise_fit _ _ _ _ _)
    · exact t.raise_fit _ _ _ _
  by_cases h : s.screens[c].seq.shown = new
  · rw [s.changeShow_same c new h]
    exact .refl s
  · by_cases dark : new = .dark
    · subst dark
      rw [s.changeShow_dark c h]
      exact (KeepsFit.modScreen s c _ ⟨rfl, rfl, rfl, rfl⟩).trans (reactions _ _)
    · rw [s.changeShow_lit c new h dark]
      exact (KeepsFit.modSeq s c _).trans (reactions _ _)

theorem State.toIdle_fit (s : State) (c : ScreenId) (index : Nat) : KeepsFit s (s.toIdle c index) :=
  (KeepsFit.modSeq s c _).trans (State.changeShow_fit _ c _)

theorem State.projUnanswered_fit (s : State) (c : ScreenId) : KeepsFit s (s.projUnanswered c) := s.raise_fit _ _ _ _

theorem State.sendProj_fit (s : State) (c : ScreenId) (command argument : Nat) :
    KeepsFit s (s.sendProj c command argument) := by
  unfold State.sendProj
  split
  · exact .modSeqr s _
  · split
    · next h => exact State.handUrgent_fit (.of_fresh rfl) h
    · next h => exact (State.handUrgent_fit (.of_fresh rfl) h).trans (State.projUnanswered_fit _ _)

theorem State.admitAction_fit (s : State) (c : ScreenId) (a : Admission) : KeepsFit s (s.admitAction c a) := by
  unfold State.admitAction
  split
  · exact .modSeqr s _
  · exact .modField s c _ ⟨rfl, rfl, rfl, rfl⟩

theorem State.ordersAction_fit (s : State) (c : ScreenId) (o : OrderingState) : KeepsFit s (s.ordersAction c o) := by
  unfold State.ordersAction
  split
  · exact .modSeqr s _
  · exact .setOrderingState s c o

theorem State.loopAction_fit (s : State) (c : ScreenId) (target count : Nat) :
    KeepsFit s (s.loopAction c target count).1 := by
  unfold State.loopAction
  simp only
  split
  · exact KeepsFit.modSeqr s fun q => { q with loopTargetBelow := bump16 q.loopTargetBelow }
  · split
    · split
      · exact KeepsFit.modSeq s c fun r => { r with goPending := false }
      · exact .refl s
    · split
      · exact .refl s
      · exact KeepsFit.modSeqr s fun q => { q with loopCounters := q.loopCounters.set (s.currentEntry c) _ }

theorem State.act_fit (s : State) (c : ScreenId) : KeepsFit s (s.act c).1 := by
  unfold State.act
  simp only
  split
  · split
    · exact s.changeShow_fit c _
    · exact .refl s
  · exact s.sendProj_fit c _ _
  · split
    · exact s.announce_fit _
    · exact .refl s
  · exact KeepsFit.modOutputConfig s (outputOf c) fun v => { v with gainTarget := _ }
  · split
    · exact s.admitAction_fit c _
    · exact .refl s
  · split
    · exact s.ordersAction_fit c _
    · exact .refl s
  · exact s.loopAction_fit c _ _
  · exact s.toIdle_fit c _

theorem State.beforeFiring_fit (s : State) (c : ScreenId) (t : CueTest) : KeepsFit s (s.beforeFiring c t) := by
  have taken : KeepsFit s (if t = .firesOnPending then s.modSeq c fun r => { r with goPending := false } else s) := by
    split
    · exact .modSeq s c _
    · exact .refl s
  unfold State.beforeFiring
  simp only
  split
  · exact taken.trans (.modSeqr _ _)
  · exact taken

theorem State.moveOn_fit (s : State) (c : ScreenId) (f : Flow) : KeepsFit s (s.moveOn c f) := by
  unfold State.moveOn
  simp only
  split
  · exact .refl s
  · exact .modSeq s c _
  · split
    · exact s.toIdle_fit c _
    · exact .modSeq s c _

theorem State.stepHold_fit (s : State) (c : ScreenId) : KeepsFit s (s.stepHold c) := by
  unfold State.stepHold
  split
  · exact .modSeq s c _
  · exact .refl s

theorem State.fire_fit (s : State) (c : ScreenId) (t : CueTest) : KeepsFit s (s.fire c t) :=
  (((s.beforeFiring_fit c t).trans (State.act_fit _ c)).trans (.modSeq _ c _)).trans
    ((State.moveOn_fit _ c _).trans (State.stepHold_fit _ c))

theorem State.runCues_fit (c : ScreenId) (n : Nat) (byGo : Bool) (s : State) : KeepsFit s (State.runCues c n byGo s) := by
  induction n generalizing byGo s with
  | zero => exact .refl s
  | succ n ih =>
    unfold State.runCues
    split
    · split
      · exact .refl s
      · exact (s.fire_fit c _).trans (ih _ _)
    · exact .refl s

theorem State.test_fit (s : State) (c : ScreenId) : KeepsFit s (s.test c) := State.runCues_fit c _ _ s

/-! ## The operator's commands -/

theorem State.unloadSegment_fit (s : State) (c : ScreenId) : KeepsFit s (s.unloadSegment c) := by
  unfold State.unloadSegment
  exact .modSeqr s _

theorem State.doStart_fit (s : State) (c : ScreenId) : KeepsFit s (s.doStart c).1 := by
  unfold State.doStart
  split
  · have started := (KeepsFit.modSeq s c ShowRecord.started).trans (State.unloadSegment_fit _ c)
    simp only
    split
    · exact started.trans (State.toIdle_fit _ c 0)
    · exact started.trans (State.test_fit _ c)
  · exact .refl s

theorem State.resumePlay_fit (s : State) (c : ScreenId) : KeepsFit s (s.resumePlay c) := by
  unfold State.resumePlay
  split
  · exact (s.sendProj_fit c _ _).trans (.modSeq _ c _)
  · exact .refl s

theorem State.doGo_fit (s : State) (c : ScreenId) : KeepsFit s (s.doGo c).1 := by
  unfold State.doGo
  split
  · exact .refl s
  · have running := KeepsFit.modSeq s c fun r => { r with state := .running, holdReason := none }
    exact ((running.trans (State.resumePlay_fit _ c)).trans (.modSeq _ c _)).trans (State.test_fit _ c)
  · split
    · exact State.runCues_fit c _ _ s
    · exact (KeepsFit.modSeq s c _).trans (State.test_fit _ c)

theorem State.doHold_fit (s : State) (c : ScreenId) : KeepsFit s (s.doHold c).1 := by
  unfold State.doHold
  split
  · exact .refl s
  · exact .refl s
  · exact KeepsFit.modSeq s c fun r => { r with state := .held, holdReason := some .operator }

theorem State.doAbort_fit (s : State) (c : ScreenId) : KeepsFit s (s.doAbort c).1 := by
  unfold State.doAbort
  split
  · exact .refl s
  · exact (s.toIdle_fit c _).trans (State.sendProj_fit _ c _ _)

theorem State.doRehearse_fit (s : State) (c : ScreenId) (on : Bool) : KeepsFit s (s.doRehearse c on).1 := by
  unfold State.doRehearse
  split
  · exact .refl s
  · exact KeepsFit.modSeq s c fun r => { r with rehearsal := on }

theorem keyCommand_fit {key : Nat} {command : State → ScreenId → State × Reply} (h : keyCommand key = some command)
    (s : State) (c : ScreenId) : KeepsFit s (command s c).1 := by
  unfold keyCommand at h
  split at h <;> cases h
  · exact s.doStart_fit c
  · exact s.doGo_fit c
  · exact s.doHold_fit c
  · exact s.doAbort_fit c

theorem State.takePanelKey_fit (s : State) (source screen key : Byte) : KeepsFit s (s.takePanelKey source screen key) := by
  unfold State.takePanelKey
  simp only
  split
  · next c command _ hk =>
    have acted := keyCommand_fit hk s c
    split
    · split
      · next h => rw [h] at acted; exact acted
      · next h => rw [h] at acted; exact acted.trans (.modSeqr _ _)
    · exact .modSeqr s _
  · exact .modSeqr s _

/-! ## Clocks, the sky and failures -/

theorem State.advanceClock_fit (s : State) (c : ScreenId) : KeepsFit s (s.advanceClock c) := by
  unfold State.advanceClock
  split
  · exact (KeepsFit.modSeq s c _).trans (State.test_fit _ c)
  · exact .refl s

theorem State.timebaseClock_fit (s : State) (c : ScreenId) : KeepsFit s (s.timebaseClock c) := by
  unfold State.timebaseClock
  split
  · exact s.advanceClock_fit c
  · exact .refl s

theorem State.programmeClock_fit (s : State) (c : ScreenId) : KeepsFit s (s.programmeClock c) := by
  unfold State.programmeClock
  split
  · exact (KeepsFit.modSeq s c _).trans (State.advanceClock_fit _ c)
  · exact .refl s

theorem State.countFrame_fit (s : State) (c : ScreenId) : KeepsFit s (s.countFrame c) := by
  unfold State.countFrame
  split
  · split
    · exact .modSeq s c _
    · exact s.programmeClock_fit c
  · exact .refl s

theorem State.endRest_fit (s : State) (c : ScreenId) : KeepsFit s (s.endRest c) := by
  unfold State.endRest
  split
  · exact (KeepsFit.modSeq s c _).trans (State.test_fit _ c)
  · exact .refl s

theorem State.tenMsTick_fit (s : State) (c : ScreenId) : KeepsFit s (s.tenMsTick c) := by
  unfold State.tenMsTick
  split
  · exact (s.timebaseClock_fit c).trans (State.endRest_fit _ c)
  · exact s.timebaseClock_fit c

theorem State.tensTick_fit (s : State) : KeepsFit s s.tensTick := .foldl _ State.tenMsTick_fit _ s

theorem State.takeSkyReport_fit (s : State) (lux : Half) : KeepsFit s (s.takeSkyReport lux) :=
  (KeepsFit.modSeqr s _).trans (.foldl _ State.test_fit _ _)

theorem State.skyExpires_fit (s : State) : KeepsFit s s.skyExpires := by
  unfold State.skyExpires
  split
  · exact .refl s
  · exact .modSeqr s _

theorem State.failureHold_fit (s : State) (c : ScreenId) (reason : HoldReason) : KeepsFit s (s.failureHold c reason) := by
  unfold State.failureHold
  split
  · have held := KeepsFit.modSeq s c fun r => { r with state := .held, holdReason := some reason }
    simp only
    split
    · exact held
    · split
      · exact held.trans (State.sendProj_fit _ c _ _)
      · exact (held.trans (State.sendProj_fit _ c _ _)).trans (.modSeq _ c _)
  · exact .refl s

theorem State.projReport_fit (source : Nat) (p : ProjState) (s : State) (c : ScreenId) :
    KeepsFit s (State.projReport source p s c) := by
  unfold State.projReport
  split
  · have told := KeepsFit.modSeq s c fun r => { r with projState := p }
    simp only
    split
    · exact told.trans (State.failureHold_fit _ c _)
    · exact told
  · exact .refl s

theorem State.takeProjState_fit (s : State) (source state : Byte) : KeepsFit s (s.takeProjState source state) := by
  unfold State.takeProjState
  simp only
  split
  · exact .modSeqr s _
  · split
    · exact .foldl _ (State.projReport_fit _ _) _ s
    · exact .modSeqr s _

end Sys2Proof.Machine

namespace Sys2Proof.Machine

/-! ## The Sound Path (05) -/

theorem State.unlock_fit (s : State) (c : ScreenId) : KeepsFit s (s.unlock c) := by
  unfold State.unlock
  split
  · exact (KeepsFit.modScreenSound s c _).trans (.modInput _ c _)
  · exact .refl s

theorem State.relock_fit (s : State) (c : ScreenId) : KeepsFit s (s.relock c) := by
  have locked := (KeepsFit.modScreenSound s c fun v => { v with locked := true, lost := false }).trans
    (.modInput _ c fun i => { i with lostDelay := none })
  unfold State.relock
  simp only
  split
  · exact locked.trans (State.raise_fit _ _ _ _ _)
  · exact locked

theorem State.missFrame_fit (s : State) (c : ScreenId) : KeepsFit s (s.missFrame c) :=
  (KeepsFit.modInput s c _).trans (State.unlock_fit _ c)

theorem State.malformedFrame_fit (s : State) (c : ScreenId) : KeepsFit s (s.malformedFrame c) :=
  (KeepsFit.modInput s c _).trans (State.unlock_fit _ c)

theorem State.goodFrame_fit (s : State) (c : ScreenId) (f : Frame) : KeepsFit s (s.goodFrame c f) := by
  have counted := KeepsFit.modInput s c fun i => { i with run := min (s.sound.inputs[c].run + 1) 48 }
  have put (t : State) : KeepsFit t (t.modLine c fun l => l.put f) := .modLine t c _ (DelayLine.put_wf _ f)
  unfold State.goodFrame
  simp only
  split
  · exact (counted.trans (put _)).trans (State.countFrame_fit _ c)
  · split
    · exact (counted.trans (State.relock_fit _ c)).trans (put _)
    · exact counted

theorem State.takeFrame_fit (s : State) (c : ScreenId) (left right gap : Nat) (f : Frame) :
    KeepsFit s (s.takeFrame c left right gap f) := by
  unfold State.takeFrame
  split
  · exact .modInput s c _
  · split
    · exact (s.missFrame_fit c).trans (.modInput _ c _)
    · split
      · exact s.malformedFrame_fit c
      · exact s.goodFrame_fit c f

theorem State.lostDelayExpires_fit (s : State) (c : ScreenId) : KeepsFit s (s.lostDelayExpires c) := by
  unfold State.lostDelayExpires
  split
  · exact .refl s
  · exact (((KeepsFit.modInput s c _).trans (.modScreenSound _ c _)).trans (State.raise_fit _ _ _ _ _)).trans
      (State.failureHold_fit _ c _)

theorem State.endBlock_fit (s : State) (o : OutputId) : KeepsFit s (s.endBlock o) := by
  unfold State.endBlock
  simp only
  split
  · exact .modOutput s o _
  · split
    · split
      · exact (KeepsFit.modOutput s o _).trans (State.raise_fit _ _ _ _ _)
      · exact .modOutput s o _
    · exact .modOutput s o _

theorem State.queuePeriod_fit (s : State) (o : OutputId) : KeepsFit s (s.queuePeriod o) := by
  unfold State.queuePeriod
  split
  · split
    · exact s.endEntry_fit o
    · exact .refl s
  · exact s.startEntry_fit o

theorem State.blockPeriod_fit (s : State) (o : OutputId) : KeepsFit s (s.blockPeriod o) := by
  unfold State.blockPeriod
  split
  · exact s.endBlock_fit o
  · exact .refl s

/-- R76, R77: a period leaves a delay line's frames canonical. -/
theorem State.movedLine_wf (s : State) (c : ScreenId) (h : Memory.wf zeroFrame s.sound.lines[c].frames) :
    Memory.wf zeroFrame (s.movedLine c).frames := by
  have moved (n : Nat) : Memory.wf zeroFrame
      (if s.screens[c].sound.locked then s.sound.lines[c].advance n else s.sound.lines[c].fillAndMove n).frames := by
    split
    · exact h
    · exact DelayLine.fillAndMove_wf _ n h
  exact moved _

theorem State.movePeriod_fit (s : State) : KeepsFit s s.movePeriod := by
  refine .modSound s _ fun c h => ?_
  simp only [Fin.getElem_fin, Vector.getElem_ofFn]
  exact s.movedLine_wf c h

theorem State.deliverPeriod_fit (s : State) : KeepsFit s s.deliverPeriod := .modSound s _ fun _ => id

/-- R104: the feeds advance in queues whose entries stay. -/
theorem Composer.advanceFeeds_queuesFit {a : Composer} (h : a.queuesFit) : a.advanceFeeds.queuesFit := fun o => by
  obtain ⟨size, order⟩ := h o
  simp only [AnnQueue.size] at size
  refine ⟨?_, ?_⟩
  · simpa only [Composer.advanceFeeds, AnnQueue.size, Fin.getElem_fin, Vector.getElem_ofFn, Option.isSome_map] using size
  · simpa only [Composer.advanceFeeds, Fin.getElem_fin, Vector.getElem_ofFn] using order

theorem KeepsFit.advanceFeeds (s : State) : KeepsFit s (s.modAnn Composer.advanceFeeds) :=
  .modAnn s Composer.advanceFeeds id Composer.advanceFeeds_queuesFit

theorem State.samplePeriod_fit (s : State) : KeepsFit s s.samplePeriod := by
  unfold State.samplePeriod
  have started := KeepsFit.foldl _ State.queuePeriod_fit allOutputs s
  have delivered := (started.trans (State.movePeriod_fit _)).trans (State.deliverPeriod_fit _)
  exact (delivered.trans (.advanceFeeds _)).trans (.foldl _ State.blockPeriod_fit _ _)

theorem State.txUnanswered_fit (s : State) (c : ScreenId) : KeepsFit s (s.txUnanswered c) := .modTransmitter s c _

theorem State.sendTx_fit (s : State) (c : ScreenId) (command : Nat) : KeepsFit s (s.sendTx c command) := by
  unfold State.sendTx
  simp only
  split
  · exact .modSound s _ fun _ => id
  · split
    · next h => exact State.handUrgent_fit (.of_fresh rfl) h
    · next h => exact (State.handUrgent_fit (.of_fresh rfl) h).trans (State.txUnanswered_fit _ c)

theorem State.loadSilence_fit (s : State) (c : ScreenId) : KeepsFit s (s.loadSilence c) := by
  unfold State.loadSilence
  exact .modTransmitter s c _

theorem State.cutOutput_fit (s : State) (c : ScreenId) : KeepsFit s (s.cutOutput c) :=
  ((((KeepsFit.modScreenSound s c _).trans (State.sendTx_fit _ c _)).trans (State.raise_fit _ _ _ _ _)).trans
    (State.failureHold_fit _ c _)).trans (State.stopQueue_fit _ c)

theorem State.txReport_fit (source : Nat) (carrier : Carrier) (flags : BitVec 3) (s : State) (c : ScreenId) :
    KeepsFit s (State.txReport source carrier flags s c) := by
  unfold State.txReport
  simp only
  split
  · have told := (KeepsFit.modTransmitter s c fun t => { t with carrier := carrier, sticky := t.sticky ||| flags }).trans
      (State.loadSilence_fit _ c)
    split
    · exact told.trans (State.cutOutput_fit _ c)
    · exact told
  · exact .refl s

theorem State.takeTxStatus_fit (s : State) (source carrier flags : Byte) :
    KeepsFit s (s.takeTxStatus source carrier flags) := by
  have unmatched := KeepsFit.modSound s (fun p => { p with unmatchedTx := bump16 p.unmatchedTx }) fun _ => id
  unfold State.takeTxStatus
  simp only
  split
  · exact unmatched
  · split
    · exact .foldl _ (State.txReport_fit _ _ _) _ s
    · exact unmatched

theorem State.clearFault_fit (s : State) (c : ScreenId) : KeepsFit s (s.clearFault c) := by
  have emptied := KeepsFit.modTransmitter s c fun t => { t with sticky := 0 }
  unfold State.clearFault
  simp only
  split
  · exact (emptied.trans (.modScreenSound _ c _)).trans (State.sendTx_fit _ c _)
  · exact emptied

theorem State.txSilent_fit (s : State) (c : ScreenId) : KeepsFit s (s.txSilent c) := by
  unfold State.txSilent
  split
  · exact .refl s
  · exact (KeepsFit.modTransmitter s c _).trans (State.raise_fit _ _ _ _ _)

/-! ## Warm restart and counters (R160, R161) -/

/-- A reloaded lane's pending admission names what it named. -/
theorem Lane.reloadTimers_names (n : Lane) (c : ScreenId) :
    n.reloadTimers.names c = n.names c ∧ n.reloadTimers.namesTall c = n.namesTall c := by
  cases h : n.pending with
  | none => simp only [Lane.names, Lane.namesTall, Lane.reloadTimers, h, Option.map_none, and_self]
  | some p => simp only [Lane.names, Lane.namesTall, Lane.reloadTimers, h, Option.map_some, and_self]

/-- R48, R76, R113: the blocks restarted: queue, tracker and delay lines are empty, and every lane is counted as before. -/
theorem State.blocksRestarted_fit (s : State) : KeepsFit s s.blocksRestarted where
  fits hs :=
    { hs with
      stores := ⟨hs.stores.1, fun c => by rw [s.blocksRestarted_line c]; exact ⟨.nil, nofun⟩⟩
      queue := Nat.zero_le _
      tracker := ⟨Nat.zero_le _, .nil⟩
      tags := nofun
      pending := hs.pending.of_same
        (fun l c => by rw [s.blocksRestarted_lane l]; exact (Lane.reloadTimers_names _ c).1)
        (fun l c => by rw [s.blocksRestarted_lane l]; exact (Lane.reloadTimers_names _ c).2)
        fun c => by rw [s.blocksRestarted_screen c]; exact ⟨rfl, rfl⟩
      counts := fun c => by rw [s.blocksRestarted_screen c]; exact hs.counts c }

theorem State.warmRestart_fit (s : State) : KeepsFit s s.warmRestart :=
  s.blocksRestarted_fit.trans (State.emptyQueues_announced _).keepsFit

theorem State.clearCounters_fit (s : State) : KeepsFit s s.clearCounters where
  fits hs := by
    have screen (c : ScreenId) :
        s.clearCounters.screens[c] = { s.screens[c] with field := s.screens[c].field.clearCounters } := by
      simp [State.clearCounters]
    exact
      { hs with
        pending := hs.pending.of_same (fun _ _ => rfl) (fun _ _ => rfl) fun c => by rw [screen c]; exact ⟨rfl, rfl⟩
        counts := fun c => by rw [screen c]; exact hs.counts c }

/-! ## Writable tables (09 section 9.3) -/

theorem State.writeSite_fit (s : State) (i : Nat) (e : List Byte) : KeepsFit s (s.writeSite i e).1 := by
  unfold State.writeSite
  split
  · exact .refl s
  · split
    · exact .refl s
    · exact KeepsFit.modMgmt s fun m => { m with site := _ }

theorem State.applyScreen_fit (s : State) (c : ScreenId) (g : ScreenConfig) : KeepsFit s (s.applyScreen c g) := by
  have stored := KeepsFit.modScreen s c (fun v => { v with config := g }) ⟨rfl, rfl, rfl, rfl⟩
  have near (t : State) (old : ScreenConfig) : KeepsFit t (t.rejudgeNear c old g) := by
    unfold State.rejudgeNear
    split
    · exact .modField t c _ ⟨rfl, rfl, rfl, rfl⟩
    · split
      · exact .refl t
      · exact t.judgeNearFull_fit c
  have full (t : State) (old : ScreenConfig) : KeepsFit t (t.rejudgeFull c old g) := by
    unfold State.rejudgeFull
    split
    · exact .refl t
    · exact t.judgeFull_fit c
  unfold State.applyScreen
  simp only
  split
  · exact ((stored.trans (near _ _)).trans (full _ _)).trans (State.releaseHeld_fit _ c)
  · exact (stored.trans (near _ _)).trans (full _ _)

theorem State.writeScreen_fit (s : State) (i : Nat) (e : List Byte) : KeepsFit s (s.writeScreen i e).1 := by
  unfold State.writeScreen
  split
  · exact .refl s
  · split
    · exact .refl s
    · split
      · exact .refl s
      · exact s.applyScreen_fit _ _

theorem State.writeSegment_fit (s : State) (i : Nat) (e : List Byte) : KeepsFit s (s.writeSegment i e).1 := by
  unfold State.writeSegment
  split
  · exact .refl s
  · next c _ =>
    simp only
    split
    · exact .refl s
    · split
      · exact .refl s
      · split
        · exact .refl s
        · exact KeepsFit.modSeq s c fun r => { r with segBase := byteAt e 0, segLimit := halfAt e 1 }

theorem State.writeCue_fit (s : State) (i : Nat) (e : List Byte) : KeepsFit s (s.writeCue i e).1 := by
  unfold State.writeCue
  split
  · exact .refl s
  · split
    · exact .refl s
    · split
      · exact .refl s
      · dsimp only
        exact .modSeqr s _

theorem State.writeOutput_fit (s : State) (i : Nat) (e : List Byte) : KeepsFit s (s.writeOutput i e).1 := by
  unfold State.writeOutput
  split
  · exact .refl s
  · next o _ =>
    split
    · exact .refl s
    · next g _ =>
      have written := KeepsFit.modOutputConfig s o fun _ => g
      simp only
      split
      · exact written.trans (State.loadSilence_fit _ _)
      · exact written

theorem State.writeClip_fit (s : State) (i : Nat) (e : List Byte) : KeepsFit s (s.writeClip i e).1 := by
  unfold State.writeClip
  split
  · exact .refl s
  · simp only
    split
    · exact .refl s
    · split
      · exact .refl s
      · split
        · exact .refl s
        · dsimp only
          exact (KeepsFit.modClip s _ _).trans (.modAnn _ _ id id)

theorem State.writePhrase_fit (s : State) (i : Nat) (e : List Byte) : KeepsFit s (s.writePhrase i e).1 := by
  unfold State.writePhrase
  split
  · exact .refl s
  · split
    · exact .refl s
    · exact KeepsFit.modAnn s (fun a => { a with phrases := _ }) id id

theorem State.writeEvent_fit (s : State) (i : Nat) (e : List Byte) : KeepsFit s (s.writeEvent i e).1 := by
  unfold State.writeEvent
  split
  · exact .refl s
  · split
    · exact .refl s
    · exact (KeepsFit.modAnn s _ id id).trans (.draw _)

theorem State.writeLane_fit (s : State) (i : Nat) (e : List Byte) : KeepsFit s (s.writeLane i e).1 := by
  unfold State.writeLane
  split
  · exact .refl s
  · split
    · exact .refl s
    · split
      · exact .refl s
      · split
        · exact .refl s
        · dsimp only
          exact .modLane_same s _ _ rfl

theorem State.writeMenu_fit (s : State) (i : Nat) (e : List Byte) : KeepsFit s (s.writeMenu i e).1 := by
  unfold State.writeMenu
  split
  · exact .refl s
  · split
    · exact .refl s
    · exact (KeepsFit.modRouter s _).trans (.draw _)

theorem State.writeStation_fit (s : State) (i : Nat) (e : List Byte) : KeepsFit s (s.writeStation i e).1 := by
  unfold State.writeStation
  split
  · exact .refl s
  · next k _ =>
    simp only
    split
    · exact .refl s
    · split
      · exact .refl s
      · split
        · exact .refl s
        · have written := KeepsFit.modKitchen s k fun v => v.configured (byteAt e 0) (clampTo 1 16 (byteAt e 1))
            (clampTo 1 30 (byteAt e 2))
          split
          · exact written.trans (State.dispatch_fit _ k)
          · exact written

theorem State.writeTap_fit (s : State) (i : Nat) (e : List Byte) : KeepsFit s (s.writeTap i e).1 := by
  have drawn (t : State) : KeepsFit t t.draw.draw.draw := ((KeepsFit.draw t).trans (.draw _)).trans (.draw _)
  unfold State.writeTap
  split
  · exact .refl s
  · split
    · exact drawn s
    · exact (KeepsFit.modCell_same s _ rfl rfl rfl).trans (drawn _)

theorem State.writeTable_fit (s : State) (t : Table) (i : Nat) (e : List Byte) : KeepsFit s (s.writeTable t i e).1 := by
  cases t with
  | site => exact s.writeSite_fit i e
  | screen => exact s.writeScreen_fit i e
  | segment => exact s.writeSegment_fit i e
  | cue => exact s.writeCue_fit i e
  | output => exact s.writeOutput_fit i e
  | clip => exact s.writeClip_fit i e
  | phrase => exact s.writePhrase_fit i e
  | event => exact s.writeEvent_fit i e
  | lane => exact s.writeLane_fit i e
  | menu => exact s.writeMenu_fit i e
  | station => exact s.writeStation_fit i e
  | tap => exact s.writeTap_fit i e
  | screenStatus | outputStatus | laneStatus | order | stationStatus | portStatus | counters => exact .refl s

theorem State.readTable_fit (s : State) (t : Table) (i : Nat) : KeepsFit s (s.readTable t i).state := by
  cases t with
  | outputStatus =>
    simp only [State.readTable, State.readOutputStatus]
    split
    · exact .refl s
    · exact KeepsFit.modOutput s _ fun v => { v with clipped := false }
  | order =>
    simp only [State.readTable, State.readOrder]
    split <;> exact .refl s
  | site | screen | segment | cue | output | clip | phrase | event | lane | menu | station | tap | screenStatus
  | laneStatus | stationStatus | portStatus | counters =>
    simp only [State.readTable, ReadOut.indexed_state]
    exact .refl s

end Sys2Proof.Machine

namespace Sys2Proof.Machine

/-! ## Management cells (09) -/

theorem State.screenCommand_fit (s : State) (screen : Byte) (f : State → ScreenId → Written)
    (h : ∀ s c, KeepsFit s (f s c).1) : KeepsFit s (s.screenCommand screen f).1 := by
  unfold State.screenCommand
  split
  · exact .refl s
  · exact h s _

theorem State.doClipSeal_fit (s : State) (clip : Byte) : KeepsFit s (s.doClipSeal clip).1 := by
  unfold State.doClipSeal
  split
  · exact .refl s
  · next k _ =>
    split
    · exact KeepsFit.modClip s k fun c => { c with state := .ready }
    · exact .refl s

theorem State.doClipDelete_fit (s : State) (clip : Byte) : KeepsFit s (s.doClipDelete clip).1 := by
  unfold State.doClipDelete
  split
  · exact .refl s
  · next k _ =>
    split
    · exact .refl s
    · exact (KeepsFit.modClip s k fun c => { c with state := .empty }).trans
        (.modAnn _ (fun a => { a with fillOrder := a.fillOrder.filter (· != k) }) id id)

theorem State.doAnnounce_fit (s : State) (phrase mask priority mode : Byte) (n : Half) :
    KeepsFit s (s.doAnnounce phrase mask priority mode n).1 := by
  unfold State.doAnnounce
  split
  · split
    · exact .refl s
    · exact s.announce_fit _
  · exact .refl s

/-- R128: SET_COUNT sets O within 4095 and Ot within O. -/
theorem State.doSetCount_fit (s : State) (screen : Byte) (count tall : Half) :
    KeepsFit s (s.doSetCount screen count tall).1 := by
  refine s.screenCommand_fit screen _ fun t c => ?_
  have o := clampTo_range 0 4095 count.toNat (by decide)
  exact (KeepsFit.modOccupancy t c _ rfl rfl fun _ => ⟨o.2, (clampTo_range 0 _ tall.toNat o.1).2⟩).trans
    (State.judgeFlags_fit _ c)

theorem State.doSetAdmission_fit (s : State) (screen state : Byte) : KeepsFit s (s.doSetAdmission screen state).1 := by
  unfold State.doSetAdmission
  split
  · exact .refl s
  · next a _ =>
    refine s.screenCommand_fit screen _ fun t c => ?_
    split
    · exact .refl t
    · exact KeepsFit.modField t c (fun f => { f with admission := a }) ⟨rfl, rfl, rfl, rfl⟩

theorem State.doSetOrdering_fit (s : State) (screen state : Byte) : KeepsFit s (s.doSetOrdering screen state).1 := by
  unfold State.doSetOrdering
  split
  · exact .refl s
  · next o _ =>
    refine s.screenCommand_fit screen _ fun t c => ?_
    split
    · exact .refl t
    · exact KeepsFit.setOrderingState t c o

theorem State.doClearFault_fit (s : State) (output : Byte) : KeepsFit s (s.doClearFault output).1 := by
  unfold State.doClearFault
  split
  · exact .refl s
  · exact s.clearFault_fit _

theorem State.doRehearseSetting_fit (s : State) (screen setting : Byte) :
    KeepsFit s (s.doRehearseSetting screen setting).1 := by
  unfold State.doRehearseSetting
  split
  · exact .refl s
  · exact s.screenCommand_fit screen _ fun t c => t.doRehearse_fit c _

theorem State.obey_fit (s : State) (c : Command) : KeepsFit s (s.obey c).1 := by
  cases c with
  | start screen => exact s.screenCommand_fit screen _ State.doStart_fit
  | go screen => exact s.screenCommand_fit screen _ State.doGo_fit
  | hold screen => exact s.screenCommand_fit screen _ State.doHold_fit
  | abort screen => exact s.screenCommand_fit screen _ State.doAbort_fit
  | rehearse screen setting => exact s.doRehearseSetting_fit screen setting
  | clipSeal clip => exact s.doClipSeal_fit clip
  | clipDelete clip => exact s.doClipDelete_fit clip
  | announce phrase mask priority mode number => exact s.doAnnounce_fit phrase mask priority mode number
  | setCount screen count tall => exact s.doSetCount_fit screen count tall
  | setAdmission screen state => exact s.doSetAdmission_fit screen state
  | setOrdering screen state => exact s.doSetOrdering_fit screen state
  | cancelOrder number => exact s.doCancel_fit number
  | clearFault output => exact s.doClearFault_fit output
  | clearCounters => exact s.clearCounters_fit
  | restartWarm => exact KeepsFit.modMgmt s fun m => { m with restart := true }

/-- R93, R96: a run of samples leaves clip memory canonical. -/
theorem State.writeClipData_fit (s : State) (clip : Byte) (offset : Nat) (run : List Sample16) :
    KeepsFit s (s.writeClipData clip offset run).1 := by
  unfold State.writeClipData
  split
  · exact .refl s
  · simp only
    split
    · exact .refl s
    · split
      · exact .refl s
      · exact .refl s
      · exact .refl s
      · split
        · exact .refl s
        · exact KeepsFit.modAnn s (fun a => { a with memory := clipWriteRun a.memory _ run })
            (clipWriteRun_wf run _ _) id

/-- R93, R95: a cleared region leaves clip memory canonical. -/
theorem State.completeFill_fit (s : State) : KeepsFit s s.completeFill := by
  unfold State.completeFill
  split
  · exact .refl s
  · exact (KeepsFit.modClip s _ _).trans (.modAnn _ _ (fun h => memClear_wf 0 _ h _ _) id)

theorem State.reply_fit (s : State) (m : Sender) (e : Echo) (r : ReadOut) (ends : Bool) :
    KeepsFit r.state (s.reply m e r ends).1 := by
  have handed := KeepsFit.modMgmt r.state fun m => m.countAnswer r.code
  have fits : (replyCell s.freeCount m e r.code r.data ends).tagFits := .of_untracked rfl
  exact (handed.trans ((State.handUrgent_kept _ _).keepsFit (State.handUrgent_tags _ fits))).trans (.draw _)

theorem KeepsFit.of_reply {s t : State} {m : Sender} {e : Echo} {r : ReadOut} {ends : Bool} {a : HandOver}
    (h : s.reply m e r ends = (t, a)) : KeepsFit r.state t := by
  have replied := s.reply_fit m e r ends
  rwa [h] at replied

theorem State.countTaken_fit (s : State) : KeepsFit s s.countTaken := .modMgmt s _

theorem State.takeMgmt_fit (s : State) (m : Sender) (e : Echo) (check : Option Reply) (owner : State → ReadOut)
    (h : ∀ t, KeepsFit t (owner t).state) : KeepsFit s (s.takeMgmt m e check owner) := by
  unfold State.takeMgmt
  simp only
  split
  · exact s.countTaken_fit.trans (State.reply_fit _ m e (.refused _ _) false)
  · exact (s.countTaken_fit.trans (h _)).trans (State.reply_fit _ m e _ false)

theorem State.writeCode_fit (table : Byte) (i : Half) (e : List Byte) (s : State) :
    KeepsFit s (State.writeCode table i e s).state := by
  unfold State.writeCode
  split
  · exact .refl s
  · exact s.writeTable_fit _ _ _

theorem State.readCode_fit (table : Byte) (i : Half) (s : State) : KeepsFit s (State.readCode table i s).state := by
  unfold State.readCode
  split
  · exact .refl s
  · exact s.readTable_fit _ _

theorem State.takeWrite_fit (s : State) (m : Sender) (table : Byte) (i : Half) (e : List Byte) :
    KeepsFit s (s.takeWrite m table i e) := s.takeMgmt_fit m _ _ _ (State.writeCode_fit table i e)

theorem State.takeRead_fit (s : State) (m : Sender) (table : Byte) (i : Half) (n : Nat) :
    KeepsFit s (s.takeRead m table i n) := s.takeMgmt_fit m _ _ _ (State.readCode_fit table i)

theorem State.takeRestart_fit (s : State) (m : Sender) (e : Echo) : KeepsFit s (s.takeRestart m e) := by
  have counted := s.countTaken_fit
  unfold State.takeRestart
  simp only
  split
  · exact counted.trans (State.reply_fit _ m e (.refused _ _) false)
  · have obeyed := counted.trans (State.obey_fit _ .restartWarm)
    split
    · next h => exact obeyed.trans (KeepsFit.of_reply h)
    · next h => exact (obeyed.trans (KeepsFit.of_reply h)).trans (State.warmRestart_fit _)

theorem State.takeCommand_fit (s : State) (m : Sender) (c : Command) : KeepsFit s (s.takeCommand m c) := by
  unfold State.takeCommand
  simp only
  split
  · exact s.takeRestart_fit m _
  · exact s.takeMgmt_fit m _ _ _ fun t => t.obey_fit c

theorem State.takeCommandCell_fit (s : State) (m : Sender) (p : List Byte) : KeepsFit s (s.takeCommandCell m p) := by
  unfold State.takeCommandCell
  split
  · exact s.takeMgmt_fit m _ _ _ .refl
  · split
    · exact s.takeCommand_fit m _
    · exact s.takeMgmt_fit m _ _ _ .refl

theorem State.takeClipData_fit (s : State) (m : Sender) (clip : Byte) (offset : BitVec 24) (run : List Sample16)
    (fits : Bool) : KeepsFit s (s.takeClipData m clip offset run fits) :=
  s.takeMgmt_fit m _ _ _ fun t => t.writeClipData_fit clip _ run

/-! ## Delivery and returns (R29, R45 to R47) -/

theorem State.actOn_fit (s : State) (k : TakenKind) (c : Cell) : KeepsFit s (s.actOn k c) := by
  unfold State.actOn
  cases k with
  | mgmtWrite => exact s.takeWrite_fit _ _ _ _
  | mgmtRead => exact s.takeRead_fit _ _ _ _
  | mgmtCommand => exact s.takeCommandCell_fit _ _
  | clipData => exact s.takeClipData_fit _ _ _ _ _
  | admitAsk => exact s.takeAdmitAsk_fit _ _ _
  | passage => exact s.takePassage_fit _ _ _
  | laneBeat => exact .refl s
  | orderPlace => exact s.takeOrderPlace_fit _ _ _
  | bump => exact s.takeBump_fit _ _ _
  | stationBeat => exact .refl s
  | pickup => exact s.takePickup_fit _ _
  | panelKey => exact s.takePanelKey_fit _ _ _
  | projState => exact s.takeProjState_fit _ _
  | skyReport => exact s.takeSkyReport_fit _
  | txStatus => exact s.takeTxStatus_fit _ _ _

theorem State.deliver_fit (s : State) (k : TakenKind) (c : Cell) : KeepsFit s (s.deliver k c) :=
  (s.cellSeen_fit _).trans (State.actOn_fit _ k c)

theorem State.take_fit (s : State) (c : Cell) (t : Taking) : KeepsFit s (s.take c t) := by
  cases t with
  | delivered k => exact s.deliver_fit k c
  | malformed => exact KeepsFit.modLoop s fun l => { l with malformed := bump16 l.malformed }
  | unconsumed => exact KeepsFit.modLoop s fun l => { l with unconsumed := bump16 l.unconsumed }
  | left => exact .refl s

theorem State.outcome_fit (s : State) (e : TrackEntry) (d : Bool) : KeepsFit s (s.outcome e d) := by
  unfold State.outcome
  split
  · exact s.ticketOutcome_fit _ _ _
  · split
    · exact .refl s
    · exact .modRouter s _
  · split
    · exact .refl s
    · exact s.projUnanswered_fit _
  · split
    · exact .refl s
    · exact s.txUnanswered_fit _
  · exact .refl s

/-- R43: entries that leave the tracker leave no two with one tag. -/
theorem CellProcessor.trackerFits.sublist {c d : CellProcessor} (h : c.trackerFits) (sub : d.tracker.Sublist c.tracker) :
    d.trackerFits := ⟨sub.length_le.trans h.1, h.2.sublist sub⟩

/-- The tracker of a Cell Processor shrinks, its queue stays. -/
theorem KeepsFit.shrinkTracker (s : State) (f : CellProcessor → CellProcessor)
    (urgent : (f s.cell).urgent = s.cell.urgent) (normal : (f s.cell).normal = s.cell.normal)
    (tracker : (f s.cell).tracker.Sublist s.cell.tracker) : KeepsFit s (s.modCell f) := by
  refine .modCell s f ?_ (fun h => h.sublist tracker) ?_
  · rw [CellProcessor.queued, urgent, normal]; exact le_rfl
  · rw [urgent, normal]; exact fun _ => id

theorem CellProcessor.countReturn_queue (c : CellProcessor) (e : TrackEntry) (cell : Cell) :
    (c.countReturn e cell).urgent = c.urgent ∧ (c.countReturn e cell).normal = c.normal ∧
      (c.countReturn e cell).tracker = c.tracker := by
  unfold CellProcessor.countReturn
  split <;> exact ⟨rfl, rfl, rfl⟩

theorem State.settle_fit (s : State) (c : Cell) : KeepsFit s (s.settle c) := by
  unfold State.settle
  split
  · exact .modCell_same s _ rfl rfl rfl
  · next e _ =>
    obtain ⟨urgent, normal, tracker⟩ := (s.cell.untrack e.tag).countReturn_queue e c
    exact (KeepsFit.shrinkTracker s _ urgent normal (tracker ▸ List.filter_sublist)).trans (State.outcome_fit _ _ _)

theorem State.returnExpires_fit (s : State) (tag : Half) : KeepsFit s (s.returnExpires tag) := by
  unfold State.returnExpires
  split
  · exact .refl s
  · exact (KeepsFit.shrinkTracker s _ rfl rfl List.filter_sublist).trans (State.outcome_fit _ _ _)

/-! ## Loop ports (02) -/

theorem State.cutSending_fit (s : State) : KeepsFit s s.cutSending := by
  unfold State.cutSending
  split
  · exact .modCell_same s _ rfl rfl rfl
  · exact (KeepsFit.modCell_same s _ rfl rfl rfl).trans (.modLoop _ _)
  · exact .modCell_same s _ rfl rfl rfl
  · exact .refl s
  · exact .refl s
  · exact .refl s

theorem State.cutArriving_fit (s : State) : KeepsFit s s.cutArriving := by
  have ended := KeepsFit.modLoop s fun l => { l with arriving := none }
  unfold State.cutArriving
  simp only
  split
  · split
    · exact ended.trans (.modCell_same _ _ rfl rfl rfl)
    · exact ended
  · exact ended

theorem State.cutCells_fit (s : State) (p : PortId) : KeepsFit s (s.cutCells p) := by
  cases p
  · exact s.cutArriving_fit
  · simp only [State.cutCells]
    split
    · exact s.cutSending_fit
    · exact .refl s

theorem State.leaveLink_fit (s : State) (p : PortId) (new : LinkState) : KeepsFit s (s.leaveLink p new) :=
  ((s.cutCells_fit p).trans (.modPort _ p _)).trans (State.raise_fit _ _ _ _ _)

theorem State.dropLink_fit (s : State) (p : PortId) : KeepsFit s (s.dropLink p) :=
  (s.leaveLink_fit p _).trans (.modPort _ p _)

theorem State.lineError_fit (s : State) (p : PortId) : KeepsFit s (s.lineError p) := by
  have erred := KeepsFit.modPort s p Port.erred
  rcases s.lineError_cases p with h | ⟨-, h | h⟩ <;> rw [h]
  · exact .refl s
  · exact erred
  · exact erred.trans (State.dropLink_fit _ p)

theorem State.arrivingError_fit (s : State) (p : PortId) : KeepsFit s (s.arrivingError p) := by
  rcases s.arrivingError_cases p with h | h <;> rw [h]
  · exact .refl s
  · exact s.lineError_fit p

theorem State.lossOfSignal_fit (s : State) (p : PortId) : KeepsFit s (s.lossOfSignal p) := by
  unfold State.lossOfSignal
  split
  · exact .refl s
  · simp only
    split
    · exact s.arrivingError_fit p
    · exact (s.arrivingError_fit p).trans (State.leaveLink_fit _ p _)

theorem State.gapErrorA_fit (s : State) : KeepsFit s s.gapErrorA := by
  unfold State.gapErrorA
  split
  · exact .refl s
  · exact (KeepsFit.modLoop s _).trans (State.lineError_fit _ .a)

theorem State.runErrorB_fit (s : State) : KeepsFit s s.runErrorB := by
  unfold State.runErrorB
  split
  · exact .refl s
  · exact (KeepsFit.modLoop s _).trans (State.lineError_fit _ .b)

theorem State.windowEnds_fit (s : State) : KeepsFit s s.windowEnds := (KeepsFit.modPort s .a _).trans (.modPort _ .b _)

theorem State.quietEnds_fit (s : State) (p : PortId) : KeepsFit s (s.quietEnds p) := by
  unfold State.quietEnds
  split
  · exact .modPort s p _
  · exact .refl s

theorem State.heard_fit (s : State) (p : PortId) : KeepsFit s (s.heard p) := .modPort s p _

theorem State.framing_fit (s : State) : KeepsFit s s.framing := by
  unfold State.framing
  split
  · exact s.cutArriving_fit.trans (State.lineError_fit _ .a)
  · exact .refl s

theorem State.symbolIn_fit (s : State) (p : PortId) : KeepsFit s (s.symbolIn p) := by
  cases p
  · exact (s.heard_fit .a).trans (State.framing_fit _)
  · exact (s.heard_fit .b).trans (.modLoop _ fun l => { l with errorRunB := false })

theorem State.hail_fit (s : State) (p : PortId) : KeepsFit s (s.hail p) := by
  unfold State.hail
  split
  · exact .modPort s p _
  · exact .modPort s p _
  · exact .modPort s p _
  · exact s.leaveLink_fit p _

theorem State.hailAck_fit (s : State) (p : PortId) : KeepsFit s (s.hailAck p) := by
  unfold State.hailAck
  split
  · exact .modPort s p _
  · exact .modPort s p _
  · exact .modPort s p _
  · exact .refl s

theorem State.idle_fit (s : State) (p : PortId) : KeepsFit s (s.idle p) := by
  unfold State.idle
  split
  · exact .modPort s p _
  · exact .modPort s p _
  · exact .refl s
  · exact .refl s

theorem State.maintenance_fit (s : State) (p : PortId) (row : State → PortId → State)
    (h : ∀ t, KeepsFit t (row t p)) : KeepsFit s (s.maintenance p row) := by
  unfold State.maintenance
  split
  · simp only
    split
    · exact (s.symbolIn_fit p).trans (h _)
    · exact s.symbolIn_fit p
  · exact .refl s

theorem State.strayData_fit (s : State) : KeepsFit s s.strayData := by
  unfold State.strayData
  split
  · simp only
    split
    · exact (s.heard_fit .a).trans (.modPort _ .a _)
    · exact (s.heard_fit .a).trans (State.gapErrorA_fit _)
  · exact .refl s

/-! ## Cells at port A (R24 to R29) -/

theorem State.judgeHeader_fit (s : State) (v : Arriving) : KeepsFit s (s.judgeHeader v) := by
  have counted (w : Verdict) (tap : Option (Fin 32)) : KeepsFit s (s.countVerdict w tap) := by
    unfold State.countVerdict
    split
    · exact .modLoop s _
    · exact .modLoop s _
    · exact .modCell_same s _ rfl rfl rfl
    · exact .refl s
    · exact .refl s
    · exact .refl s
  unfold State.judgeHeader
  exact (counted _ _).trans (.modLoop _ _)

theorem State.countClass_fit (s : State) (k : CheckClass) : KeepsFit s (s.countClass k) := by
  cases k with
  | good => exact .refl s
  | damagedUpstream => exact KeepsFit.modLoop s fun l => { l with damagedUpstream := bump16 l.damagedUpstream }
  | damagedHere => exact s.lineError_fit .a

/-- R25: a cell passed on leaves the part's own cells as they are. -/
theorem CellProcessor.passOn_queue (c : CellProcessor) (place : Place) (out : List Byte) :
    (c.passOn place out).urgent = c.urgent ∧ (c.passOn place out).normal = c.normal ∧
      (c.passOn place out).tracker = c.tracker := by
  unfold CellProcessor.passOn
  split <;> exact ⟨rfl, rfl, rfl⟩

theorem State.finishForward_fit (s : State) (v : Arriving) (k : CheckClass) (copied : Bool) :
    KeepsFit s (s.finishForward v k copied) := by
  have passed (out : List Byte) : KeepsFit s (s.modCell fun p => p.passOn v.place out) := by
    obtain ⟨urgent, normal, tracker⟩ := s.cell.passOn_queue v.place out
    exact .modCell_same s _ urgent normal tracker
  unfold State.finishForward
  simp only
  split
  · exact (passed _).trans (State.take_fit _ _ _)
  · exact (passed _).trans (State.countClass_fit _ k)

theorem State.finishCell_fit (s : State) (v : Arriving) : KeepsFit s (s.finishCell v) := by
  have ended := KeepsFit.modLoop s fun l => { l with arriving := none }
  unfold State.finishCell
  simp only
  split
  · split
    · exact ended.trans (State.settle_fit _ _)
    · exact ended.trans (State.countClass_fit _ _)
  · exact ended.trans (State.finishForward_fit _ _ _ _)
  · exact ended.trans (State.finishForward_fit _ _ _ _)
  · exact ended.trans (State.countClass_fit _ _)

theorem State.feed_fit (s : State) (x : Sym) : KeepsFit s (s.feed x) := by
  unfold State.feed
  split
  · exact .refl s
  · simp only
    split
    · exact s.judgeHeader_fit _
    · split
      · exact s.finishCell_fit _
      · exact .modLoop s _

theorem State.dataIn_fit (s : State) (x : Sym) : KeepsFit s (s.dataIn x) := by
  unfold State.dataIn
  split
  · split
    · exact (s.heard_fit .a).trans (State.feed_fit _ x)
    · split
      · exact s.strayData_fit
      · exact (s.heard_fit .a).trans (State.gapErrorA_fit _)
  · exact .refl s

theorem State.symbolError_fit (s : State) (p : PortId) : KeepsFit s (s.symbolError p) := by
  cases p
  · exact s.dataIn_fit none
  · simp only [State.symbolError]
    split
    · exact (s.heard_fit .b).trans (State.runErrorB_fit _)
    · exact .refl s

end Sys2Proof.Machine

namespace Sys2Proof.Machine

/-! ## Turns of port B: tags and tracker entries (R42 to R44) -/

/-- An entry of a tracker holds a tag. -/
def holdsTag (tracker : List TrackEntry) (t : Half) : Bool := tracker.any fun e => e.tag == t

theorem holdsTag_eq_false {tracker : List TrackEntry} {t : Half} : holdsTag tracker t = false ↔ ∀ e ∈ tracker, e.tag ≠ t := by
  simp [holdsTag]

theorem freeTag_of_free {tracker : List TrackEntry} {t : Half} (h : holdsTag tracker t = false) (fuel : Nat) :
    freeTag tracker (fuel + 1) t = t := by
  rw [holdsTag] at h
  simp only [freeTag, h, Bool.false_eq_true, if_false]

theorem freeTag_of_held {tracker : List TrackEntry} {t : Half} (h : holdsTag tracker t = true) (fuel : Nat) :
    freeTag tracker (fuel + 1) t = freeTag tracker fuel (t + 1) := by
  rw [holdsTag] at h
  simp only [freeTag, h, if_true]

/-- R43: where the tag found is held after all, so are all those from the counter's value on that were tried. -/
theorem holdsTag_of_freeTag (tracker : List TrackEntry) (fuel : Nat) (t : Half)
    (h : holdsTag tracker (freeTag tracker fuel t) = true) (i : Nat) (hi : i < fuel) :
    holdsTag tracker (t + BitVec.ofNat 16 i) = true := by
  induction fuel generalizing t i with
  | zero => exact absurd hi (Nat.not_lt_zero i)
  | succ fuel ih =>
    cases held : holdsTag tracker t with
    | false =>
      rw [freeTag_of_free held, held] at h
      cases h
    | true =>
      rw [freeTag_of_held held] at h
      cases i with
      | zero => simpa using held
      | succ i =>
        have next := ih (t + 1) h i (Nat.lt_of_succ_lt_succ hi)
        have same : t + 1 + BitVec.ofNat 16 i = t + BitVec.ofNat 16 (i + 1) := by
          rw [Nat.add_comm i 1, BitVec.ofNat_add, BitVec.add_assoc]
          rfl
        exact same ▸ next

/-- R43: a tracker with room holds fewer tags than are tried, so the tag found is free. -/
theorem freeTag_free {tracker : List TrackEntry} (room : tracker.length < 32) (t : Half) :
    holdsTag tracker (freeTag tracker 33 t) = false := by
  by_contra held
  rw [Bool.not_eq_false] at held
  let tried : List Half := (List.range 33).map fun i => t + BitVec.ofNat 16 i
  have distinct : tried.Nodup := by
    refine List.Nodup.map_on (fun i hi j hj e => ?_) List.nodup_range
    rw [List.mem_range] at hi hj
    have same := congrArg BitVec.toNat (add_left_cancel e)
    simp only [BitVec.toNat_ofNat] at same
    omega
  have among : tried ⊆ tracker.map (·.tag) := fun x hx => by
    obtain ⟨i, hi, rfl⟩ := List.mem_map.1 hx
    have h := holdsTag_of_freeTag tracker 33 t held i (List.mem_range.1 hi)
    simpa [holdsTag] using h
  have few := (distinct.subperm among).length_le
  simp only [tried, List.length_map, List.length_range] at few
  omega

/-- R43, R44: an own cell whose turn has come takes a free entry of the tracker, with a tag that no other holds. -/
theorem CellProcessor.track_fits {c : CellProcessor} {o : OwnCell} (h : c.trackerFits) (tag : o.tagFits)
    (room : o.kind.tracked.isSome → c.tracker.length < 32) : (c.track o).trackerFits := by
  cases kind : o.kind.tracked with
  | none =>
    simp only [CellProcessor.track, kind]
    split <;> exact h
  | some owner =>
    have tracked : o.kind.tracked.isSome := by rw [kind]; rfl
    have fresh : c.tagFor o = freeTag c.tracker 33 c.tagCounter := by simp only [CellProcessor.tagFor, tag tracked]
    have free := holdsTag_eq_false.1 (freeTag_free (room tracked) c.tagCounter)
    simp only [CellProcessor.track, kind, tag tracked, fresh]
    refine ⟨?_, List.pairwise_append.2 ⟨h.2, List.pairwise_singleton _ _, fun e he f hf => ?_⟩⟩
    · simpa using room tracked
    · cases List.mem_singleton.1 hf
      exact free e he

theorem CellProcessor.track_queue (c : CellProcessor) (o : OwnCell) :
    (c.track o).urgent = c.urgent ∧ (c.track o).normal = c.normal := by
  unfold CellProcessor.track
  simp only
  split <;> split <;> exact ⟨rfl, rfl⟩

/-- R39, R42 to R44, R48: the turn of an own cell. -/
theorem State.sendOwn_fit (s : State) (o : OwnCell) (tag : o.tagFits)
    (room : o.kind.tracked.isSome → s.cell.tracker.length < 32) : KeepsFit s (s.sendOwn o) := by
  obtain ⟨urgent, normal⟩ := s.cell.track_queue o
  have tracked : KeepsFit s (s.modCell fun c => c.track o) := by
    refine .modCell s _ ?_ (fun h => CellProcessor.track_fits h tag room) ?_
    · rw [CellProcessor.queued, urgent, normal]; exact le_rfl
    · rw [urgent, normal]; exact fun _ => id
  have gone : KeepsFit s (if s.loop.portB.state = .up then
      (s.modCell fun c => c.track o).modCell fun c =>
        { c with sending := .own (ownBytes s.station.toNat (s.cell.tagFor o) o) }
      else (s.modCell fun c => c.track o).modCell fun c =>
        { c with sending := .discardedOwn, ownDiscarded := bump16 c.ownDiscarded }) := by
    split <;> exact tracked.trans (.modCell_same _ _ rfl rfl rfl)
  unfold State.sendOwn
  simp only
  split
  · exact gone.trans (State.warmRestart_fit _)
  · exact gone

/-- R42: the entry picked and those left are the entries of the class, and a tracked one is picked only with a free
tracker entry. -/
theorem pickEntry_spec {free : Bool} {l : List OwnCell} {p : Picked} (h : pickEntry free l = some p) :
    l.Perm (p.entry :: p.left) ∧ (p.entry.kind.tracked.isSome → free = true) := by
  induction l generalizing p with
  | nil => cases h
  | cons o os ih =>
    unfold pickEntry at h
    split at h
    · next goes =>
      cases h
      refine ⟨.refl _, fun tracked => ?_⟩
      rcases Bool.or_eq_true_iff.1 goes with untracked | free
      · rw [Option.isNone_iff_eq_none.1 untracked] at tracked
        cases tracked
      · exact free
    · split at h
      · cases h
      · next q hq =>
        cases h
        obtain ⟨perm, room⟩ := ih hq
        exact ⟨(perm.cons o).trans (.swap _ _ _), room⟩

/-- R42: an entry picked from the transmit queue goes. -/
theorem State.pickedTurn_fit (s : State) (f : CellProcessor → CellProcessor) (o : OwnCell)
    (cells : (s.cell.urgent ++ s.cell.normal).Perm (o :: ((f s.cell).urgent ++ (f s.cell).normal)))
    (tracker : (f s.cell).tracker = s.cell.tracker)
    (room : o.kind.tracked.isSome → s.cell.tracker.length < 32) : KeepsFit s ((s.modCell f).sendOwn o) where
  fits hs := by
    have length := cells.length_eq
    simp only [List.length_append, List.length_cons] at length
    have taken : KeepsFit s (s.modCell f) := by
      refine .modCell s f ?_ ?_ fun x hx => cells.mem_iff.2 (List.mem_cons_of_mem _ hx)
      · simp only [CellProcessor.queued]
        omega
      · unfold CellProcessor.trackerFits
        rw [tracker]
        exact id
    have tag : o.tagFits := hs.tags o (cells.mem_iff.2 List.mem_cons_self)
    exact (taken.trans (State.sendOwn_fit _ o tag fun h => by rw [State.modCell_cell, tracker]; exact room h)).fits hs

theorem CellProcessor.takeEntry_queue (c : CellProcessor) (skips : Bool) :
    (c.takeEntry skips).urgent = c.urgent ∧ (c.takeEntry skips).normal = c.normal ∧
      (c.takeEntry skips).tracker = c.tracker := by
  unfold CellProcessor.takeEntry
  split <;> exact ⟨rfl, rfl, rfl⟩

theorem State.queueTurn_fit (s : State) : KeepsFit s s.queueTurn := by
  unfold State.queueTurn
  simp only
  split
  · next p picked =>
    obtain ⟨perm, room⟩ := pickEntry_spec picked
    obtain ⟨-, normal, tracker⟩ := s.cell.takeEntry_queue p.passedOver
    refine s.pickedTurn_fit _ p.entry ?_ tracker fun h => of_decide_eq_true (room h)
    rw [normal]
    exact perm.append_right _
  · split
    · next p picked =>
      obtain ⟨perm, room⟩ := pickEntry_spec picked
      obtain ⟨urgent, -, tracker⟩ := s.cell.takeEntry_queue (p.passedOver || !s.cell.urgent.isEmpty)
      refine s.pickedTurn_fit _ p.entry ?_ tracker fun h => of_decide_eq_true (room h)
      rw [urgent]
      exact (perm.append_left _).trans List.perm_middle
    · exact .refl s

theorem State.passTurn_fit (s : State) (sent : Sending) : KeepsFit s (s.passTurn sent) := by
  unfold State.passTurn
  split <;> exact .modCell_same s _ rfl rfl rfl

theorem State.arrivingTurn_fit (s : State) (v : Arriving) : KeepsFit s (s.arrivingTurn v) := by
  unfold State.arrivingTurn
  split
  · exact .refl s
  · exact (s.passTurn_fit _).trans (.modLoop _ _)

theorem State.freeTurn_fit (s : State) : KeepsFit s s.freeTurn := by
  unfold State.freeTurn
  split
  · exact (KeepsFit.modCell_same s _ rfl rfl rfl).trans (State.passTurn_fit _ _)
  · split
    · exact s.arrivingTurn_fit _
    · exact s.arrivingTurn_fit _
    · exact s.queueTurn_fit
    · split
      · exact .modCell_same s _ rfl rfl rfl
      · exact s.queueTurn_fit
  · exact s.queueTurn_fit

theorem State.portBTurn_fit (s : State) : KeepsFit s s.portBTurn := by
  have free := (KeepsFit.modCell_same s (fun c => { c with sending := .idle }) rfl rfl rfl).trans (State.freeTurn_fit _)
  unfold State.portBTurn
  split
  · exact .refl s
  all_goals exact free

theorem State.beginCell_fit (s : State) : KeepsFit s s.beginCell := by
  have room : KeepsFit s s.makeRoom := by
    unfold State.makeRoom
    split
    · exact s.portBTurn_fit
    · exact .refl s
  unfold State.beginCell
  split
  · exact room.trans (.modLoop _ _)
  · exact (KeepsFit.modLoop s _).trans (.modPort _ .a _)

theorem State.cellContinues_fit (s : State) (rest : List Sym) : KeepsFit s (s.cellContinues rest) :=
  .foldl _ State.dataIn_fit _ s

theorem State.cellBegins_fit (s : State) (head : List Sym) : KeepsFit s (s.cellBegins head) := by
  have begun := (s.heard_fit .a).trans (State.framing_fit _)
  unfold State.cellBegins
  split
  · simp only
    split
    · exact (begun.trans (State.beginCell_fit _)).trans (.foldl _ State.dataIn_fit _ _)
    · exact begun
  · exact .refl s

/-! ## The Site Timebase (R12, R13) -/

theorem State.lossTick_fit (s : State) (p : PortId) : KeepsFit s (s.lossTick p) := by
  unfold State.lossTick
  split
  · exact .refl s
  · split
    · exact s.lossOfSignal_fit p
    · exact .modPort s p _

theorem State.quietTick_fit (s : State) (p : PortId) : KeepsFit s (s.quietTick p) := by
  unfold State.quietTick
  split
  · exact s.quietEnds_fit p
  · exact .modPort s p _

/-- R46: the tracker's timers fall, its tags stand. -/
theorem State.trackerTick_fit (s : State) : KeepsFit s s.trackerTick := by
  refine .trans (.modCell s (fun c => { c with tracker := c.tracker.map fun e => { e with timer := e.timer - 1 } })
    le_rfl (fun h => ⟨?_, ?_⟩) fun _ => id) (.foldl _ State.returnExpires_fit _ _)
  · rw [List.length_map]; exact h.1
  · exact List.pairwise_map.2 h.2

theorem State.msTick_fit (s : State) : KeepsFit s s.msTick :=
  ((((s.lossTick_fit .a).trans (State.lossTick_fit _ .b)).trans (State.quietTick_fit _ .a)).trans
    (State.quietTick_fit _ .b)).trans (State.trackerTick_fit _)

theorem State.skyTick_fit (s : State) : KeepsFit s s.skyTick := by
  unfold State.skyTick
  split
  · exact s.skyExpires_fit
  · exact .modSeqr s _

theorem State.lostTick_fit (s : State) (c : ScreenId) : KeepsFit s (s.lostTick c) := by
  unfold State.lostTick
  split
  · exact s.lostDelayExpires_fit c
  · exact .modInput s c _

theorem State.txTick_fit (s : State) (c : ScreenId) : KeepsFit s (s.txTick c) := by
  unfold State.txTick
  split
  · exact s.txSilent_fit c
  · exact .modTransmitter s c _

/-- R120: a pass timer falls on a lane whose pending admission stands. -/
theorem State.passTick_fit (s : State) (l : LaneId) : KeepsFit s (s.passTick l) := by
  unfold State.passTick
  split
  · exact .refl s
  · next p held =>
    split
    · exact s.passExpires_fit l
    · have before := Lane.names_some held
      have after := Lane.names_some
        (n := { s.gate.lanes[l] with pending := some { p with passTimer := p.passTimer - 1 } }) rfl
      exact .modLane s l _ (fun c => (after c).1.trans (before c).1.symm) fun c => (after c).2.trans (before c).2.symm

theorem State.laneTick_fit (s : State) (l : LaneId) : KeepsFit s (s.laneTick l) := by
  unfold State.laneTick
  split
  · exact s.silenceExpires_fit l
  · exact .modLane_same s l _ rfl

theorem State.secondTick_fit (s : State) : KeepsFit s s.secondTick :=
  ((((s.windowEnds_fit.trans (State.skyTick_fit _)).trans (.foldl _ State.lostTick_fit _ _)).trans
    (.foldl _ State.txTick_fit _ _)).trans (.foldl _ State.passTick_fit _ _)).trans (.foldl _ State.laneTick_fit _ _)

theorem State.lateTick_fit (s : State) (t : TicketId) : KeepsFit s (s.lateTick t) := by
  unfold State.lateTick
  split
  · exact .refl s
  · split
    · exact s.lateExpires_fit t
    · exact .modTicket s t _

theorem State.recallTick_fit (s : State) (n : Nat) : KeepsFit s (s.recallTick n) := by
  unfold State.recallTick
  split
  · exact .refl s
  · split
    · split
      · exact s.recallExpires_fit n
      · exact .modOrder s n _
    · exact .refl s

theorem State.minuteTick_fit (s : State) : KeepsFit s s.minuteTick :=
  (KeepsFit.foldl _ State.lateTick_fit _ s).trans (.foldl _ State.recallTick_fit _ _)

theorem State.tick_fit (s : State) : KeepsFit s s.tick := by
  have ticked : KeepsFit s { s with time := s.time.next } := ⟨fun h => { h with }⟩
  have ms := ticked.trans (State.msTick_fit _)
  have tens := ms.trans (State.tensTick_fit _)
  have second := tens.trans (State.secondTick_fit _)
  unfold State.tick
  simp only
  split
  · exact ms
  · exact tens
  · exact second
  · exact second.trans (State.minuteTick_fit _)

end Sys2Proof.Machine

namespace Sys2Proof.Machine

/-! ## Every command, and a step -/

/-- Stores, queues, tracker and counts of a site right after a cold reset are empty, with any commands waiting. -/
theorem State.cold_fits (strap : BitVec 7) (l : List Instr) :
    ({ State.cold strap with pending := l } : State).fits := { Proofs.reset_fits with }

/-- Every command ends in a next state, which fits where the state before it does. -/
theorem exec_fit (c : Instr) (s : State) : ∃ t, exec c s = .next t ∧ KeepsFit s t := by
  cases c with
  | coldReset strap => exact ⟨_, rfl, ⟨fun _ => State.cold_fits strap s.pending⟩⟩
  | hailReceived => exact ⟨_, rfl, s.maintenance_fit _ _ fun t => t.hail_fit _⟩
  | hailAckReceived => exact ⟨_, rfl, s.maintenance_fit _ _ fun t => t.hailAck_fit _⟩
  | idleReceived => exact ⟨_, rfl, s.maintenance_fit _ _ fun t => t.idle_fit _⟩
  | symbolErrorReceived => exact ⟨_, rfl, s.symbolError_fit _⟩
  | lossOfSignal => exact ⟨_, rfl, s.lossOfSignal_fit _⟩
  | quietPeriodEnd => exact ⟨_, rfl, s.quietEnds_fit _⟩
  | lineErrorWindowEnd => exact ⟨_, rfl, s.windowEnds_fit⟩
  | cellHeaderArrives => exact ⟨_, rfl, s.cellBegins_fit _⟩
  | cellTailArrives => exact ⟨_, rfl, s.cellContinues_fit _⟩
  | portBTurn => exact ⟨_, rfl, s.portBTurn_fit⟩
  | returnTimeout => exact ⟨_, rfl, s.returnExpires_fit _⟩
  | mgmtWrite | siteWrite | screenWrite | segmentWrite | cueWrite | outputWrite | clipWrite | phraseWrite
  | eventWrite | laneWrite | menuWrite | stationWrite | tapWrite =>
    exact ⟨_, rfl, (s.cellSeen_fit _).trans (State.takeWrite_fit _ _ _ _ _)⟩
  | outputStatusRead => exact ⟨_, rfl, (s.cellSeen_fit _).trans (State.takeRead_fit _ _ _ _ _)⟩
  | start | go | hold | abort | rehearse | clipSeal | clipDelete | announce | setCount | setAdmission
  | setOrdering | cancelOrder | clearFault | clearCounters | restartWarm =>
    exact ⟨_, rfl, (s.cellSeen_fit _).trans (State.takeCommand_fit _ _ _)⟩
  | panelKey => exact ⟨_, rfl, (s.cellSeen_fit _).trans (State.takePanelKey_fit _ _ _ _)⟩
  | clipData => exact ⟨_, rfl, (s.cellSeen_fit _).trans (State.takeClipData_fit _ _ _ _ _ _)⟩
  | showClockTick => exact ⟨_, rfl, KeepsFit.foldl _ State.timebaseClock_fit _ s⟩
  | programmeClockTick => exact ⟨_, rfl, s.programmeClock_fit _⟩
  | restEnd => exact ⟨_, rfl, s.endRest_fit _⟩
  | skyReport => exact ⟨_, rfl, (s.cellSeen_fit _).trans (State.takeSkyReport_fit _ _)⟩
  | skyAgeExpiry => exact ⟨_, rfl, s.skyExpires_fit⟩
  | projState => exact ⟨_, rfl, (s.cellSeen_fit _).trans (State.takeProjState_fit _ _ _)⟩
  | programmeFrame => exact ⟨_, rfl, s.takeFrame_fit _ _ _ _ _⟩
  | frameMissed => exact ⟨_, rfl, s.missFrame_fit _⟩
  | soundLostDelayExpiry => exact ⟨_, rfl, s.lostDelayExpires_fit _⟩
  | samplePeriod => exact ⟨_, rfl, s.samplePeriod_fit⟩
  | slewStep => exact ⟨_, rfl, KeepsFit.modLine s _ _ id⟩
  | levelBlockEnd => exact ⟨_, rfl, s.endBlock_fit _⟩
  | txStatus => exact ⟨_, rfl, (s.cellSeen_fit _).trans (State.takeTxStatus_fit _ _ _ _)⟩
  | txSilenceExpiry => exact ⟨_, rfl, s.txSilent_fit _⟩
  | fillCompletion => exact ⟨_, rfl, s.completeFill_fit⟩
  | entryStart => exact ⟨_, rfl, s.startEntry_fit _⟩
  | entryEnd => exact ⟨_, rfl, s.endEntry_fit _⟩
  | admitAsk => exact ⟨_, rfl, (s.cellSeen_fit _).trans (State.takeAdmitAsk_fit _ _ _ _)⟩
  | laneBeat | stationBeat => exact ⟨_, rfl, s.cellSeen_fit _⟩
  | entered | backedOut | exited => exact ⟨_, rfl, (s.cellSeen_fit _).trans (State.takePassage_fit _ _ _ _)⟩
  | passTimeout => exact ⟨_, rfl, s.passExpires_fit _⟩
  | laneSilenceExpiry => exact ⟨_, rfl, s.silenceExpires_fit _⟩
  | orderPlace => exact ⟨_, rfl, (s.cellSeen_fit _).trans (State.takeOrderPlace_fit _ _ _ _)⟩
  | bump => exact ⟨_, rfl, (s.cellSeen_fit _).trans (State.takeBump_fit _ _ _ _)⟩
  | recallExpiry => exact ⟨_, rfl, s.recallExpires_fit _⟩
  | lateTimerExpiry => exact ⟨_, rfl, s.lateOf_fit _ _⟩
  | pickup => exact ⟨_, rfl, (s.cellSeen_fit _).trans (State.takePickup_fit _ _ _)⟩
  | dataSymbolOutsideCell => exact ⟨_, rfl, s.strayData_fit⟩

end Sys2Proof.Machine

namespace Sys2Proof.Proofs
open Machine

/-- Settles O58: a tick and every command keep stores, queues, tracker and counts within their bounds. -/
theorem everyStepKeepsBounds : Obligations.EveryStepKeepsBounds := by
  intro s t hs h
  cases queue : s.pending with
  | nil =>
    rw [step_empty queue] at h
    cases h
    exact s.tick_fit.fits hs
  | cons c rest =>
    obtain ⟨u, hu, fit⟩ := exec_fit c { s with pending := rest }
    rw [step_front queue, hu] at h
    cases h
    exact fit.fits { hs with }

end Sys2Proof.Proofs

/-! PROOFS. A turn of port B (R37, R39, R42 to R44), settling `PortBTurns`. -/

namespace Sys2Proof.Machine

/-! ## Which turn comes -/

/-- R37: port B is done with what it sent, and its turn is one on a free link. -/
theorem State.portBTurn_free {s : State} (free : ∀ b, s.cell.sending ≠ .passing b) :
    s.portBTurn = (s.modCell fun c => { c with sending := .idle }).freeTurn := by
  unfold State.portBTurn
  split
  · next b h => exact absurd h (free b)
  all_goals rfl

/-- R37: with no passing traffic the turn is the transmit queue's. -/
theorem State.portBTurn_queue {s : State} (free : ∀ b, s.cell.sending ≠ .passing b) (buffer : s.cell.buffer = [])
    (arriving : s.loop.arriving = none) :
    s.portBTurn = (s.modCell fun c => { c with sending := .idle }).queueTurn := by
  rw [State.portBTurn_free free]
  simp only [State.freeTurn, State.modCell, buffer, arriving]

/-- R37, R39: the front of the elastic buffer goes, or is discarded on a link that is not UP. -/
theorem State.portBTurn_buffered {s : State} {out : List Byte} {waiting : List (List Byte)}
    (free : ∀ b, s.cell.sending ≠ .passing b) (buffer : s.cell.buffer = out :: waiting) :
    s.portBTurn =
      { s with cell :=
          if s.loop.portB.state = .up then { s.cell with buffer := waiting, sending := .passed out true }
          else
            { s.cell with
              buffer := waiting, sending := .discardedForward
              forwardDiscarded := min (s.cell.forwardDiscarded + 1) 65535 } } := by
  rw [State.portBTurn_free free]
  simp only [State.freeTurn, State.modCell, buffer, State.passTurn]
  split <;> rfl

/-- R39: a passing cell of which nothing more leaves keeps its turn to its last byte. -/
theorem State.portBTurn_spent {s : State} {v : Arriving} (sending : s.cell.sending = .discardedForward)
    (buffer : s.cell.buffer = []) (arriving : s.loop.arriving = some v) (gone : v.place = .gone)
    (passes : v.passes = true) : s.portBTurn = s := by
  rw [State.portBTurn_free (by rw [sending]; exact nofun)]
  have idled : (s.modCell fun c => { c with sending := .idle }).freeTurn =
      s.modCell fun c => { c with sending := .discardedForward } := by
    simp only [State.freeTurn, State.modCell, buffer, arriving, gone, passes, if_true]
  rw [idled, ← sending]
  rfl

/-! ## Which entry goes (R42) -/

/-- R42: an entry at the front goes when it is untracked, or with a free tracker entry. -/
theorem pickEntry_front {room : Bool} {o : OwnCell} (os : List OwnCell) (h : o.kind.tracked = none ∨ room = true) :
    pickEntry room (o :: os) = some ⟨o, os, false⟩ := by
  have goes : (o.kind.tracked.isNone || room) = true := by rcases h with h | h <;> simp [h]
  simp only [pickEntry, goes, if_true]

/-- R42: with the tracker full a tracked entry at the front is passed over. -/
theorem pickEntry_held {o : OwnCell} {owner : Owner} (os : List OwnCell) (h : o.kind.tracked = some owner) :
    pickEntry false (o :: os) = (pickEntry false os).map fun p => ⟨p.entry, o :: p.left, true⟩ := by
  simp only [pickEntry, h, Option.isNone_some, Bool.or_false, Bool.false_eq_true, if_false]
  cases pickEntry false os <;> rfl

/-- R42: the URGENT class gives the turn its entry. -/
theorem State.queueTurn_urgent {s : State} {p : Picked}
    (h : pickEntry (decide (s.cell.tracker.length < 32)) s.cell.urgent = some p) :
    s.queueTurn = (s.modCell fun c => { c.takeEntry p.passedOver with urgent := p.left }).sendOwn p.entry := by
  simp only [State.queueTurn, h]

/-- R37, log 14: with no entry that may go nothing changes. -/
theorem State.queueTurn_none {s : State}
    (urgent : pickEntry (decide (s.cell.tracker.length < 32)) s.cell.urgent = none) (normal : s.cell.normal = []) :
    s.queueTurn = s := by
  simp only [State.queueTurn, urgent, normal, pickEntry]

/-! ## The cell's tag and its tracker entry (R43, R44) -/

/-- R39, R42: an own cell that ends no restart is sent while port B is UP, and discarded otherwise. -/
theorem State.sendOwn_eq {s : State} {o : OwnCell} (ends : o.endsRestart = false) :
    s.sendOwn o =
      { s with cell :=
          if s.loop.portB.state = .up then
            { s.cell.track o with sending := .own (ownBytes s.station.toNat (s.cell.tagFor o) o) }
          else
            { s.cell.track o with
              sending := .discardedOwn, ownDiscarded := min ((s.cell.track o).ownDiscarded + 1) 65535 } } := by
  simp only [State.sendOwn, ends, Bool.false_eq_true, if_false, State.modCell]
  split <;> rfl

/-- R42: the Cell Processor with the entry picked from the URGENT class taken out. -/
def CellProcessor.afterPick (c : CellProcessor) (p : Picked) : CellProcessor :=
  { ({ c with sending := .idle } : CellProcessor).takeEntry p.passedOver with urgent := p.left }

/-- R37, R42: with no passing traffic the entry picked from the URGENT class takes the turn. -/
theorem State.portBTurn_urgent {s : State} {p : Picked} (free : ∀ b, s.cell.sending ≠ .passing b)
    (buffer : s.cell.buffer = []) (arriving : s.loop.arriving = none)
    (picked : pickEntry (decide (s.cell.tracker.length < 32)) s.cell.urgent = some p)
    (ends : p.entry.endsRestart = false) :
    s.portBTurn =
      { s with cell :=
          if s.loop.portB.state = .up then
            { (s.cell.afterPick p).track p.entry with
              sending := .own (ownBytes s.station.toNat ((s.cell.afterPick p).tagFor p.entry) p.entry) }
          else
            { (s.cell.afterPick p).track p.entry with
              sending := .discardedOwn
              ownDiscarded := min (((s.cell.afterPick p).track p.entry).ownDiscarded + 1) 65535 } } := by
  have turn : (s.modCell fun c => { c with sending := .idle }).queueTurn =
      (s.modCell fun c => c.afterPick p).sendOwn p.entry :=
    State.queueTurn_urgent (s := s.modCell fun c => { c with sending := .idle }) picked
  rw [State.portBTurn_queue free buffer arriving, turn, State.sendOwn_eq ends]
  rfl

/-- R43: a reply carries the tag of the cell it answers, and takes none from the counter and no tracker entry. -/
theorem CellProcessor.track_reply {c : CellProcessor} {o : OwnCell} {tag : Half} (untracked : o.kind.tracked = none)
    (echo : o.echo = some tag) : c.track o = c ∧ c.tagFor o = tag := by
  simp only [CellProcessor.track, CellProcessor.tagFor, untracked, echo, Option.isSome_some, if_true, and_self]

/-- R43, R44: a tracked cell takes the tag found from the counter's value on, and a tracker entry with timer 50. -/
theorem CellProcessor.track_tracked {c : CellProcessor} {o : OwnCell} {owner : Owner} {tag : Half}
    (kind : o.kind.tracked = some owner) (echo : o.echo = none) (found : freeTag c.tracker 33 c.tagCounter = tag) :
    c.track o =
      { c with
        tagCounter := tag + 1
        tracker := c.tracker ++
          [{ tag := tag, kind := o.kind, dest := o.dest, owner := owner, ref := o.ref, timer := 50 }] } ∧
      c.tagFor o = tag := by
  simp only [CellProcessor.track, CellProcessor.tagFor, kind, echo, found, Option.isSome_none, Bool.false_eq_true,
    if_false, and_self]

/-- R43: the counter's value, or the next one up when an entry holds that. -/
theorem freeTag_eq {tracker : List TrackEntry} {counter tag : Half}
    (next : tag = counter ∨ (tag = counter + 1 ∧ ∃ e ∈ tracker, e.tag = counter)) (free : ∀ e ∈ tracker, e.tag ≠ tag) :
    freeTag tracker 33 counter = tag := by
  have unheld := holdsTag_eq_false.2 free
  rcases next with rfl | ⟨rfl, e, listed, same⟩
  · exact freeTag_of_free unheld 32
  · have held : holdsTag tracker counter = true := List.any_eq_true.2 ⟨e, listed, beq_iff_eq.2 same⟩
    rw [freeTag_of_held held, freeTag_of_free unheld 31]

end Sys2Proof.Machine

namespace Sys2Proof.Proofs
open Machine

/-- R37, R42, R43: a reply at the front of the URGENT class. -/
theorem portBTurn_reply {s : State} {o : OwnCell} {os : List OwnCell} {tag : Half}
    (free : ∀ b, s.cell.sending ≠ .passing b) (buffer : s.cell.buffer = []) (arriving : s.loop.arriving = none)
    (front : s.cell.urgent = o :: os) (untracked : o.kind.tracked = none) (echo : o.echo = some tag)
    (ends : o.endsRestart = false) :
    s.portBTurn =
      { s with cell :=
          if s.loop.portB.state = .up then
            { s.cell with urgent := os, sending := .own (ownBytes s.station.toNat tag o) }
          else
            { s.cell with
              urgent := os, sending := .discardedOwn, ownDiscarded := min (s.cell.ownDiscarded + 1) 65535 } } := by
  have picked := pickEntry_front (room := decide (s.cell.tracker.length < 32)) os (.inl untracked)
  have turn := State.portBTurn_urgent (p := ⟨o, os, false⟩) free buffer arriving (front ▸ picked) ends
  rw [turn, (CellProcessor.track_reply untracked echo).1, (CellProcessor.track_reply untracked echo).2]
  rfl

/-- R42 to R44: a tracked cell at the front of the URGENT class, with a free tracker entry. -/
theorem portBTurn_tracked {s : State} {o : OwnCell} {os : List OwnCell} {owner : Owner} {tag : Half}
    (free : ∀ b, s.cell.sending ≠ .passing b) (buffer : s.cell.buffer = []) (arriving : s.loop.arriving = none)
    (front : s.cell.urgent = o :: os) (kind : o.kind.tracked = some owner) (echo : o.echo = none)
    (ends : o.endsRestart = false) (up : s.loop.portB.state = .up) (room : s.cell.tracker.length < 32)
    (found : freeTag s.cell.tracker 33 s.cell.tagCounter = tag) :
    s.portBTurn =
      { s with cell :=
          { s.cell with
            urgent := os, tagCounter := tag + 1, sending := .own (ownBytes s.station.toNat tag o)
            tracker := s.cell.tracker ++
              [{ tag := tag, kind := o.kind, dest := o.dest, owner := owner, ref := o.ref, timer := 50 }] } } := by
  have picked := pickEntry_front (room := decide (s.cell.tracker.length < 32)) os (o := o) (.inr (decide_eq_true room))
  have turn := State.portBTurn_urgent (p := ⟨o, os, false⟩) free buffer arriving (front ▸ picked) ends
  obtain ⟨tracked, tagged⟩ := CellProcessor.track_tracked (c := s.cell.afterPick ⟨o, os, false⟩) kind echo found
  rw [turn, if_pos up, tracked, tagged]
  rfl

/-- R42, log 14: with the tracker full a tracked cell keeps its place, and an untracked one behind it goes. -/
theorem portBTurn_passedOver {s : State} {o r : OwnCell} {rs : List OwnCell} {owner : Owner} {tag : Half}
    (free : ∀ b, s.cell.sending ≠ .passing b) (buffer : s.cell.buffer = []) (arriving : s.loop.arriving = none)
    (front : s.cell.urgent = o :: r :: rs) (kind : o.kind.tracked = some owner) (untracked : r.kind.tracked = none)
    (echo : r.echo = some tag) (ends : r.endsRestart = false) (up : s.loop.portB.state = .up)
    (full : 32 ≤ s.cell.tracker.length) :
    s.portBTurn =
      { s with cell :=
          { s.cell with
            urgent := o :: rs, trackerFull := min (s.cell.trackerFull + 1) 65535
            sending := .own (ownBytes s.station.toNat tag r) } } := by
  have picked : pickEntry (decide (s.cell.tracker.length < 32)) s.cell.urgent = some ⟨r, o :: rs, true⟩ := by
    rw [front, decide_eq_false (Nat.not_lt.2 full), pickEntry_held _ kind, pickEntry_front rs (.inl untracked)]
    rfl
  have turn := State.portBTurn_urgent free buffer arriving picked ends
  rw [turn, if_pos up, (CellProcessor.track_reply untracked echo).1, (CellProcessor.track_reply untracked echo).2]
  rfl

/-- Settles O15, turn by turn: what has the link, what waits, and which own cell goes. -/
theorem portBTurns : Obligations.PortBTurns := by
  refine ⟨fun s => ⟨fun b sending => ?_, fun free => ⟨fun out waiting buffer => ?_, fun buffer arriving =>
    ⟨fun o os tag front reply echo ends => ?_, fun urgent normal => ?_⟩⟩⟩, ?_, ?_, ?_⟩
  · exact congrArg Host.Outcome.next (by simp only [State.portBTurn, sending])
  · exact congrArg Host.Outcome.next (State.portBTurn_buffered free buffer)
  · have untracked : o.kind.tracked = none := by rcases reply with k | k <;> rw [k] <;> rfl
    exact congrArg Host.Outcome.next (portBTurn_reply free buffer arriving front untracked echo ends)
  · refine congrArg Host.Outcome.next ((State.portBTurn_queue free buffer arriving).trans (State.queueTurn_none ?_ normal))
    simp only [State.modCell, urgent, pickEntry]
  · refine fun s o os owner free buffer arriving front kind echo ends up => ⟨fun tag room next unheld => ?_,
      fun r rs tag full behind untracked echo' ends' => ?_⟩
    · exact congrArg Host.Outcome.next
        (portBTurn_tracked free buffer arriving front kind echo ends up room (freeTag_eq next unheld))
    · subst behind
      exact congrArg Host.Outcome.next
        (portBTurn_passedOver free buffer arriving front kind untracked echo' ends' up full)
  · intro s o owner free buffer arriving front normal kind full
    refine congrArg Host.Outcome.next ((State.portBTurn_queue free buffer arriving).trans (State.queueTurn_none ?_ normal))
    simp only [State.modCell, front, decide_eq_false (Nat.not_lt.2 full), pickEntry_held _ kind, pickEntry, Option.map_none]
  · intro s v sending buffer arriving kept gone verdict
    refine congrArg Host.Outcome.next (State.portBTurn_spent sending buffer arriving gone ?_)
    rcases verdict with h | h <;> simp [Arriving.passes, kept, h]

end Sys2Proof.Proofs

/-! PROOFS. A TAP write (R34) and the reply to a write at a full transmit queue (R41, R155), settling `TapWrite` and
`ReplyAtFullQueue`. -/

namespace Sys2Proof.Machine

/-! ## TAP entries (R34) -/

/-- Log 21: a loose flag reads 0 and 1 as listed. -/
theorem looseFlag_readsAs (draw : Nat) (b : Byte) : readsAs b (looseFlag draw b) :=
  ⟨fun h => by simp [looseFlag, h], fun h => by simp [looseFlag, h]⟩

theorem tapActionOf_code (action : TapAction) : tapActionOf action.code = some action := by cases action <;> rfl

theorem tapActionOf_none {n : Nat} (h : 2 < n) : tapActionOf n = none := by
  unfold tapActionOf
  split
  · omega
  · omega
  · omega
  · rfl

/-- The quantities of a TAP entry that R34 bounds, ANY as the byte was read. -/
def tapBounds (low high dest : Byte) (destAny : Bool) : Prop :=
  1 ≤ low.toNat ∧ low.toNat ≤ high.toNat ∧ high.toNat ≤ 120 ∧ (destAny = true ∨ dest.toNat ≤ 120)

/-- R34: the entry stored from bytes within their bounds. -/
theorem tapEntryOf_some (draw : Nat) {action : TapAction} (b0 b1 b2 b3 b4 b5 b6 b7 : Byte)
    (code : action.code = b7.toNat) (bounds : tapBounds b3 b4 b5 (looseFlag (draw + 2) b6)) :
    tapEntryOf draw [b0, b1, b2, b3, b4, b5, b6, b7] =
      some
        { valid := looseFlag draw b0, kind := b1.toNat, kindAny := looseFlag (draw + 1) b2, sourceLow := b3.toNat
          sourceHigh := b4.toNat, dest := b5.toNat, destAny := looseFlag (draw + 2) b6, action := action, drops := 0 } := by
  have known : tapActionOf b7.toNat = some action := code ▸ tapActionOf_code action
  unfold tapBounds at bounds
  simp [tapEntryOf, byteAt, known, bounds]

/-- R34: an unlisted action, a source range that is empty or leaves 1..120, or a destination beyond 120 is refused. -/
theorem tapEntryOf_none (draw : Nat) (b0 b1 b2 b3 b4 b5 b6 b7 : Byte)
    (h : 2 < b7.toNat ∨ ¬ tapBounds b3 b4 b5 (looseFlag (draw + 2) b6)) :
    tapEntryOf draw [b0, b1, b2, b3, b4, b5, b6, b7] = none := by
  rcases h with unlisted | outside
  · simp [tapEntryOf, byteAt, tapActionOf_none unlisted]
  · unfold tapBounds at outside
    simp only [tapEntryOf, byteAt, List.getD_cons_zero, List.getD_cons_succ, if_neg outside]
    cases tapActionOf b7.toNat <;> rfl

/-- An index of a table numbered from 0 names its entry. -/
theorem fromZero_index {n : Nat} (i : Fin n) : fromZero n i.val = some i := by
  simp only [fromZero, i.isLt, dite_true]

/-- R34: a TAP entry refused; its three loose flags were read (log 21). -/
theorem State.writeTap_refused {s : State} (i : Fin 32) {e : List Byte} (h : tapEntryOf s.freeCount e = none) :
    s.writeTap i.val e = (s.draw.draw.draw, .range) := by
  simp only [State.writeTap, fromZero_index, h]

/-- R34: a TAP entry stored. -/
theorem State.writeTap_stored {s : State} (i : Fin 32) {e : List Byte} {t : TapEntry}
    (h : tapEntryOf s.freeCount e = some t) :
    s.writeTap i.val e = ((s.modCell fun c => { c with taps := c.taps.set i t }).draw.draw.draw, .done) := by
  simp only [State.writeTap, fromZero_index, h]

/-- The TAP table, code 12, takes the write. -/
theorem State.writeCode_tap (s : State) (i : Fin 32) (e : List Byte) :
    State.writeCode 12 (BitVec.ofNat 16 i.val) e s = Written.out (s.writeTap i.val e) := by
  have number : (BitVec.ofNat 16 i.val : Half).toNat = i.val := by
    rw [BitVec.toNat_ofNat]
    omega
  have taken : State.writeCode 12 (BitVec.ofNat 16 i.val) e s =
      Written.out (s.writeTap (BitVec.ofNat 16 i.val : Half).toNat e) := rfl
  rw [taken, number]

/-- A write of the console that its owner refuses after free choices changes nothing but the counts. -/
theorem State.write_refused_drawn {s : State} {n draws : Nat} {m : Sender} {table : Byte} {index : Half}
    {e : List Byte} {r : Reply} (h : s.readyFor n m) (room : 1 ≤ n) (check : writeCheck table e = none)
    (owner : State.writeCode table index e s.countTaken =
      Written.out (({ s with freeCount := draws } : State).countTaken, r)) (refused : r.refuses = true) :
    (s.cellSeen m.source).takeWrite m table index e =
      ({ s with freeCount := draws } : State).turnedAway m (writeReply r.code table.toNat index) := by
  have queued : s.cell.queued < 16 := by have := h.room.queued; omega
  rw [State.cellSeen_stranger h.stranger, State.takeWrite, check]
  rw [State.takeMgmt_passes h owner queued]
  simp only [Written.out, replyCell_write, Management.countAnswer_refuses _ refused]
  rfl

/-! ## A full transmit queue (R41) -/

/-- R41: an URGENT cell handed over to a full queue removes the newest NORMAL entry, whose owner is told. -/
theorem State.handUrgent_displaces {s : State} {o last : OwnCell} {ns : List OwnCell} (full : 16 ≤ s.cell.queued)
    (urgent : o.kind.isUrgent = true) (normal : s.cell.normal = ns ++ [last]) :
    s.handUrgent o =
      (({ s with
          cell := { s.cell.countDrop last.kind with urgent := s.cell.urgent ++ [o], normal := ns } } : State).toldRemoved
        last, .queued) := by
  simp [State.handUrgent, CellProcessor.handOver, Nat.not_lt.2 full, urgent, normal]

/-- R41: an URGENT cell handed over to a queue full of URGENT cells is dropped. -/
theorem State.handUrgent_dropped {s : State} {o : OwnCell} (full : 16 ≤ s.cell.queued)
    (urgent : o.kind.isUrgent = true) (normal : s.cell.normal = []) :
    s.handUrgent o = ({ s with cell := s.cell.countDrop o.kind }, .dropped) := by
  simp [State.handUrgent, CellProcessor.handOver, Nat.not_lt.2 full, urgent, normal]

/-- A NOTICE has no owner to tell of its removal. -/
theorem State.toldRemoved_notice (s : State) {o : OwnCell} (notice : o.kind = .notice) : s.toldRemoved o = s := by
  simp only [State.toldRemoved, notice]

/-- A management cell that no check refuses: its owner acts on the counted state, and the reply is handed over. -/
theorem State.takeMgmt_acts {s : State} {m : Sender} {e : Echo} {check : Option Reply} {owner : State → ReadOut}
    (judged : s.countTaken.refuses m check = none) :
    s.takeMgmt m e check owner = (s.countTaken.reply m e (owner s.countTaken) false).1 := by
  rw [State.countTaken] at judged ⊢
  simp only [State.takeMgmt, judged]

/-- A write of the console that its owner takes: the reply is handed over to the queue, whatever room there is. -/
theorem State.write_handed {s u : State} {n : Nat} {m : Sender} {table : Byte} {index : Half} {e : List Byte}
    (h : s.readyFor n m) (check : writeCheck table e = none)
    (owner : State.writeCode table index e s.countTaken = Written.out (u, .done)) :
    (s.cellSeen m.source).takeWrite m table index e =
      (u.handUrgent (mgmtReplyTo m (writeReply 0 table.toNat index))).1.draw := by
  rw [State.cellSeen_stranger h.stranger, State.takeWrite, check, State.takeMgmt_acts
    (State.refuses_console (s := s.countTaken) h.console h.noRestart none), owner]
  simp only [State.reply, Written.out, replyCell_write]
  rfl

/-! ## The SITE entry (R153) -/

theorem stationOf_some {n : Nat} (h : n ≤ 120) : stationOf n = some n := if_pos h

/-- The site of an entry with walk-up orders, no announcement of calls, and limits that need no clamp. -/
def siteFor (console board counter phrase : Byte) : Site :=
  { console := console.toNat, board := board.toNat, counter := counter.toNat, walkUp := true, paCall := false
    callPhrase := Fin.ofNat 64 phrase.toNat, maxCalls := 3, recallInterval := 5, dusk := 20, errorLimit := 16 }

/-- R153: such an entry is taken as it stands. -/
theorem siteOf_siteFor {console board counter phrase : Byte} (used : 1 ≤ console.toNat) (low : console.toNat ≤ 120)
    (lowBoard : board.toNat ≤ 120) (lowCounter : counter.toNat ≤ 120) (known : phrase.toNat ≤ 63) :
    siteOf [console, board, counter, 1, 0, phrase, 3, 5, 20, 0, 16] = some (siteFor console board counter phrase) := by
  have named : fromZero 64 phrase.toNat = some (Fin.ofNat 64 phrase.toNat) := by
    simp only [fromZero, dif_pos (Nat.lt_succ_of_le known), Option.some.injEq]
    exact Fin.ext (Nat.mod_eq_of_lt (Nat.lt_succ_of_le known)).symm
  have nonzero : console.toNat ≠ 0 := Nat.ne_of_gt used
  simp only [siteOf, byteAt, List.getD_cons_zero, List.getD_cons_succ, if_neg nonzero, stationOf_some low,
    stationOf_some lowBoard, stationOf_some lowCounter, named]
  rfl

/-- The SITE table, code 1, takes the write. -/
theorem State.writeCode_site (s : State) {e : List Byte} {v : Site} (h : siteOf e = some v) :
    State.writeCode 1 0 e s = Written.out (s.modMgmt fun m => { m with site := v }, .done) := by
  have taken : State.writeCode 1 0 e s = Written.out (s.writeSite 0 e) := rfl
  have stored : s.writeSite 0 e = (s.modMgmt fun m => { m with site := v }, .done) := by
    simp only [State.writeSite, ne_eq, not_true_eq_false, if_false, h]
  rw [taken, stored]

end Sys2Proof.Machine

namespace Sys2Proof.Proofs
open Machine

/-- Settles O30: the bytes are refused, or stored with the flags that were read. -/
theorem tapWrite : Obligations.TapWrite := by
  intro s m i action b0 b1 b2 b3 b4 b5 b6 b7 h
  have check : writeCheck 12 [b0, b1, b2, b3, b4, b5, b6, b7] = none := rfl
  have owner := State.writeCode_tap s.countTaken i [b0, b1, b2, b3, b4, b5, b6, b7]
  refine ⟨fun outside => ⟨s.freeCount + 3, congrArg Host.Outcome.next ?_⟩, fun code ⟨low, order, high, dest⟩ =>
    ⟨looseFlag s.freeCount b0, looseFlag (s.freeCount + 1) b2, looseFlag (s.freeCount + 2) b6,
      looseFlag_readsAs _ _, looseFlag_readsAs _ _, looseFlag_readsAs _ _, congrArg Host.Outcome.next ?_⟩⟩
  · have none : tapEntryOf s.freeCount [b0, b1, b2, b3, b4, b5, b6, b7] = none := by
      refine tapEntryOf_none _ _ _ _ _ _ _ _ _ (outside.imp_right fun wrong => ?_)
      rintro ⟨low, order, high, dest⟩
      rcases wrong with rfl | reversed | beyond | ⟨notAny, beyond⟩
      · exact absurd low (by decide)
      · omega
      · omega
      · rcases dest with any | dest
        · rw [(looseFlag_readsAs _ _).1 notAny] at any
          exact Bool.noConfusion any
        · omega
    rw [State.writeTap_refused (s := s.countTaken) i none] at owner
    exact State.write_refused_drawn h (Nat.le_refl 1) check owner rfl
  · have destFits : looseFlag (s.freeCount + 2) b6 = true ∨ b5.toNat ≤ 120 :=
      dest.imp_left (looseFlag_readsAs _ _).2
    have stored := tapEntryOf_some s.freeCount b0 b1 b2 b3 b4 b5 b6 b7 code ⟨low, order, high, destFits⟩
    have room : s.cell.queued < 16 := by have := h.room.queued; omega
    rw [State.writeTap_stored (s := s.countTaken) i stored] at owner
    exact State.write_done h check owner room

/-- Settles O19: the write stands, and its reply meets the full queue. -/
theorem replyAtFullQueue : Obligations.ReplyAtFullQueue := by
  intro s m console board counter phrase h full used low lowBoard lowCounter known written
  have queued : 16 ≤ s.cell.queued := Nat.le_of_eq full.symm
  have owner : State.writeCode 1 0 [console, board, counter, 1, 0, phrase, 3, 5, 20, 0, 16] s.countTaken =
      Written.out ({ s with mgmt := written }, .done) :=
    s.countTaken.writeCode_site (siteOf_siteFor used low lowBoard lowCounter known)
  have handed := State.write_handed h rfl owner
  refine ⟨fun ns o newest notice => congrArg Host.Outcome.next (handed.trans ?_), fun none =>
    congrArg Host.Outcome.next (handed.trans ?_)⟩
  · rw [State.handUrgent_displaces (s := { s with mgmt := written }) queued rfl newest,
      State.toldRemoved_notice _ notice, CellProcessor.countDrop, notice]
    rfl
  · rw [State.handUrgent_dropped (s := { s with mgmt := written }) queued rfl none]
    rfl

end Sys2Proof.Proofs

/-! PROOFS. SEGMENT and CUE writes (R51 to R53), settling `SegmentWrite` and `CueWrite`. -/

namespace Sys2Proof.Machine

/-! ## SEGMENT entries (R51) -/

/-- A screen's number, as an index of a write. -/
theorem screenIndex_toNat (c : ScreenId) : (BitVec.ofNat 16 (c.val + 1) : Half).toNat = c.val + 1 := by
  revert c
  decide

/-- Two runs meet in an entry that lies in both. -/
theorem runsMeet_iff (a n b m : Nat) : runsMeet a n b m = true ↔ ∃ e < a + n, a ≤ e ∧ b ≤ e ∧ e < b + m := by
  simp only [runsMeet, Bool.and_eq_true, decide_eq_true_eq]
  constructor
  · rintro ⟨⟨⟨hn, hm⟩, hab⟩, hba⟩
    exact ⟨max a b, by omega, by omega, by omega, by omega⟩
  · rintro ⟨e, hea, ha, hb, heb⟩
    omega

/-- R51: a run of pool entries meets the segment of another screen. -/
def State.segmentMeets (s : State) (c : ScreenId) (base limit : Nat) : Bool :=
  allScreens.any fun d =>
    decide (d ≠ c) && runsMeet base limit s.screens[d].seq.segBase s.screens[d].seq.segLimit

theorem State.segmentMeets_iff (s : State) (c : ScreenId) (base limit : Nat) :
    s.segmentMeets c base limit = true ↔ ∃ d, d ≠ c ∧ ∃ e < base + limit, base ≤ e ∧ s.screens[d].seq.segBase ≤ e ∧
      e < s.screens[d].seq.segBase + s.screens[d].seq.segLimit := by
  simp only [State.segmentMeets, List.any_eq_true, Bool.and_eq_true, decide_eq_true_eq, runsMeet_iff, mem_allScreens,
    true_and]

/-- R51: a SEGMENT write of a screen's number, by the checks in their order. -/
theorem State.writeSegment_eq (s : State) (c : ScreenId) (e : List Byte) :
    s.writeSegment (c.val + 1) e =
      if 256 < byteAt e 0 + halfAt e 1 then (s, .range)
      else if s.screens[c].seq.state ≠ .idle then (s, .inUse)
      else if s.segmentMeets c (byteAt e 0) (halfAt e 1) then (s, .overlap)
      else (s.modSeq c fun r => { r with segBase := byteAt e 0, segLimit := halfAt e 1 }, .done) := by
  simp only [State.writeSegment, fromOne_index]
  rfl

/-- The SEGMENT table, code 3, takes the write. -/
theorem State.writeCode_segment (s : State) (c : ScreenId) (e : List Byte) :
    State.writeCode 3 (BitVec.ofNat 16 (c.val + 1)) e s = Written.out (s.writeSegment (c.val + 1) e) := by
  have taken : State.writeCode 3 (BitVec.ofNat 16 (c.val + 1)) e s =
      Written.out (s.writeSegment (BitVec.ofNat 16 (c.val + 1) : Half).toNat e) := rfl
  rw [taken, screenIndex_toNat]

/-! ## CUE entries (R52, R53) -/

theorem triggerOf_code (x : TriggerKind) : triggerOf x.code = some x := by cases x <;> rfl

theorem actionOf_code (x : ActionKind) : actionOf x.code = some x := by cases x <;> rfl

theorem triggerOf_le {n : Nat} {x : TriggerKind} (h : triggerOf n = some x) : n ≤ 4 := by
  unfold triggerOf at h
  split at h
  case h_6 => cases h
  all_goals decide

theorem actionOf_le {n : Nat} {x : ActionKind} (h : actionOf n = some x) : n ≤ 7 := by
  unfold actionOf at h
  split at h
  case h_9 => cases h
  all_goals decide

theorem showStateOf_isSome (n : Nat) : (showStateOf n).isSome = true ↔ n ≤ 4 := by
  match n with
  | 0 | 1 | 2 | 3 | 4 => exact iff_of_true rfl (by decide)
  | n + 5 => exact iff_of_false nofun (by omega)

theorem annModeOf_isSome (n : Nat) : (annModeOf n).isSome = true ↔ n ≤ 1 := by
  match n with
  | 0 | 1 => exact iff_of_true rfl (by decide)
  | n + 2 => exact iff_of_false nofun (by omega)

theorem admissionOf_isSome (n : Nat) : (admissionOf n).isSome = true ↔ n ≤ 1 := by
  match n with
  | 0 | 1 => exact iff_of_true rfl (by decide)
  | n + 2 => exact iff_of_false nofun (by omega)

theorem orderingOf_isSome (n : Nat) : (orderingOf n).isSome = true ↔ n ≤ 2 := by
  match n with
  | 0 | 1 | 2 => exact iff_of_true rfl (by decide)
  | n + 3 => exact iff_of_false nofun (by omega)

/-- R52: an entry with an unlisted trigger or action code is no cue. -/
theorem cueOf_unlisted {pool : Nat} {e : List Byte} (h : 4 < byteAt e 0 ∨ 7 < byteAt e 4) : cueOf pool e = none := by
  cases entry : cueOf pool e with
  | none => rfl
  | some v =>
    simp only [cueOf, Option.bind_eq_bind, Option.bind_eq_some_iff] at entry
    obtain ⟨_, trigger, _, action, -⟩ := entry
    have := triggerOf_le trigger
    have := actionOf_le action
    omega

/-- R52: an entry of listed codes is a cue when the arguments its action uses fit. -/
theorem cueOf_listed {pool : Nat} {e : List Byte} {trigger : TriggerKind} {action : ActionKind}
    (ht : trigger.code = byteAt e 0) (ha : action.code = byteAt e 4) :
    cueOf pool e =
      if cueArgsFit pool action e then
        some { trigger := trigger, time := triAt e 1, action := action, args := cueArgs action e
               label := BitVec.ofNat 16 (halfAt e 11) }
      else none := by
  simp only [cueOf, ← ht, ← ha, triggerOf_code, actionOf_code]
  rfl

/-- The six argument bytes of an entry, as they stand. -/
theorem cueArgs_raw (b0 b1 b2 b3 b4 b5 b6 b7 b8 b9 b10 b11 b12 : Byte) :
    (Vector.ofFn fun i : Fin 6 => [b0, b1, b2, b3, b4, b5, b6, b7, b8, b9, b10, b11, b12].getD (5 + i.val) 0) =
      #v[b5, b6, b7, b8, b9, b10] := rfl

/-- R52: a priority beyond its range is stored as 3. -/
theorem clampTo_priority (b : Byte) : BitVec.ofNat 8 (clampTo 0 3 b.toNat) = if b.toNat ≤ 3 then b else 3 := by
  rw [clampTo_zero]
  split
  · next low => rw [Nat.min_eq_right low, BitVec.ofNat_toNat, BitVec.setWidth_eq]
  · next high =>
    rw [Nat.min_eq_left (Nat.le_of_not_le high)]
    rfl

/-- R53: a show that is not IDLE keeps the pool entries of its segment up to its current cue. -/
theorem ShowRecord.protects_iff (r : ShowRecord) (pool : Nat) :
    r.protects pool = true ↔
      r.state ≠ .idle ∧ r.segBase ≤ pool ∧ pool < r.segBase + r.segLimit ∧ pool ≤ r.segBase + r.cueIndex := by
  simp only [ShowRecord.protects, Bool.and_eq_true, decide_eq_true_eq, and_assoc]
  refine and_congr_right fun _ => and_congr_right fun low => and_congr_right fun _ => ?_
  omega

/-- R53: a screen protects a pool entry. -/
def State.cueProtected (s : State) (pool : Nat) : Bool := allScreens.any fun c => s.screens[c].seq.protects pool

theorem State.cueProtected_iff (s : State) (pool : Nat) :
    s.cueProtected pool = true ↔ ∃ c : ScreenId, s.screens[c].seq.state ≠ .idle ∧ s.screens[c].seq.segBase ≤ pool ∧
      pool < s.screens[c].seq.segBase + s.screens[c].seq.segLimit ∧
      pool ≤ s.screens[c].seq.segBase + s.screens[c].seq.cueIndex := by
  simp only [State.cueProtected, List.any_eq_true, mem_allScreens, true_and, ShowRecord.protects_iff]

/-- R52, R53: a CUE write of a pool entry, by what its entry is and the protection of the pool. -/
theorem State.writeCue_eq (s : State) (i : Fin 256) (e : List Byte) :
    s.writeCue i.val e =
      match cueOf i.val e with
      | none => (s, .range)
      | some cue =>
        if s.cueProtected i.val then (s, .inUse)
        else
          (s.modSeqr fun q => { q with cues := q.cues.set i cue, loopCounters := q.loopCounters.set i none }, .done) := by
  have found : fromZero 256 i.val = some i := by simp only [fromZero, i.isLt, dite_true]
  simp only [State.writeCue, found]
  rfl

/-- The CUE table, code 4, takes the write. -/
theorem State.writeCode_cue (s : State) (i : Fin 256) (e : List Byte) :
    State.writeCode 4 (BitVec.ofNat 16 i.val) e s = Written.out (s.writeCue i.val e) := by
  have number : (BitVec.ofNat 16 i.val : Half).toNat = i.val := by
    rw [BitVec.toNat_ofNat]
    exact Nat.mod_eq_of_lt (by omega)
  have taken : State.writeCode 4 (BitVec.ofNat 16 i.val) e s =
      Written.out (s.writeCue (BitVec.ofNat 16 i.val : Half).toNat e) := rfl
  rw [taken, number]

end Sys2Proof.Machine

namespace Sys2Proof.Proofs
open Machine

/-- Settles O23: each check in its order, the overlap being an entry that two segments share. -/
theorem segmentWrite : Obligations.SegmentWrite := by
  intro s m c b0 b1 b2 h index base limit overlap
  have check : writeCheck 3 [b0, b1, b2] = none := rfl
  have owner := State.writeCode_segment s.countTaken c [b0, b1, b2]
  have meets : s.countTaken.segmentMeets c base limit = true ↔ overlap := State.segmentMeets_iff s.countTaken c base limit
  have entry : s.countTaken.writeSegment (c.val + 1) [b0, b1, b2] =
      if 256 < base + limit then (s.countTaken, .range)
      else if s.screens[c].seq.state ≠ .idle then (s.countTaken, .inUse)
      else if s.countTaken.segmentMeets c base limit then (s.countTaken, .overlap)
      else (s.countTaken.modSeq c fun r => { r with segBase := base, segLimit := limit }, .done) :=
    State.writeSegment_eq s.countTaken c [b0, b1, b2]
  refine ⟨fun outside => congrArg Host.Outcome.next ?_, fun inside busy => congrArg Host.Outcome.next ?_,
    fun inside idle shared => congrArg Host.Outcome.next ?_, fun inside idle free => congrArg Host.Outcome.next ?_⟩
  · rw [entry, if_pos outside] at owner
    exact State.write_refused h (Nat.le_refl 1) check owner rfl
  · rw [entry, if_neg (Nat.not_lt.2 inside), if_pos busy] at owner
    exact State.write_refused h (Nat.le_refl 1) check owner rfl
  · rw [entry, if_neg (Nat.not_lt.2 inside), if_neg (not_not.2 idle), if_pos (meets.2 shared)] at owner
    exact State.write_refused h (Nat.le_refl 1) check owner rfl
  · rw [entry, if_neg (Nat.not_lt.2 inside), if_neg (not_not.2 idle), if_neg fun k => free (meets.1 k)] at owner
    exact State.write_done h check owner (Nat.lt_of_succ_le h.room.queued)

/-- Settles O24: the codes and arguments first, then the protection of the pool entry; what passes is stored clamped. -/
theorem cueWrite : Obligations.CueWrite := by
  intro s m i trigger action b0 b1 b2 b3 b4 b5 b6 b7 b8 b9 b10 b11 b12 h index write gain fits args protectedEntry
  let e : List Byte := [b0, b1, b2, b3, b4, b5, b6, b7, b8, b9, b10, b11, b12]
  have check : writeCheck 4 e = none := rfl
  have owner := (State.writeCode_cue s.countTaken i e).trans (congrArg Written.out (State.writeCue_eq _ i e))
  have guarded : s.countTaken.cueProtected i.val = true ↔ protectedEntry := State.cueProtected_iff s.countTaken i.val
  have refusedRange (none : cueOf i.val e = none) : exec write s = .next (s.turnedAway m (writeReply 1 4 index)) := by
    rw [none] at owner
    exact congrArg Host.Outcome.next (State.write_refused h (Nat.le_refl 1) check owner rfl)
  have fit : cueArgsFit i.val action e = true ↔ fits := by
    cases action with
    | segment => exact showStateOf_isSome b5.toNat
    | proj => exact Bool.and_eq_true_iff.trans (and_congr decide_eq_true_iff decide_eq_true_iff)
    | announce =>
      simp only [cueArgsFit, Bool.and_eq_true, decide_eq_true_eq, annModeOf_isSome, and_assoc, fits,
        Nat.one_le_iff_ne_zero]
      rfl
    | level | endShow => exact iff_of_true rfl trivial
    | admission => exact admissionOf_isSome b5.toNat
    | orders => exact orderingOf_isSome b5.toNat
    | loop => exact decide_eq_true_iff
  have stored : cueArgs action e = args := by
    have raw := cueArgs_raw b0 b1 b2 b3 b4 b5 b6 b7 b8 b9 b10 b11 b12
    cases action with
    | announce =>
      have third : byteAt e 7 = b7.toNat := rfl
      simp only [cueArgs, e, raw]
      rw [third, clampTo_priority]
      rfl
    | level =>
      have field : halfAt e 5 = twoBytes b5 b6 := rfl
      simp only [cueArgs, e, raw]
      rw [field, clampTo_zero]
      rfl
    | segment | proj | admission | orders | loop | endShow => exact raw
  refine ⟨fun unlisted => refusedRange (cueOf_unlisted unlisted), fun ht ha => ?_⟩
  have listed := cueOf_listed (pool := i.val) (e := e) ht ha
  refine ⟨fun misfit => refusedRange ?_, fun fitting taken => ?_, fun fitting free => ?_⟩
  · rw [listed, if_neg fun k => misfit (fit.1 k)]
  · rw [listed, if_pos (fit.2 fitting)] at owner
    simp only [if_pos (guarded.2 taken)] at owner
    exact congrArg Host.Outcome.next (State.write_refused h (Nat.le_refl 1) check owner rfl)
  · rw [listed, if_pos (fit.2 fitting), stored] at owner
    simp only [if_neg fun k => free (guarded.1 k)] at owner
    exact congrArg Host.Outcome.next (State.write_done h check owner (Nat.lt_of_succ_le h.room.queued))

end Sys2Proof.Proofs

/-! PROOFS. A cue tested and fired (R55, R57, R58): cues that wait, cues that set a level, and the projector of a show that a
GO resumes (R70). -/

namespace Sys2Proof.Machine

/-! ## One show record -/

theorem State.modSeq_self (s : State) (c : ScreenId) (f : ShowRecord → ShowRecord) :
    (s.modSeq c f).screens[c] = { s.screens[c] with seq := f s.screens[c].seq } := s.modScreen_self c _

/-- Two changes of one show record after each other. -/
theorem State.modSeq_modSeq (s : State) (c : ScreenId) (f g : ShowRecord → ShowRecord) :
    (s.modSeq c f).modSeq c g = s.modSeq c (g ∘ f) := s.modScreen_modScreen c _ _

/-- Changes that make the same of a show record are the same. -/
theorem State.modSeq_congr {s : State} {c : ScreenId} {f g : ShowRecord → ShowRecord}
    (h : f s.screens[c].seq = g s.screens[c].seq) : s.modSeq c f = s.modSeq c g := by
  simp only [State.modSeq, State.modScreen, h]

/-- The same pool, segment and cue index give the same current cue. -/
theorem State.currentCue_congr {s t : State} {c : ScreenId} (cues : t.seqr.cues = s.seqr.cues)
    (base : t.screens[c].seq.segBase = s.screens[c].seq.segBase)
    (index : t.screens[c].seq.cueIndex = s.screens[c].seq.cueIndex) : t.currentCue c = s.currentCue c := by
  simp only [State.currentCue, State.currentEntry, ShowRecord.poolEntry, cues, base, index]

/-- The current cue through a change of the show record that keeps the segment and the cue index. -/
theorem State.currentCue_modSeq (s : State) (c : ScreenId) {f : ShowRecord → ShowRecord}
    (base : (f s.screens[c].seq).segBase = s.screens[c].seq.segBase)
    (index : (f s.screens[c].seq).cueIndex = s.screens[c].seq.cueIndex) :
    (s.modSeq c f).currentCue c = s.currentCue c :=
  State.currentCue_congr rfl (by rw [State.modSeq_self, base]) (by rw [State.modSeq_self, index])

/-! ## Tests (R55) -/

theorem State.testable_iff (s : State) (c : ScreenId) :
    s.testable c = true ↔ s.screens[c].seq.state = .running ∧ s.screens[c].seq.resting = false := by
  simp only [State.testable, Bool.and_eq_true, decide_eq_true_eq, Bool.not_eq_true']

/-- R55: a cue of a show that is not RUNNING, or that rests, is not tested. -/
theorem State.testable_false {s : State} {c : ScreenId}
    (h : s.screens[c].seq.state ≠ .running ∨ s.screens[c].seq.resting = true) : s.testable c = false := by
  refine Bool.eq_false_iff.2 fun k => ?_
  obtain ⟨running, moves⟩ := (s.testable_iff c).1 k
  rcases h with other | rests
  · exact other running
  · rw [moves] at rests
    cases rests

theorem State.testCue_waitsForGo {s : State} {c : ScreenId} (h : s.waitsForGo c) : s.testCue c false = .waits := by
  simp only [State.testCue, h.trigger, h.noPending, Bool.false_eq_true, if_false]

/-- A GO cue at the cue index waits while no GO is pending. -/
theorem State.waitsForGo.of_index {s : State} {c : ScreenId} {index : Nat} (stands : s.screens[c].seq.cueIndex = index)
    (cue : s.seqr.cues[s.screens[c].seq.poolEntry index].trigger = .go) (noPending : s.screens[c].seq.goPending = false) :
    s.waitsForGo c := by
  subst stands
  exact ⟨cue, noPending⟩

/-- R55: a cue whose trigger does not hold stands. -/
theorem State.runCues_waits {s : State} {c : ScreenId} {byGo : Bool} (h : s.testCue c byGo = .waits) (n : Nat) :
    State.runCues c n byGo s = s := by
  cases n with
  | zero => rfl
  | succ n =>
    simp only [State.runCues, h]
    split <;> rfl

/-- R55, R58: a cue whose trigger holds fires, and the run goes on. -/
theorem State.runCues_fires {s : State} {c : ScreenId} {byGo : Bool} {t : CueTest} (testable : s.testable c = true)
    (test : s.testCue c byGo = t) (fires : t ≠ .waits) (n : Nat) :
    State.runCues c (n + 1) byGo s = State.runCues c n false (s.fire c t) := by
  cases t with
  | waits => exact absurd rfl fires
  | fires | firesOnPending => simp only [State.runCues, testable, test, if_true]

/-! ## Firings (R57, R58) -/

/-- R57: the current cue is a CLOCK cue and its time is past (log 18). -/
def State.lateCue (s : State) (c : ScreenId) : Bool :=
  decide ((s.currentCue c).trigger = .clock) && decide ((s.currentCue c).time < s.screens[c].seq.clock)

theorem State.lateCue_iff (s : State) (c : ScreenId) :
    s.lateCue c = true ↔ (s.currentCue c).trigger = .clock ∧ (s.currentCue c).time < s.screens[c].seq.clock := by
  simp only [State.lateCue, Bool.and_eq_true, decide_eq_true_eq]

/-- R57: the count of late cues after a firing. -/
def Sequencer.countLate (q : Sequencer) (late : Bool) : Sequencer :=
  { q with lateCues := if late then bump16 q.lateCues else q.lateCues }

/-- R55: the GO that a firing on it uses up. -/
def ShowRecord.consumed (r : ShowRecord) (t : CueTest) : ShowRecord :=
  { r with goPending := if t = .firesOnPending then false else r.goPending }

theorem State.beforeFiring_eq (s : State) (c : ScreenId) (t : CueTest) :
    s.beforeFiring c t = (s.modSeq c (·.consumed t)).modSeqr (·.countLate (s.lateCue c)) := by
  have taken : (if t = .firesOnPending then s.modSeq c fun r => { r with goPending := false } else s) =
      s.modSeq c (·.consumed t) := by
    unfold ShowRecord.consumed
    split
    · rfl
    · exact (s.modScreen_same c rfl).symm
  simp only [State.beforeFiring, taken, ← State.lateCue_iff]
  unfold Sequencer.countLate
  split <;> rfl

/-- A cue that is not late fires without a count, and without a GO unless it fires on one. -/
theorem State.beforeFiring_fires {s : State} {c : ScreenId} (prompt : s.lateCue c = false) :
    s.beforeFiring c .fires = s := by
  have same : s.modSeq c (·.consumed .fires) = s := s.modScreen_id c
  rw [State.beforeFiring_eq, prompt, same]
  rfl

/-- R58: the next cue of the segment, if there is one. -/
theorem State.moveOn_next {s : State} {c : ScreenId} (more : s.screens[c].seq.cueIndex + 1 < s.screens[c].seq.segLimit) :
    s.moveOn c .next = s.modSeq c fun r => { r with cueIndex := r.cueIndex + 1 } := by
  simp only [State.moveOn, if_neg (Nat.not_le.2 more)]

/-- R58, R62: behind the last cue the show ends. -/
theorem State.moveOn_last {s : State} {c : ScreenId} (last : s.screens[c].seq.cueIndex + 1 = s.screens[c].seq.segLimit) :
    s.moveOn c .next = s.toIdle c s.screens[c].seq.cueIndex := by
  simp only [State.moveOn, ← last, Nat.le_refl, if_true, Nat.add_sub_cancel]

/-- R58: without a rehearsal, or with the show at its end, no step holds. -/
theorem State.stepHold_none {s : State} {c : ScreenId}
    (h : s.screens[c].seq.rehearsal = false ∨ s.screens[c].seq.state ≠ .running) : s.stepHold c = s := by
  refine if_neg fun ⟨running, rehearsal⟩ => h.elim (fun off => ?_) fun ended => ended running
  rw [off] at rehearsal
  cases rehearsal

/-! ## Cues that set a level (R58, R60) -/

/-- R60: the current cue's level becomes the gain target of the screen's output. -/
def State.setLevel (s : State) (c : ScreenId) : State :=
  s.modOutputConfig (outputOf c) fun g =>
    { g with gainTarget := (s.currentCue c).args[0].toNat + 256 * (s.currentCue c).args[1].toNat }

theorem State.act_level {s : State} {c : ScreenId} (level : (s.currentCue c).action = .level) :
    s.act c = (s.setLevel c, .next) := by
  simp only [State.act, level]
  rfl

/-- R57, R58: a level cue fired, before the sequencer moves on: the GO used up, the late cue counted, the level set and the
after reference taken. -/
def State.levelNoted (s : State) (c : ScreenId) (t : CueTest) : State :=
  ((s.setLevel c).modSeq c fun r => { r.consumed t with afterRef := r.clock }).modSeqr (·.countLate (s.lateCue c))

theorem State.fire_level {s : State} {c : ScreenId} (level : (s.currentCue c).action = .level) (t : CueTest) :
    s.fire c t = ((s.levelNoted c t).moveOn c .next).stepHold c := by
  have cue : (s.beforeFiring c t).currentCue c = s.currentCue c := by
    rw [State.beforeFiring_eq]
    exact s.currentCue_modSeq c rfl rfl
  have acted : ((s.beforeFiring c t).setLevel c).modSeq c (fun r => { r with afterRef := r.clock }) =
      s.levelNoted c t := by
    have moved : ((s.setLevel c).modSeq c (·.consumed t)).modSeq c (fun r => { r with afterRef := r.clock }) =
        (s.setLevel c).modSeq c fun r => { r.consumed t with afterRef := r.clock } := State.modSeq_modSeq _ c _ _
    rw [State.setLevel, cue, State.beforeFiring_eq, State.levelNoted, ← moved]
    rfl
  simp only [State.fire, State.act_level (cue ▸ level), acted]

theorem State.levelNoted_seq (s : State) (c : ScreenId) (t : CueTest) :
    (s.levelNoted c t).screens[c].seq = { s.screens[c].seq.consumed t with afterRef := s.screens[c].seq.clock } :=
  congrArg Screen.seq ((s.setLevel c).modSeq_self c fun r => { r.consumed t with afterRef := r.clock })

/-- R58: a show record on the next cue after a firing that has left no GO pending. -/
def ShowRecord.advanced (r : ShowRecord) : ShowRecord :=
  { r with goPending := false, afterRef := r.clock, cueIndex := r.cueIndex + 1 }

/-- R58: a level cue fired, and the sequencer on the next cue. -/
def State.levelFired (s : State) (c : ScreenId) : State :=
  ((s.setLevel c).modSeq c ShowRecord.advanced).modSeqr (·.countLate (s.lateCue c))

theorem State.levelFired_seq (s : State) (c : ScreenId) :
    (s.levelFired c).screens[c].seq = s.screens[c].seq.advanced :=
  congrArg Screen.seq ((s.setLevel c).modSeq_self c ShowRecord.advanced)

/-- R55, R58: a level cue fires, and the next cue, which needs a GO, waits: no GO is left pending. -/
theorem State.runCues_level {s : State} {c : ScreenId} {byGo : Bool} {t : CueTest} (testable : s.testable c = true)
    (test : s.testCue c byGo = t) (fires : t ≠ .waits) (consumed : (s.screens[c].seq.consumed t).goPending = false)
    (level : (s.currentCue c).action = .level) (noRehearsal : s.screens[c].seq.rehearsal = false)
    (more : s.screens[c].seq.cueIndex + 1 < s.screens[c].seq.segLimit)
    (next : s.seqr.cues[s.screens[c].seq.poolEntry (s.screens[c].seq.cueIndex + 1)].trigger = .go) (n : Nat) :
    State.runCues c (n + 1) byGo s = s.levelFired c := by
  have moved : (s.levelNoted c t).moveOn c .next = s.levelFired c := by
    have advanced : (s.setLevel c).screens[c].seq.advanced =
        { (s.screens[c].seq.consumed t) with
          afterRef := s.screens[c].seq.clock, cueIndex := s.screens[c].seq.cueIndex + 1 } := by
      rw [ShowRecord.advanced, ← consumed]
      rfl
    have twice := ((s.setLevel c).modSeq_modSeq c (fun r => { r.consumed t with afterRef := r.clock })
      fun r => { r with cueIndex := r.cueIndex + 1 }).trans (State.modSeq_congr advanced.symm)
    rw [State.moveOn_next (by rw [s.levelNoted_seq]; exact more)]
    exact congrArg (State.modSeqr · (·.countLate (s.lateCue c))) twice
  have waits : (s.levelFired c).waitsForGo c := by
    have seq := s.levelFired_seq c
    refine .of_index (by rw [seq]) ?_ (by rw [seq]; rfl)
    simp only [seq]
    exact next
  rw [State.runCues_fires testable test fires, State.fire_level level, moved,
    State.stepHold_none (.inl (by rw [s.levelFired_seq]; exact noRehearsal)), State.runCues_waits (State.testCue_waitsForGo waits)]

/-- R58, R62: a level cue behind which the segment ends fires, and ends the show. -/
theorem State.runCues_lastLevel {s : State} {c : ScreenId} {byGo : Bool} {t : CueTest} (testable : s.testable c = true)
    (test : s.testCue c byGo = t) (fires : t ≠ .waits) (level : (s.currentCue c).action = .level)
    (last : s.screens[c].seq.cueIndex + 1 = s.screens[c].seq.segLimit) (n : Nat) :
    State.runCues c (n + 1) byGo s = (s.levelNoted c t).toIdle c s.screens[c].seq.cueIndex := by
  have noted := s.levelNoted_seq c t
  have ended := (s.levelNoted c t).toIdle_ended c s.screens[c].seq.cueIndex
  have idle : ((s.levelNoted c t).toIdle c s.screens[c].seq.cueIndex).screens[c].seq.state = .idle := by
    rw [ended.seq]
    rfl
  have moved : (s.levelNoted c t).moveOn c .next = (s.levelNoted c t).toIdle c s.screens[c].seq.cueIndex := by
    rw [State.moveOn_last (by rw [noted]; exact last), noted]
    rfl
  have still := State.testable_false (.inl (show _ ≠ SeqState.running by rw [idle]; exact nofun))
  rw [State.runCues_fires testable test fires, State.fire_level level, moved,
    State.stepHold_none (.inr (by rw [idle]; exact nofun)), State.runCues_untestable still]

/-- A level cue that is not late and finds no GO pending, fired. -/
theorem State.levelFired_prompt {s : State} {c : ScreenId} (noPending : s.screens[c].seq.goPending = false)
    (prompt : s.lateCue c = false) :
    s.levelFired c =
      (s.setLevel c).modSeq c fun r => { r with afterRef := r.clock, cueIndex := r.cueIndex + 1 } := by
  have record : (s.setLevel c).modSeq c ShowRecord.advanced =
      (s.setLevel c).modSeq c fun r => { r with afterRef := r.clock, cueIndex := r.cueIndex + 1 } := by
    refine State.modSeq_congr ?_
    have free : (s.setLevel c).screens[c].seq.goPending = false := noPending
    rw [ShowRecord.advanced, ← free]
  rw [State.levelFired, prompt, record]
  rfl

theorem State.lateCue_false {s : State} {c : ScreenId} (h : (s.currentCue c).trigger ≠ .clock) : s.lateCue c = false :=
  Bool.eq_false_iff.2 fun k => h ((s.lateCue_iff c).1 k).1

/-- R55, R58: a change of the show record that makes a level cue fire, with the next cue waiting for a GO. -/
theorem State.test_level {s : State} {c : ScreenId} {f : ShowRecord → ShowRecord} {t : CueTest}
    (segment : (f s.screens[c].seq).segBase = s.screens[c].seq.segBase ∧
      (f s.screens[c].seq).segLimit = s.screens[c].seq.segLimit ∧ (f s.screens[c].seq).cueIndex = s.screens[c].seq.cueIndex)
    (free : (f s.screens[c].seq).state = .running ∧ (f s.screens[c].seq).resting = false ∧
      (f s.screens[c].seq).rehearsal = false)
    (test : (s.modSeq c f).testCue c false = t) (fires : t ≠ .waits)
    (consumed : ((f s.screens[c].seq).consumed t).goPending = false) (level : (s.currentCue c).action = .level)
    (more : s.screens[c].seq.cueIndex + 1 < s.screens[c].seq.segLimit)
    (next : s.seqr.cues[s.screens[c].seq.poolEntry (s.screens[c].seq.cueIndex + 1)].trigger = .go) :
    (s.modSeq c f).test c =
      ((s.setLevel c).modSeq c (ShowRecord.advanced ∘ f)).modSeqr
        (·.countLate (decide ((s.currentCue c).trigger = .clock) &&
          decide ((s.currentCue c).time < (f s.screens[c].seq).clock))) := by
  obtain ⟨base, limit, index⟩ := segment
  obtain ⟨running, moves, noRehearsal⟩ := free
  have seq : (s.modSeq c f).screens[c].seq = f s.screens[c].seq := congrArg Screen.seq (s.modSeq_self c f)
  have cue := s.currentCue_modSeq c base index
  have entry : (s.modSeq c f).screens[c].seq.poolEntry ((s.modSeq c f).screens[c].seq.cueIndex + 1) =
      s.screens[c].seq.poolEntry (s.screens[c].seq.cueIndex + 1) := by
    simp only [ShowRecord.poolEntry, seq, base, index]
  have ran := State.runCues_level ((State.testable_iff _ c).2 (seq ▸ ⟨running, moves⟩)) test fires (seq ▸ consumed)
    (cue ▸ level) (seq ▸ noRehearsal) (by rw [seq, index, limit]; exact more) (by simp only [entry]; exact next) 256
  have late : (s.modSeq c f).lateCue c = (decide ((s.currentCue c).trigger = .clock) &&
      decide ((s.currentCue c).time < (f s.screens[c].seq).clock)) := by
    rw [State.lateCue, cue, seq]
  have fired : ((s.modSeq c f).setLevel c).modSeq c ShowRecord.advanced =
      (s.setLevel c).modSeq c (ShowRecord.advanced ∘ f) := by
    rw [State.setLevel, cue]
    exact (s.setLevel c).modSeq_modSeq c f ShowRecord.advanced
  rw [State.test, runFuel, ran, State.levelFired, late, fired]

/-! ## Projector commands (R68) -/

/-- R68: a projector command handed over to a queue with room, or counted as skipped on a screen without a projector. -/
def State.projSent (s : State) (c : ScreenId) (command argument : Nat) : State :=
  if s.screens[c].config.projector = 0 then s.modSeqr fun q => { q with skippedProj := bump16 q.skippedProj }
  else s.modCell fun p => { p with urgent := p.urgent ++ [s.projCell c command argument] }

theorem State.sendProj_room_eq {s : State} (room : s.cell.queued < 16) (c : ScreenId) (command argument : Nat) :
    s.sendProj c command argument = s.projSent c command argument := by
  unfold State.projSent
  split
  · next absent => exact State.sendProj_none absent command argument
  · next present => exact State.sendProj_room present room command argument

theorem State.projSent_screens (s : State) (c : ScreenId) (command argument : Nat) :
    (s.projSent c command argument).screens = s.screens := by
  unfold State.projSent
  split <;> rfl

theorem State.projSent_cell (s : State) (c : ScreenId) (command argument : Nat) :
    (s.projSent c command argument).cell =
      { s.cell with
        urgent := s.cell.urgent ++
          if s.screens[c].config.projector ≠ 0 then [s.projCell c command argument] else [] } := by
  by_cases absent : s.screens[c].config.projector = 0
  · rw [State.projSent, if_pos absent, if_neg (not_not.2 absent), List.append_nil]
    rfl
  · rw [State.projSent, if_neg absent, if_pos absent]
    rfl

/-- A command to a projector touches no other block. -/
theorem State.projSent_blocks (s : State) (c : ScreenId) (command argument : Nat) :
    (s.projSent c command argument).sound = s.sound ∧ (s.projSent c command argument).loop = s.loop ∧
      (s.projSent c command argument).gate = s.gate ∧ (s.projSent c command argument).mgmt = s.mgmt := by
  unfold State.projSent
  split <;> exact ⟨rfl, rfl, rfl, rfl⟩

/-- A command to a projector and a change of the show record go past each other. -/
theorem State.projSent_modSeq (s : State) (c d : ScreenId) (f : ShowRecord → ShowRecord) (command argument : Nat) :
    (s.modSeq d f).projSent c command argument = (s.projSent c command argument).modSeq d f := by
  have config : (s.modSeq d f).screens[c].config = s.screens[c].config := by
    by_cases same : c = d
    · subst same
      rw [State.modSeq_self]
    · rw [State.modSeq, State.modScreen_other _ _ _ same]
  have cell : (s.modSeq d f).projCell c command argument = s.projCell c command argument := by
    simp only [State.projCell, config]
  simp only [State.projSent, config, cell]
  split <;> rfl

end Sys2Proof.Machine

/-! PROOFS. START, GO and the panel keys (R54, R62, R63, R66, R70), settling `StartCommand`, `GoCommand` and `PanelKeys`. -/

namespace Sys2Proof.Machine

/-! ## START (R54) -/

/-- R54: the loop counters once those of a screen's segment are UNLOADED. -/
def State.unloaded (s : State) (c : ScreenId) : Vector (Option Nat) 256 :=
  Vector.ofFn fun i : Fin 256 =>
    if s.screens[c].seq.segBase ≤ i.val ∧ i.val < s.screens[c].seq.segBase + s.screens[c].seq.segLimit then none
    else s.seqr.loopCounters[i]

/-- An empty segment has no loop counters. -/
theorem State.unloaded_empty {s : State} {c : ScreenId} (empty : s.screens[c].seq.segLimit = 0) :
    s.unloaded c = s.seqr.loopCounters := by
  have outside (i : Nat) : ¬ (s.screens[c].seq.segBase ≤ i ∧ i < s.screens[c].seq.segBase + s.screens[c].seq.segLimit) := by
    omega
  refine Vector.ext fun i hi => ?_
  rw [State.unloaded, Vector.getElem_ofFn, if_neg (outside i)]
  rfl

/-- R54: a show started, before its first cue is tested. -/
def State.begun (s : State) (c : ScreenId) : State :=
  { s.modSeq c ShowRecord.started with seqr := { s.seqr with loopCounters := s.unloaded c } }

theorem State.unloadSegment_started (s : State) (c : ScreenId) :
    (s.modSeq c ShowRecord.started).unloadSegment c = s.begun c := by
  simp only [State.unloadSegment, State.modSeq_self]
  rfl

theorem State.begun_seq (s : State) (c : ScreenId) : (s.begun c).screens[c].seq = s.screens[c].seq.started :=
  congrArg Screen.seq (s.modSeq_self c ShowRecord.started)

theorem State.begun_cues (s : State) (c : ScreenId) : (s.begun c).seqr.cues = s.seqr.cues := by
  simp only [State.begun]

theorem State.begun_cue (s : State) (c : ScreenId) :
    (s.begun c).currentCue c = s.seqr.cues[s.screens[c].seq.poolEntry 0] := by
  simp only [State.currentCue, State.currentEntry, s.begun_seq, s.begun_cues]
  rfl

/-- R54: START of a screen that is not enabled, or whose sequencer is not IDLE, is refused. -/
theorem State.doStart_refused {s : State} {c : ScreenId}
    (h : s.screens[c].config.enabled = false ∨ s.screens[c].seq.state ≠ .idle) : s.doStart c = (s, .state) := by
  refine if_neg fun ⟨enabled, idle⟩ => h.elim (fun off => ?_) fun busy => busy idle
  rw [off] at enabled
  cases enabled

/-- R54, R62: START of an empty segment ends at once. -/
theorem State.doStart_empty {s : State} {c : ScreenId} (enabled : s.screens[c].config.enabled = true)
    (idle : s.screens[c].seq.state = .idle) (dark : s.screens[c].seq.shown = .dark)
    (empty : s.screens[c].seq.segLimit = 0) :
    s.doStart c = (s.modSeq c (·.started.idled 0), .done) := by
  have unloaded : s.begun c = s.modSeq c ShowRecord.started := by
    rw [State.begun, s.unloaded_empty empty]
    rfl
  have ended : (s.begun c).toIdle c 0 = s.modSeq c (·.started.idled 0) := by
    rw [State.toIdle_dark _ c 0 (by rw [s.begun_seq]; exact dark), unloaded, State.modSeq_modSeq]
    rfl
  simp only [State.doStart, if_pos (And.intro enabled idle), s.unloadSegment_started, if_pos empty, ended]

/-- R54: START tests the first cue of a segment that has one. -/
theorem State.doStart_runs {s : State} {c : ScreenId} (enabled : s.screens[c].config.enabled = true)
    (idle : s.screens[c].seq.state = .idle) (cues : 1 ≤ s.screens[c].seq.segLimit) :
    s.doStart c = ((s.begun c).test c, .done) := by
  simp only [State.doStart, if_pos (And.intro enabled idle), s.unloadSegment_started, if_neg (Nat.ne_of_gt cues)]

/-- R54, R55: a first cue that needs a GO waits. -/
theorem State.begun_waits {s : State} {c : ScreenId}
    (cue : s.seqr.cues[s.screens[c].seq.poolEntry 0].trigger = .go) : (s.begun c).waitsForGo c := by
  have entry : (s.begun c).screens[c].seq.poolEntry 0 = s.screens[c].seq.poolEntry 0 := by
    rw [s.begun_seq]
    rfl
  refine .of_index (index := 0) (by rw [s.begun_seq]; rfl) ?_ (by rw [s.begun_seq]; rfl)
  simp only [entry, s.begun_cues]
  exact cue

/-- R10, R58: a FOLLOW cue that lights a DARK screen fires, and the next cue, which needs a GO, waits. The event of the
change of show state is raised in between. -/
theorem State.test_lights {s : State} {c : ScreenId} {new : ShowState} (testable : s.testable c = true)
    (trigger : (s.currentCue c).trigger = .follow) (action : (s.currentCue c).action = .segment)
    (shows : showStateOf (s.currentCue c).args[0].toNat = some new) (lit : new ≠ .dark)
    (dark : s.screens[c].seq.shown = .dark) (noPending : s.screens[c].seq.goPending = false)
    (noRehearsal : s.screens[c].seq.rehearsal = false)
    (more : s.screens[c].seq.cueIndex + 1 < s.screens[c].seq.segLimit)
    (next : s.seqr.cues[s.screens[c].seq.poolEntry (s.screens[c].seq.cueIndex + 1)].trigger = .go) :
    ∃ u, Raised (s.modSeq c fun r => { r with shown := new }) u ∧ u.cell.queued ≤ s.cell.queued + 1 ∧
      s.test c = u.modSeq c fun r => { r with afterRef := r.clock, cueIndex := r.cueIndex + 1 } := by
  have test : s.testCue c false = .fires := by simp only [State.testCue, trigger]
  have prompt : s.lateCue c = false := State.lateCue_false (by simp [trigger])
  have changed : s.changeShow c new =
      (s.modSeq c fun r => { r with shown := new }).raise .showState (numberOf c) new.code (some c) := by
    simp only [s.changeShow_lit c new (dark ▸ lit.symm) lit, State.showReactions, dark, reduceCtorEq, if_false]
  have acted : s.act c = (s.changeShow c new, .next) := by simp only [State.act, action, shows]
  have raised := State.raise_raised (s.modSeq c fun r => { r with shown := new }) .showState (numberOf c) new.code (some c)
  have queued := State.raise_queued (s.modSeq c fun r => { r with shown := new }) .showState (numberOf c) new.code (some c)
  rw [← changed] at raised queued
  refine ⟨s.changeShow c new, raised, queued, ?_⟩
  generalize s.changeShow c new = u at *
  have seq : u.screens[c].seq = { s.screens[c].seq with shown := new } := by
    rw [raised.screens, State.modSeq_self]
  have noted : (u.modSeq c fun r => { r with afterRef := r.clock }).screens[c].seq =
      { s.screens[c].seq with shown := new, afterRef := s.screens[c].seq.clock } := by
    rw [State.modSeq_self, seq]
  have moved : (u.modSeq c fun r => { r with afterRef := r.clock }).moveOn c .next =
      u.modSeq c fun r => { r with afterRef := r.clock, cueIndex := r.cueIndex + 1 } := by
    rw [State.moveOn_next (by rw [noted]; exact more), State.modSeq_modSeq]
    rfl
  have after : (u.modSeq c fun r => { r with afterRef := r.clock, cueIndex := r.cueIndex + 1 }).screens[c].seq =
      { s.screens[c].seq with
        shown := new, afterRef := s.screens[c].seq.clock, cueIndex := s.screens[c].seq.cueIndex + 1 } := by
    rw [State.modSeq_self, seq]
  have fired : s.fire c .fires = u.modSeq c fun r => { r with afterRef := r.clock, cueIndex := r.cueIndex + 1 } := by
    simp only [State.fire, State.beforeFiring_fires prompt, acted, moved]
    exact State.stepHold_none (.inl (by rw [after]; exact noRehearsal))
  have waits : (u.modSeq c fun r => { r with afterRef := r.clock, cueIndex := r.cueIndex + 1 }).waitsForGo c := by
    refine .of_index (by rw [after]) ?_ (by rw [after]; exact noPending)
    simp only [after, State.modSeq_seqr, raised.kept.seqr]
    exact next
  rw [State.test, runFuel, State.runCues_fires testable test nofun, fired,
    State.runCues_waits (State.testCue_waitsForGo waits)]

/-! ## GO (R63, R70) -/

theorem State.doGo_idle {s : State} {c : ScreenId} (idle : s.screens[c].seq.state = .idle) : s.doGo c = (s, .state) := by
  simp only [State.doGo, idle]

/-- R63: a GO at a GO cue that does not rest fires it. -/
theorem State.doGo_fires {s : State} {c : ScreenId} (free : s.runsFreely c) (trigger : (s.currentCue c).trigger = .go) :
    s.doGo c = (State.runCues c runFuel true s, .done) := by
  have taken : (s.currentCue c).trigger = .go ∧ !s.screens[c].seq.resting := ⟨trigger, by rw [free.noRest]; rfl⟩
  simp only [State.doGo, free.running, if_pos taken]

/-- R63: another GO of a RUNNING show is pending when the cue is tested. -/
theorem State.doGo_pends {s : State} {c : ScreenId} (running : s.screens[c].seq.state = .running)
    (h : s.screens[c].seq.resting = true ∨ (s.currentCue c).trigger ≠ .go) :
    s.doGo c = ((s.modSeq c fun r => { r with goPending := true }).test c, .done) := by
  have notTaken : ¬ ((s.currentCue c).trigger = .go ∧ !s.screens[c].seq.resting) := by
    rintro ⟨trigger, moves⟩
    rcases h with rests | other
    · rw [rests] at moves
      cases moves
    · exact other trigger
  simp only [State.doGo, running, if_neg notTaken]

/-- R63: a show record that a GO resumes. -/
def ShowRecord.resumed (r : ShowRecord) : ShowRecord := { r with state := .running, holdReason := none, resting := false }

/-- R63: a GO resumes a HELD show, here at a cue that waits for a GO, once PLAY is sent or not. -/
theorem State.doGo_held {s u : State} {c : ScreenId} (held : s.screens[c].seq.state = .held)
    (played : (s.modSeq c fun r => { r with state := .running, holdReason := none }).resumePlay c = u)
    (waits : (u.modSeq c fun r => { r with resting := false }).waitsForGo c) :
    s.doGo c = (u.modSeq c fun r => { r with resting := false }, .done) := by
  simp only [State.doGo, held, played, State.test_waits waits]

/-- R63: a show that no failure hold had paused goes on without PLAY. -/
theorem State.doGo_unpaused {s : State} {c : ScreenId} (held : s.screens[c].seq.state = .held) (waits : s.waitsForGo c)
    (unpaused : s.screens[c].seq.pausedByHold = false) : s.doGo c = (s.modSeq c ShowRecord.resumed, .done) := by
  have still : (s.modSeq c fun r => { r with state := .running, holdReason := none }).screens[c].seq.pausedByHold = false := by
    rw [State.modSeq_self, unpaused]
  have played : (s.modSeq c fun r => { r with state := .running, holdReason := none }).resumePlay c =
      s.modSeq c fun r => { r with state := .running, holdReason := none } := by
    simp only [State.resumePlay, still, Bool.false_eq_true, if_false]
  have resumed : (s.modSeq c fun r => { r with state := .running, holdReason := none }).modSeq c
      (fun r => { r with resting := false }) = s.modSeq c ShowRecord.resumed := State.modSeq_modSeq ..
  have waiting : (s.modSeq c ShowRecord.resumed).waitsForGo c :=
    waits.modSeq c ShowRecord.resumed fun _ => ⟨rfl, rfl, rfl⟩
  rw [State.doGo_held held played (resumed ▸ waiting), resumed]

/-- R70: a show that a failure hold had paused goes on with PLAY, with argument 0 (log 44). -/
theorem State.doGo_paused {s : State} {c : ScreenId} (held : s.screens[c].seq.state = .held) (waits : s.waitsForGo c)
    (paused : s.screens[c].seq.pausedByHold = true) (room : s.cell.queued < 16) :
    s.doGo c =
      ((s.projSent c projPlay 0).modSeq c fun r => { r.resumed with pausedByHold := false }, .done) := by
  have still : (s.modSeq c fun r => { r with state := .running, holdReason := none }).screens[c].seq.pausedByHold = true := by
    rw [State.modSeq_self, paused]
  have played : (s.modSeq c fun r => { r with state := .running, holdReason := none }).resumePlay c =
      ((s.projSent c projPlay 0).modSeq c fun r => { r with state := .running, holdReason := none }).modSeq c
        fun r => { r with pausedByHold := false } := by
    rw [State.resumePlay, if_pos still, State.sendProj_room_eq (s := s.modSeq c _) room, State.projSent_modSeq]
  have resumed : (((s.projSent c projPlay 0).modSeq c fun r => { r with state := .running, holdReason := none }).modSeq c
      fun r => { r with pausedByHold := false }).modSeq c (fun r => { r with resting := false }) =
      (s.projSent c projPlay 0).modSeq c fun r => { r.resumed with pausedByHold := false } := by
    rw [State.modSeq_modSeq, State.modSeq_modSeq]
    rfl
  have waiting : (s.projSent c projPlay 0).waitsForGo c := by
    unfold State.projSent
    split <;> exact ⟨waits.trigger, waits.noPending⟩
  rw [State.doGo_held held played, resumed]
  rw [resumed]
  exact waiting.modSeq c (fun r => { r.resumed with pausedByHold := false }) fun _ => ⟨rfl, rfl, rfl⟩

/-! ## Panel keys (R66) -/

/-- R66: a key that is not taken is counted. -/
def State.keyIgnored (s : State) : State := s.modSeqr fun q => { q with ignoredKeys := bump16 q.ignoredKeys }

/-- R66: a key whose command is refused is counted. -/
def State.keyRefused (s : State) : State := s.modSeqr fun q => { q with refusedKeys := bump16 q.refusedKeys }

/-- R66: a station is the panel of a screen. -/
def State.panelOf (s : State) (source : Byte) (c : ScreenId) : Prop :=
  s.screens[c].config.panel ≠ 0 ∧ s.screens[c].config.panel = source.toNat

theorem keyCommand_none {n : Nat} (h : n = 0 ∨ 4 < n) : keyCommand n = none := by
  unfold keyCommand
  split
  case h_5 => rfl
  all_goals omega

theorem State.takePanelKey_noScreen (s : State) (source key : Byte) {b : Byte} (h : b = 0 ∨ 4 < b.toNat) :
    s.takePanelKey source b key = s.keyIgnored := by
  simp only [State.takePanelKey, fromOne_none h]
  rfl

theorem State.takePanelKey_noKey (s : State) (source : Byte) (c : ScreenId) {key : Byte}
    (h : keyCommand key.toNat = none) :
    s.takePanelKey source (BitVec.ofNat 8 (c.val + 1)) key = s.keyIgnored := by
  simp only [State.takePanelKey, fromOne_screen, h]
  rfl

theorem State.takePanelKey_otherStation {s : State} {source : Byte} {c : ScreenId} (h : ¬ s.panelOf source c)
    (key : Byte) : s.takePanelKey source (BitVec.ofNat 8 (c.val + 1)) key = s.keyIgnored := by
  cases command : keyCommand key.toNat with
  | none => exact s.takePanelKey_noKey source c command
  | some f =>
    unfold State.panelOf at h
    simp only [State.takePanelKey, fromOne_screen, command, if_neg h]
    rfl

/-- R66: a key of the screen's panel whose command is refused. -/
theorem State.takePanelKey_refused {s : State} {source key : Byte} {c : ScreenId}
    {command : State → ScreenId → State × Reply} (h : s.panelOf source c) (named : keyCommand key.toNat = some command)
    (refused : command s c = (s, .state)) :
    s.takePanelKey source (BitVec.ofNat 8 (c.val + 1)) key = s.keyRefused := by
  unfold State.panelOf at h
  simp only [State.takePanelKey, fromOne_screen, named, if_pos h, refused]
  rfl

/-- R66: a key of the screen's panel whose command is done acts as the command does, without a reply. -/
theorem State.takePanelKey_done {s u : State} {source key : Byte} {c : ScreenId}
    {command : State → ScreenId → State × Reply} (h : s.panelOf source c) (named : keyCommand key.toNat = some command)
    (done : command s c = (u, .done)) :
    s.takePanelKey source (BitVec.ofNat 8 (c.val + 1)) key = u := by
  unfold State.panelOf at h
  simp only [State.takePanelKey, fromOne_screen, named, if_pos h, done]

/-- R64: HOLD, and R65: ABORT, of an IDLE sequencer are refused; HOLD of a RUNNING one holds it. -/
theorem State.doHold_idle {s : State} {c : ScreenId} (idle : s.screens[c].seq.state = .idle) :
    s.doHold c = (s, .state) := by
  simp only [State.doHold, idle]

theorem State.doHold_running {s : State} {c : ScreenId} (running : s.screens[c].seq.state = .running) :
    s.doHold c = (s.modSeq c fun r => { r with state := .held, holdReason := some .operator }, .done) := by
  simp only [State.doHold, running]

theorem State.doAbort_idle {s : State} {c : ScreenId} (idle : s.screens[c].seq.state = .idle) :
    s.doAbort c = (s, .state) := if_pos idle

end Sys2Proof.Machine

namespace Sys2Proof.Proofs
open Machine

theorem obey_start (s : State) (c : ScreenId) : s.obey (.start (BitVec.ofNat 8 (c.val + 1))) = s.doStart c :=
  s.screenCommand_screen c _

theorem obey_go (s : State) (c : ScreenId) : s.obey (.go (BitVec.ofNat 8 (c.val + 1))) = s.doGo c :=
  s.screenCommand_screen c _

/-- R54, R58: from `s` to `u` screen `c`'s show has started, and its first cue has set PRESHOW. -/
structure PreshowStarted (s : State) (c : ScreenId) (u : State) : Prop where
  own : u.screens[c] =
    { s.screens[c] with seq := { s.screens[c].seq.started with shown := .preshow, cueIndex := 1 } }
  others : ∀ d : ScreenId, d ≠ c → u.screens[d] = s.screens[d]
  seqr : u.seqr = { s.seqr with loopCounters := s.unloaded c }
  urgent : u.cell.urgent = s.cell.urgent
  queued : u.cell.queued ≤ s.cell.queued + 1
  traffic : ({ s with seqr := u.seqr } : State).sameButTraffic u

/-- R54, R58: START of a DARK screen whose first cue sets PRESHOW, while the next one waits for a GO. -/
theorem doStart_preshow {s : State} {c : ScreenId} (enabled : s.screens[c].config.enabled = true)
    (idle : s.screens[c].seq.state = .idle) (dark : s.screens[c].seq.shown = .dark)
    (cues : 2 ≤ s.screens[c].seq.segLimit)
    (trigger : s.seqr.cues[s.screens[c].seq.poolEntry 0].trigger = .follow)
    (action : s.seqr.cues[s.screens[c].seq.poolEntry 0].action = .segment)
    (preshow : s.seqr.cues[s.screens[c].seq.poolEntry 0].args[0] = 1)
    (next : s.seqr.cues[s.screens[c].seq.poolEntry 1].trigger = .go) :
    ∃ u, s.doStart c = (u, .done) ∧ PreshowStarted s c u := by
  have seq := s.begun_seq c
  have cue := s.begun_cue c
  have testable : (s.begun c).testable c = true := (State.testable_iff _ c).2 (by rw [seq]; exact ⟨rfl, rfl⟩)
  obtain ⟨u, raised, queued, tested⟩ := State.test_lights (s := s.begun c) (c := c) (new := .preshow) testable
    (by rw [cue]; exact trigger) (by rw [cue]; exact action) (by rw [cue, preshow]; rfl) nofun (by rw [seq]; exact dark)
    (by rw [seq]; rfl) (by rw [seq]; rfl) (by rw [seq]; exact cues)
    (by simp only [seq, s.begun_cues]; exact next)
  have lit : u.screens[c].seq = { s.screens[c].seq.started with shown := .preshow } := by
    rw [raised.screens, State.modSeq_self, seq]
  refine ⟨_, (State.doStart_runs enabled idle (Nat.le_of_succ_le cues)).trans (congrArg (·, Reply.done) tested), ?_,
    fun d hd => ?_, raised.kept.seqr, raised.urgent, queued, ?_⟩
  · rw [State.modSeq_self, lit, raised.screens, State.modSeq_self, State.begun, State.modSeq_self]
    rfl
  · rw [State.modSeq, State.modScreen_other _ _ _ hd, raised.screens, State.modSeq, State.modScreen_other _ _ _ hd]
    exact s.modScreen_other c (fun v => { v with seq := v.seq.started }) hd
  · unfold State.sameButTraffic
    rw [raised.rest]
    rfl

/-- Settles O32: refused, ended at once, waiting on its first cue, or with the first cue fired. -/
theorem startCommand : Obligations.StartCommand := by
  intro s m c h screen r ready unloaded begun
  have room : s.cell.queued < 16 := by have := h.room.queued; omega
  have done {u : State} (hu : s.countTaken.doStart c = (u, .done)) :=
    State.command_done (c := .start screen) h nofun ((obey_start _ c).trans hu)
  refine ⟨fun b hb => ?_, fun closed => ?_, fun ⟨enabled, idle, dark⟩ empty => ?_,
    fun ⟨enabled, idle, _⟩ cues go => ?_, fun ⟨enabled, idle, dark⟩ cues _ trigger action preshow next => ?_⟩
  · exact ⟨_, _, congrArg Host.Outcome.next (State.command_refused (c := .start b) h (by decide) nofun
      (State.screenCommand_none _ hb _) rfl)⟩
  · exact ⟨_, _, congrArg Host.Outcome.next (State.command_refused (c := .start screen) h (by decide) nofun
      ((obey_start _ c).trans (State.doStart_refused closed)) rfl)⟩
  · exact ⟨_, _, congrArg Host.Outcome.next (done (State.doStart_empty enabled idle dark empty) room)⟩
  · have waits : (s.countTaken.begun c).waitsForGo c := State.begun_waits go
    have started := State.doStart_runs (s := s.countTaken) enabled idle cues
    rw [State.test_waits waits] at started
    exact ⟨_, _, congrArg Host.Outcome.next (done started room)⟩
  · obtain ⟨u, doing, started⟩ := doStart_preshow (s := s.countTaken) enabled idle dark cues trigger action preshow next
    have few : s.countTaken.cell.queued + 2 ≤ 16 := h.room.queued
    have queued := started.queued
    refine ⟨_, s.indexLow, s.indexHigh, congrArg Host.Outcome.next (done doing (by omega)),
      congrArg (·.seq) started.own, fun d hd => congrArg (·.seq) (started.others d hd), fun d => ?_,
      congrArg (· ++ _) started.urgent, started.seqr, ?_⟩
    · by_cases same : d = c
      · subst same
        exact ⟨congrArg (·.config) started.own, congrArg (·.field) started.own, congrArg (·.sound) started.own,
          congrArg (·.ordering) started.own⟩
      · have other := started.others d same
        exact ⟨congrArg (·.config) other, congrArg (·.field) other, congrArg (·.sound) other,
          congrArg (·.ordering) other⟩
    · have traffic := started.traffic
      unfold State.sameButTraffic at traffic ⊢
      rw [traffic]
      rfl

/-- R58, R62: from `s` to `u` a GO has fired screen `c`'s last cue, which sets a level, and the show has ended. -/
structure LastLevelFired (s : State) (c : ScreenId) (u : State) : Prop where
  state : u.screens[c].seq.state = .idle
  shown : u.screens[c].seq.shown = .dark
  index : u.screens[c].seq.cueIndex = s.screens[c].seq.cueIndex
  others : ∀ d : ScreenId, d ≠ c → u.screens[d].seq = s.screens[d].seq ∧ u.screens[d].field = s.screens[d].field
  sound : u.sound = (s.setLevel c).sound
  urgent : u.cell.urgent = s.cell.urgent
  queued : u.cell.queued ≤ s.cell.queued + 1
  traffic : ({ s with sound := u.sound } : State).sameButTraffic u

/-- R55, R63: the GO cue that a GO is taken for fires. -/
theorem testCue_go {s : State} {c : ScreenId} (waits : s.waitsForGo c) : s.testCue c true = .fires := by
  simp only [State.testCue, waits.trigger, waits.noPending, Bool.false_eq_true, if_false, if_true]

theorem testable_of_runsFreely {s : State} {c : ScreenId} (free : s.runsFreely c) : s.testable c = true :=
  (State.testable_iff s c).2 ⟨free.running, free.noRest⟩

theorem lateCue_of_waitsForGo {s : State} {c : ScreenId} (waits : s.waitsForGo c) : s.lateCue c = false :=
  State.lateCue_false (by simp [waits.trigger])

theorem doGo_lastLevel {s : State} {c : ScreenId} (free : s.runsFreely c) (waits : s.waitsForGo c)
    (level : (s.currentCue c).action = .level) (last : s.screens[c].seq.cueIndex + 1 = s.screens[c].seq.segLimit) :
    ∃ u, s.doGo c = (u, .done) ∧ LastLevelFired s c u := by
  have ran := State.runCues_lastLevel (testable_of_runsFreely free) (testCue_go waits) nofun level last 256
  have ended := (s.levelNoted c .fires).toIdle_ended c s.screens[c].seq.cueIndex
  refine ⟨_, (State.doGo_fires free waits.trigger).trans (congrArg (·, Reply.done) ran), ?_, ?_, ?_, fun d hd => ?_, ?_,
    ended.urgent, ended.queued, ?_⟩
  · rw [ended.seq]
    rfl
  · rw [ended.seq]
  · rw [ended.seq]
    rfl
  · obtain ⟨seq, field, -⟩ := ended.others d hd
    have other : (s.levelNoted c .fires).screens[d] = s.screens[d] :=
      (s.setLevel c).modScreen_other c (fun v => { v with seq := { v.seq.consumed .fires with afterRef := v.seq.clock } }) hd
    rw [seq, field, other]
    exact ⟨rfl, rfl⟩
  · rw [ended.traffic]
    rfl
  · have traffic := ended.traffic
    have noted : s.levelNoted c .fires =
        (s.setLevel c).modSeq c fun r => { r.consumed .fires with afterRef := r.clock } := by
      rw [State.levelNoted, lateCue_of_waitsForGo waits]
      rfl
    unfold State.sameButTraffic at traffic ⊢
    rw [traffic, noted]
    rfl

/-- R63: a GO of a show that runs freely fires a level cue that waits for it, and the next one waits. -/
theorem doGo_level {s : State} {c : ScreenId} (free : s.runsFreely c) (waits : s.waitsForGo c)
    (level : (s.currentCue c).action = .level) (more : s.screens[c].seq.cueIndex + 1 < s.screens[c].seq.segLimit)
    (next : s.seqr.cues[s.screens[c].seq.poolEntry (s.screens[c].seq.cueIndex + 1)].trigger = .go) :
    s.doGo c =
      ((s.setLevel c).modSeq c fun r => { r with afterRef := r.clock, cueIndex := r.cueIndex + 1 }, .done) := by
  have ran := State.runCues_level (testable_of_runsFreely free) (testCue_go waits) nofun waits.noPending level
    free.noRehearsal more next 256
  rw [State.doGo_fires free waits.trigger, runFuel, ran,
    State.levelFired_prompt waits.noPending (lateCue_of_waitsForGo waits)]

/-- R56, R63: a GO at a DUSK cue by day is used up, and the cue fires. -/
theorem doGo_dusk {s : State} {c : ScreenId} (free : s.runsFreely c) (trigger : (s.currentCue c).trigger = .dusk)
    (level : (s.currentCue c).action = .level) (day : s.isDusk = false)
    (more : s.screens[c].seq.cueIndex + 1 < s.screens[c].seq.segLimit)
    (next : s.seqr.cues[s.screens[c].seq.poolEntry (s.screens[c].seq.cueIndex + 1)].trigger = .go) :
    s.doGo c = ((s.setLevel c).modSeq c ShowRecord.advanced, .done) := by
  have seq := congrArg Screen.seq (s.modSeq_self c fun r => { r with goPending := true })
  have cue := s.currentCue_modSeq c (f := fun r => { r with goPending := true }) rfl rfl
  have day' : (s.modSeq c fun r => { r with goPending := true }).isDusk = false := day
  have test : (s.modSeq c fun r => { r with goPending := true }).testCue c false = .firesOnPending := by
    simp only [State.testCue, cue, trigger, day', seq, Bool.false_eq_true, if_false, if_true]
  have fired := State.test_level ⟨rfl, rfl, rfl⟩ ⟨free.running, free.noRest, free.noRehearsal⟩ test nofun rfl level more next
  have prompt : ¬ TriggerKind.dusk = .clock := nofun
  rw [trigger, decide_eq_false prompt] at fired
  exact (State.doGo_pends free.running (.inr (by simp [trigger]))).trans (congrArg (·, Reply.done) fired)

/-- R63: a GO stays pending where the cue rests, and at a CLOCK cue before its time. -/
theorem doGo_stays {s : State} {c : ScreenId} (running : s.screens[c].seq.state = .running)
    (h : s.screens[c].seq.resting = true ∨
      ((s.currentCue c).trigger = .clock ∧ s.screens[c].seq.clock < (s.currentCue c).time)) :
    s.doGo c = (s.modSeq c fun r => { r with goPending := true }, .done) := by
  have seq := congrArg Screen.seq (s.modSeq_self c fun r => { r with goPending := true })
  have cue := s.currentCue_modSeq c (f := fun r => { r with goPending := true }) rfl rfl
  have stays : (s.modSeq c fun r => { r with goPending := true }).test c =
      s.modSeq c fun r => { r with goPending := true } := by
    rcases h with rests | ⟨trigger, early⟩
    · exact State.runCues_untestable (State.testable_false (.inr (by rw [seq]; exact rests))) _ _
    · refine State.runCues_waits ?_ _
      simp only [State.testCue, cue, trigger, seq, if_neg (Nat.not_le.2 early)]
  rw [State.doGo_pends running (h.imp_right fun k => by simp [k.1]), stays]

/-- R56: it is not dusk while the sky is unknown or above the threshold. -/
theorem isDusk_false {s : State} (h : ∀ lux, s.seqr.lux = some lux → s.mgmt.site.dusk < lux) : s.isDusk = false := by
  unfold State.isDusk
  split
  · next lux known => exact decide_eq_false (Nat.not_le.2 (h lux known))
  · rfl

/-- Settles O33: refused, resumed, fired, ended, or pending. -/
theorem goCommand : Obligations.GoCommand := by
  intro s m c h screen r cue level
  have room : s.cell.queued < 16 := by have := h.room.queued; omega
  have done {u : State} (hu : s.countTaken.doGo c = (u, .done)) :=
    State.command_done (c := .go screen) h nofun ((obey_go _ c).trans hu)
  have counted {k : ScreenId} (w : s.waitsForGo k) : s.countTaken.waitsForGo k := ⟨w.trigger, w.noPending⟩
  have runs {k : ScreenId} (f : s.runsFreely k) : s.countTaken.runsFreely k := ⟨f.running, f.noRest, f.noRehearsal⟩
  refine ⟨fun b hb => ?_, fun idle => ?_, fun held waits => ?_, fun free waits sets _ => ⟨fun more next => ?_, fun last => ?_⟩,
    fun running stays => ?_, fun free trigger sets _ day more next => ?_⟩
  · exact ⟨_, _, congrArg Host.Outcome.next (State.command_refused (c := .go b) h (by decide) nofun
      (State.screenCommand_none _ hb _) rfl)⟩
  · exact ⟨_, _, congrArg Host.Outcome.next (State.command_refused (c := .go screen) h (by decide) nofun
      ((obey_go _ c).trans (State.doGo_idle idle)) rfl)⟩
  · refine ⟨s.indexLow, s.indexHigh, congrArg Host.Outcome.next ?_⟩
    by_cases paused : r.pausedByHold = true
    · have resumed := State.doGo_paused (s := s.countTaken) held (counted waits) paused room
      have few : s.countTaken.cell.queued + 2 ≤ 16 := h.room.queued
      unfold State.projSent at resumed
      rw [if_pos paused]
      split
      · next absent =>
        rw [if_pos (show s.countTaken.screens[c].config.projector = 0 from absent)] at resumed
        exact done resumed room
      · next present =>
        rw [if_neg (show s.countTaken.screens[c].config.projector ≠ 0 from present)] at resumed
        refine done resumed ?_
        simp only [State.modSeq_cell, State.modCell_cell, CellProcessor.queued, List.length_append,
          List.length_singleton] at few ⊢
        omega
    · rw [if_neg paused]
      exact done (State.doGo_unpaused held (counted waits) (Bool.eq_false_iff.2 paused)) room
  · exact ⟨_, _, congrArg Host.Outcome.next (done (doGo_level (runs free) (counted waits) sets more next) room)⟩
  · obtain ⟨u, doing, fired⟩ := doGo_lastLevel (s := s.countTaken) (runs free) (counted waits) sets last
    have few : s.countTaken.cell.queued + 2 ≤ 16 := h.room.queued
    have queued := fired.queued
    refine ⟨_, s.indexLow, s.indexHigh, congrArg Host.Outcome.next (done doing (by omega)), fired.state, fired.shown,
      fired.index, fired.sound, congrArg (· ++ _) fired.urgent, fired.others, ?_⟩
    have traffic := fired.traffic
    unfold State.sameButTraffic at traffic ⊢
    rw [traffic]
    rfl
  · exact ⟨_, _, congrArg Host.Outcome.next (done (doGo_stays (s := s.countTaken) running stays) room)⟩
  · exact ⟨_, _, congrArg Host.Outcome.next
      (done (doGo_dusk (s := s.countTaken) (runs free) trigger sets (isDusk_false day) more next) room)⟩

/-- Settles O35: the key is ignored, its command is refused, or its command acts. -/
theorem panelKeys : Obligations.PanelKeys := by
  intro s source key c h screen r ignored refused fromPanel
  have taken (b k : Byte) {t : State} (ht : s.takePanelKey source b k = t) : exec (.panelKey source b k) s = .next t := by
    refine congrArg Host.Outcome.next ?_
    rw [State.cellSeen_stranger h, ht]
  refine ⟨fun b hb => taken b key (s.takePanelKey_noScreen source key hb), fun unlisted => ?_,
    fun other => taken screen key (State.takePanelKey_otherStation other key), fun panel idle => ⟨?_, ?_, ?_⟩,
    fun panel busy => ?_, fun panel running => ?_, fun panel held waits unpaused => ?_⟩
  · refine taken screen key (s.takePanelKey_noKey source c (keyCommand_none (unlisted.imp_left fun zero => ?_)))
    rw [zero]
    rfl
  · exact taken screen 2 (State.takePanelKey_refused panel rfl (State.doGo_idle idle))
  · exact taken screen 3 (State.takePanelKey_refused panel rfl (State.doHold_idle idle))
  · exact taken screen 4 (State.takePanelKey_refused panel rfl (State.doAbort_idle idle))
  · exact taken screen 1 (State.takePanelKey_refused panel rfl (State.doStart_refused (.inr busy)))
  · exact taken screen 3 (State.takePanelKey_done panel rfl (State.doHold_running running))
  · exact taken screen 2 (State.takePanelKey_done panel rfl (State.doGo_unpaused held waits unpaused))

end Sys2Proof.Proofs

/-! PROOFS. Show clocks, rests, the sky and projector reports (R55 to R58, R67, R69), settling `ShowClocks` and
`SkyAndProjectors`. -/

namespace Sys2Proof.Machine

/-! ## Every screen in turn -/

/-- A fold over all screens, each step of which changes its own screen record by `g`, while a condition that each step
keeps holds. -/
theorem foldl_screens {f : State → ScreenId → State} {g : Screen → Screen} {P : State → Prop}
    (step : ∀ s c, P s → f s c = s.modScreen c g) (keeps : ∀ s c, P s → P (s.modScreen c g)) {s : State} (h : P s) :
    allScreens.foldl f s = { s with screens := Vector.ofFn fun c => g s.screens[c] } := by
  have same (l : List ScreenId) {t : State} (ht : P t) : l.foldl f t = l.foldl (fun t c => t.modScreen c g) t := by
    induction l generalizing t with
    | nil => rfl
    | cons d l ih => rw [List.foldl_cons, List.foldl_cons, step t d ht, ih (keeps t d ht)]
  have alone (l : List ScreenId) (t : State) :
      l.foldl (fun t c => t.modScreen c g) t = { t with screens := (l.foldl (fun t c => t.modScreen c g) t).screens } := by
    induction l generalizing t with
    | nil => rfl
    | cons d l ih => rw [List.foldl_cons, ih]; rfl
  have each (c : ScreenId) := foldl_pointwise (P := fun (t : State) (d : ScreenId) => t.screens[d]) (g := fun _ v => g v)
    (fun t d => t.modScreen_self d g) (fun t d e ne => t.modScreen_other d g ne) (l := allScreens) (by decide) s c
  rw [same allScreens h, alone]
  congr 1
  refine Vector.ext fun i hi => ?_
  rw [Vector.getElem_ofFn]
  exact (each ⟨i, hi⟩).1 (mem_allScreens _)

/-- A fold of steps that all leave the state as it is. -/
theorem foldl_fixed {α : Type} {f : State → α → State} {s : State} {l : List α} (h : ∀ a ∈ l, f s a = s) :
    l.foldl f s = s := by
  induction l with
  | nil => rfl
  | cons a l ih =>
    rw [List.foldl_cons, h a (List.mem_cons_self ..), ih fun b hb => h b (List.mem_cons_of_mem _ hb)]

/-- A fold of which one step changes the state, and no other before or after it does. -/
theorem foldl_once {α : Type} {f : State → α → State} {s : State} {a : α} {l : List α} (distinct : l.Nodup) (mem : a ∈ l)
    (before : ∀ b, b ≠ a → f s b = s) (after : ∀ b, b ≠ a → f (f s a) b = f s a) : l.foldl f s = f s a := by
  induction l with
  | nil => cases mem
  | cons b l ih =>
    obtain ⟨hb, hl⟩ := List.nodup_cons.1 distinct
    rw [List.foldl_cons]
    by_cases same : b = a
    · subst same
      exact foldl_fixed fun d hd => after d fun k => hb (k ▸ hd)
    · rw [before b same]
      exact ih hl (List.mem_of_ne_of_mem (Ne.symm same) mem)

/-! ## Show clocks (R67) -/

/-- R67: a show clock that ticks, up to its end. -/
def ShowRecord.clockTicked (r : ShowRecord) : ShowRecord :=
  { r with clock := if r.clock < clockMax then r.clock + 1 else r.clock }

/-- R67: a TIMEBASE screen's record after a tick of the show clocks. -/
def Screen.timebaseTicked (v : Screen) : Screen := { v with seq := { v.seq with clock := v.clockAfter } }

theorem Screen.timebaseTicked_eq (v : Screen) :
    v.timebaseTicked =
      if v.seq.state = .running ∧ v.config.clockSource = .timebase ∧ v.seq.clock < 16777215 then
        { v with seq := { v.seq with clock := v.seq.clock + 1 } }
      else v := by
  unfold Screen.timebaseTicked Screen.clockAfter
  split
  · next ticks => exact (if_pos ticks).symm
  · next stands => exact (if_neg stands).symm

/-- R67: what a tick counts for on a PROGRAMME screen. -/
def State.programmeCounts (s : State) (c : ScreenId) : Prop :=
  s.screens[c].seq.state = .running ∧ s.screens[c].config.clockSource = .programme ∧ s.screens[c].sound.locked = true

/-- R67: the tick of a PROGRAMME screen whose clock has room and of one at its end. -/
theorem State.programmeClock_room {s : State} {c : ScreenId} (counts : s.programmeCounts c)
    (room : s.screens[c].seq.clock < clockMax) :
    s.programmeClock c = (s.modSeq c fun r => { r with frameCount := 0, clock := r.clock + 1 }).test c := by
  have seq := congrArg Screen.seq (s.modSeq_self c fun r => { r with frameCount := 0 })
  have twice := s.modSeq_modSeq c (fun r => { r with frameCount := 0 }) fun r => { r with clock := r.clock + 1 }
  unfold State.programmeCounts at counts
  rw [State.programmeClock, if_pos counts, State.advanceClock, if_pos (by rw [seq]; exact room), twice]
  rfl

theorem State.programmeClock_full {s : State} {c : ScreenId} (counts : s.programmeCounts c)
    (full : ¬ s.screens[c].seq.clock < clockMax) :
    s.programmeClock c = s.modSeq c fun r => { r with frameCount := 0 } := by
  have seq := congrArg Screen.seq (s.modSeq_self c fun r => { r with frameCount := 0 })
  unfold State.programmeCounts at counts
  rw [State.programmeClock, if_pos counts, State.advanceClock, if_neg (by rw [seq]; exact full)]

/-- R55, R67: the tick of a PROGRAMME screen whose cue waits for a GO. -/
theorem State.programmeClock_waits {s : State} {c : ScreenId} (counts : s.programmeCounts c) (waits : s.waitsForGo c) :
    s.programmeClock c = s.modSeq c fun r => { r.clockTicked with frameCount := 0 } := by
  by_cases room : s.screens[c].seq.clock < clockMax
  · have ticked := waits.modSeq c (fun r => { r with frameCount := 0, clock := r.clock + 1 }) fun _ => ⟨rfl, rfl, rfl⟩
    rw [State.programmeClock_room counts room, State.test_waits ticked]
    exact State.modSeq_congr (by simp only [ShowRecord.clockTicked, if_pos room])
  · rw [State.programmeClock_full counts room]
    exact State.modSeq_congr (by simp only [ShowRecord.clockTicked, if_neg room])

/-- R67: a tick that counts for no clock changes nothing. -/
theorem State.programmeClock_none {s : State} {c : ScreenId} (h : ¬ s.programmeCounts c) : s.programmeClock c = s :=
  if_neg h

theorem Sequencer.countLate_decide (q : Sequencer) (p : Prop) [Decidable p] :
    q.countLate (decide p) = { q with lateCues := if p then bump16 q.lateCues else q.lateCues } := by
  simp only [Sequencer.countLate, decide_eq_true_eq]

/-! ## Rests (R55, R58) -/

theorem State.endRest_none {s : State} {c : ScreenId} (h : s.screens[c].seq.resting = false) : s.endRest c = s :=
  if_neg (by rw [h]; exact nofun)

theorem State.endRest_rests {s : State} {c : ScreenId} (h : s.screens[c].seq.resting = true) :
    s.endRest c = (s.modSeq c fun r => { r with resting := false }).test c := if_pos h

/-- R55: a rest ends without a firing, in a show that is not RUNNING or at a cue that waits for a GO. -/
theorem State.endRest_stays {s : State} {c : ScreenId} (rests : s.screens[c].seq.resting = true)
    (h : s.screens[c].seq.state ≠ .running ∨ s.waitsForGo c) :
    s.endRest c = s.modSeq c fun r => { r with resting := false } := by
  have seq := congrArg Screen.seq (s.modSeq_self c fun r => { r with resting := false })
  rw [State.endRest_rests rests]
  rcases h with other | waits
  · exact State.runCues_untestable (State.testable_false (.inl (by rw [seq]; exact other))) _ _
  · exact State.test_waits (waits.modSeq c (fun r => { r with resting := false }) fun _ => ⟨rfl, rfl, rfl⟩)

/-! ## The sky (R56) -/

/-- R56: a SKY_REPORT as it is stored. -/
def State.skyTold (s : State) (lux : Half) : State :=
  s.modSeqr fun q => { q with lux := some lux.toNat, skyTimer := some 60 }

theorem State.skyTold_isDusk (s : State) (lux : Half) :
    (s.skyTold lux).isDusk = decide (lux.toNat ≤ s.mgmt.site.dusk) := rfl

/-- R55: the test of a screen that is not RUNNING, or that rests, and of one whose cue waits for a GO, changes nothing. -/
theorem State.test_none {s : State} {c : ScreenId}
    (h : s.screens[c].seq.state = .running → s.screens[c].seq.resting = false → s.waitsForGo c) : s.test c = s := by
  by_cases testable : s.testable c = true
  · obtain ⟨running, moves⟩ := (s.testable_iff c).1 testable
    exact State.test_waits (h running moves)
  · exact State.runCues_untestable (Bool.eq_false_iff.2 testable) _ _

/-! ## Projector reports (R69) -/

theorem projReportOf_code {p : ProjState} (h : p ≠ .unknown) : projReportOf p.code = some p := by
  cases p with
  | unknown => exact absurd rfl h
  | playing | paused | stopped | fault => rfl

theorem projReportOf_none {n : Nat} (h : n = 0 ∨ 4 < n) : projReportOf n = none := by
  unfold projReportOf
  split
  case h_5 => rfl
  all_goals omega

/-- R69: a screen has a projector's station. -/
abbrev Screen.hasProjector (v : Screen) (source : Nat) : Prop := v.config.projector ≠ 0 ∧ v.config.projector = source

/-- R69: a show that a FAULT of its projector holds. -/
abbrev Screen.faultHolds (v : Screen) (p : ProjState) : Prop :=
  p = .fault ∧ v.seq.projState ≠ .fault ∧ v.config.holdOnFailure = true ∧ v.seq.state = .running

/-- R69: a screen record after its projector's report. -/
def Screen.projTold (source : Nat) (p : ProjState) (v : Screen) : Screen :=
  if v.hasProjector source then
    { v with seq :=
        if v.faultHolds p then { v.seq with projState := p, state := .held, holdReason := some .projFault }
        else { v.seq with projState := p } }
  else v

theorem State.projReport_eq (source : Nat) (p : ProjState) (s : State) (c : ScreenId) :
    State.projReport source p s c = s.modScreen c (Screen.projTold source p) := by
  by_cases has : s.screens[c].hasProjector source
  · have told := s.modSeq_self c fun r => { r with projState := p }
    have kept : (s.modSeq c fun r => { r with projState := p }) = s.modScreen c (Screen.projTold source p) ∨
        s.screens[c].faultHolds p := by
      by_cases holds : s.screens[c].faultHolds p
      · exact .inr holds
      · refine .inl ?_
        simp only [State.modSeq, State.modScreen, Screen.projTold, if_pos has, if_neg holds]
    rw [State.projReport, if_pos has]
    by_cases fault : p = .fault ∧ s.screens[c].seq.projState ≠ .fault
    · rw [if_pos fault, State.failureHold, told]
      by_cases holds : s.screens[c].config.holdOnFailure = true ∧ s.screens[c].seq.state = .running
      · rw [if_pos ⟨holds.1, holds.2, nofun⟩]
        simp only [if_true, State.modSeq_modSeq]
        have both : s.screens[c].faultHolds p := ⟨fault.1, fault.2, holds⟩
        simp only [State.modSeq, State.modScreen, Screen.projTold, if_pos has, if_pos both]
        rfl
      · rw [if_neg fun k => holds ⟨k.1, k.2.1⟩]
        exact kept.resolve_right fun k => holds k.2.2
    · rw [if_neg fault]
      exact kept.resolve_right fun k => fault ⟨k.1, k.2.1⟩
  · rw [State.projReport, if_neg has]
    exact (s.modScreen_same c (if_neg has)).symm

/-- R69: a report that names no state, or that no screen's projector sends, is counted. -/
theorem State.takeProjState_unmatched {s : State} {source state : Byte}
    (h : projReportOf state.toNat = none ∨ ∀ c : ScreenId, ¬ s.screens[c].hasProjector source.toNat) :
    s.takeProjState source state = s.modSeqr fun q => { q with unmatchedProj := bump16 q.unmatchedProj } := by
  unfold State.takeProjState
  cases report : projReportOf state.toNat with
  | none => rfl
  | some p =>
    have unmatched := h.resolve_left (by rw [report]; exact nofun)
    have none : ¬ allScreens.any (fun c => decide (s.screens[c].config.projector ≠ 0) &&
        decide (s.screens[c].config.projector = source.toNat)) = true := by
      simpa only [List.any_eq_true, mem_allScreens, true_and, Bool.and_eq_true, decide_eq_true_eq, not_exists] using unmatched
    simp only [if_neg none]

/-- R69: a report is taken by every screen, and moves those whose projector sends it. -/
theorem State.takeProjState_matched {s : State} {source state : Byte} {p : ProjState}
    (report : projReportOf state.toNat = some p) {c : ScreenId} (has : s.screens[c].hasProjector source.toNat) :
    s.takeProjState source state =
      { s with screens := Vector.ofFn fun c => s.screens[c].projTold source.toNat p } := by
  have matched : allScreens.any (fun c => decide (s.screens[c].config.projector ≠ 0) &&
      decide (s.screens[c].config.projector = source.toNat)) = true := by
    simp only [List.any_eq_true, Bool.and_eq_true, decide_eq_true_eq]
    exact ⟨c, mem_allScreens c, has⟩
  simp only [State.takeProjState, report, if_pos matched]
  exact foldl_screens (P := fun _ => True) (fun t d _ => State.projReport_eq _ p t d) (fun _ _ _ => trivial) trivial

end Sys2Proof.Machine

namespace Sys2Proof.Proofs
open Machine

/-- R55, R67: a tick of the show clocks while every cue waits for a GO. -/
theorem showClockTick_waits {s : State} (waits : ∀ c : ScreenId, s.waitsForGo c) :
    allScreens.foldl State.timebaseClock s =
      { s with screens := Vector.ofFn fun c => s.screens[c].timebaseTicked } :=
  foldl_screens (g := Screen.timebaseTicked) (P := fun t => ∀ c : ScreenId, t.waitsForGo c) (fun _ c h => State.timebaseClock_waits (h c))
    (fun t d h c => (h c).modSeq d (fun r => { r with clock := t.screens[d].clockAfter }) fun _ => ⟨rfl, rfl, rfl⟩) waits

/-- R57, R67: a CLOCK cue that sets a level fires on the tick that brings its time. -/
theorem programmeClock_due {s : State} {c : ScreenId} (counts : s.programmeCounts c) (free : s.runsFreely c)
    (room : s.screens[c].seq.clock < clockMax) (trigger : (s.currentCue c).trigger = .clock)
    (due : (s.currentCue c).time ≤ s.screens[c].seq.clock + 1) (level : (s.currentCue c).action = .level)
    (noPending : s.screens[c].seq.goPending = false)
    (more : s.screens[c].seq.cueIndex + 1 < s.screens[c].seq.segLimit)
    (next : s.seqr.cues[s.screens[c].seq.poolEntry (s.screens[c].seq.cueIndex + 1)].trigger = .go) :
    s.programmeClock c =
      ((s.setLevel c).modSeq c fun r =>
        { r with frameCount := 0, clock := r.clock + 1, afterRef := r.clock + 1, cueIndex := r.cueIndex + 1 }).modSeqr
        (·.countLate (decide ((s.currentCue c).time < s.screens[c].seq.clock + 1))) := by
  have seq := congrArg Screen.seq (s.modSeq_self c fun r => { r with frameCount := 0, clock := r.clock + 1 })
  have cue := s.currentCue_modSeq c (f := fun r => { r with frameCount := 0, clock := r.clock + 1 }) rfl rfl
  have test : (s.modSeq c fun r => { r with frameCount := 0, clock := r.clock + 1 }).testCue c false = .fires := by
    simp only [State.testCue, cue, trigger, seq, if_pos due]
  have fired := State.test_level ⟨rfl, rfl, rfl⟩ ⟨free.running, free.noRest, free.noRehearsal⟩ test nofun noPending level
    more next
  have record : (s.setLevel c).modSeq c
      (ShowRecord.advanced ∘ fun r => { r with frameCount := 0, clock := r.clock + 1 }) =
      (s.setLevel c).modSeq c fun r =>
        { r with frameCount := 0, clock := r.clock + 1, afterRef := r.clock + 1, cueIndex := r.cueIndex + 1 } := by
    refine State.modSeq_congr ?_
    have free : (s.setLevel c).screens[c].seq.goPending = false := noPending
    simp only [Function.comp, ShowRecord.advanced, free]
  rw [State.programmeClock_room counts room, fired, record, trigger, decide_eq_true (rfl : TriggerKind.clock = .clock), Bool.true_and]

/-- R55, R58: at the end of a rest a level cue fires by FOLLOW, by a CLOCK time that has come, or by a pending GO. -/
theorem endRest_fires {s : State} {c : ScreenId} (rests : s.screens[c].seq.resting = true)
    (running : s.screens[c].seq.state = .running) (noRehearsal : s.screens[c].seq.rehearsal = false)
    (level : (s.currentCue c).action = .level)
    (more : s.screens[c].seq.cueIndex + 1 < s.screens[c].seq.segLimit)
    (next : s.seqr.cues[s.screens[c].seq.poolEntry (s.screens[c].seq.cueIndex + 1)].trigger = .go)
    (holds : (s.screens[c].seq.goPending = false ∧ ((s.currentCue c).trigger = .follow ∨
        ((s.currentCue c).trigger = .clock ∧ (s.currentCue c).time ≤ s.screens[c].seq.clock))) ∨
      (s.screens[c].seq.goPending = true ∧ (s.currentCue c).trigger = .go)) :
    s.endRest c =
      ((s.setLevel c).modSeq c fun r =>
        { r with resting := false, goPending := false, afterRef := r.clock, cueIndex := r.cueIndex + 1 }).modSeqr
        (·.countLate (s.lateCue c)) := by
  have seq := congrArg Screen.seq (s.modSeq_self c fun r => { r with resting := false })
  have cue := s.currentCue_modSeq c (f := fun r => { r with resting := false }) rfl rfl
  have test : ∃ t, (s.modSeq c fun r => { r with resting := false }).testCue c false = t ∧ t ≠ .waits ∧
      (s.screens[c].seq.consumed t).goPending = false := by
    rcases holds with ⟨noPending, follow | ⟨clock, due⟩⟩ | ⟨pending, go⟩
    · exact ⟨.fires, by simp only [State.testCue, cue, follow], nofun, noPending⟩
    · exact ⟨.fires, by simp only [State.testCue, cue, clock, seq, if_pos due], nofun, noPending⟩
    · exact ⟨.firesOnPending, by simp only [State.testCue, cue, go, seq, pending, if_true], nofun, rfl⟩
  obtain ⟨t, test, fires, consumed⟩ := test
  rw [State.endRest_rests rests]
  exact State.test_level ⟨rfl, rfl, rfl⟩ ⟨running, rfl, noRehearsal⟩ test fires consumed level more next

/-- Settles O36: the tick of the show clocks, the tick of one PROGRAMME clock, and the end of a rest. -/
theorem showClocks : Obligations.ShowClocks := by
  refine ⟨fun s waits => congrArg Host.Outcome.next ?_, fun s c => ?_⟩
  · rw [showClockTick_waits waits]
    simp only [Screen.timebaseTicked_eq]
  intro r cue counts
  refine ⟨fun none => ?_, fun counted waits => ?_,
    fun counted free room trigger due level more noPending next => congrArg Host.Outcome.next ?_, fun moves => ?_,
    fun rests stays => ?_, fun rests running noRehearsal level more next holds => congrArg Host.Outcome.next ?_⟩
  · exact congrArg Host.Outcome.next (State.programmeClock_none none)
  · exact congrArg Host.Outcome.next (State.programmeClock_waits counted waits)
  · rw [programmeClock_due counted free room trigger due level noPending more next]
    simp only [Sequencer.countLate_decide]
    rfl
  · exact congrArg Host.Outcome.next (State.endRest_none moves)
  · exact congrArg Host.Outcome.next (State.endRest_stays rests stays)
  · rw [endRest_fires rests running noRehearsal level more next holds]
    simp only [Sequencer.countLate, State.lateCue_iff]
    rfl

/-- R56: of shows of which one alone is RUNNING, at a DUSK cue that sets a level, that cue fires at dusk. -/
theorem takeSkyReport_dusk {s : State} {c : ScreenId} {lux : Half} (free : s.runsFreely c)
    (trigger : (s.currentCue c).trigger = .dusk) (noPending : s.screens[c].seq.goPending = false)
    (level : (s.currentCue c).action = .level)
    (more : s.screens[c].seq.cueIndex + 1 < s.screens[c].seq.segLimit)
    (next : s.seqr.cues[s.screens[c].seq.poolEntry (s.screens[c].seq.cueIndex + 1)].trigger = .go)
    (alone : ∀ d, d ≠ c → s.screens[d].seq.state ≠ .running) (dusk : lux.toNat ≤ s.mgmt.site.dusk) :
    s.takeSkyReport lux =
      ((s.skyTold lux).setLevel c).modSeq c fun r => { r with afterRef := r.clock, cueIndex := r.cueIndex + 1 } := by
  have isDusk := (s.skyTold_isDusk lux).trans (decide_eq_true dusk)
  have cue : ((s.skyTold lux).currentCue c).trigger = .dusk := trigger
  have test : (s.skyTold lux).testCue c false = .fires := by simp only [State.testCue, cue, isDusk, if_true]
  have testable : (s.skyTold lux).testable c = true := (State.testable_iff _ c).2 ⟨free.running, free.noRest⟩
  have fired := (State.runCues_level testable test nofun noPending level free.noRehearsal more next 256).trans
    (State.levelFired_prompt noPending (State.lateCue_false (by simp [cue])))
  have others {t : State} {d : ScreenId} (h : t.screens[d] = s.screens[d]) (hd : d ≠ c) : t.test d = t :=
    State.runCues_untestable (State.testable_false (.inl (by rw [h]; exact alone d hd))) _ _
  have once : allScreens.foldl State.test (s.skyTold lux) = (s.skyTold lux).test c :=
    foldl_once (by decide) (mem_allScreens c) (fun d hd => others rfl hd) fun d hd => others (by
      rw [State.test, runFuel, fired]
      exact State.modScreen_other _ _ _ hd) hd
  exact once.trans fired

/-- R55, R56: a report that fires no cue is stored. -/
theorem takeSkyReport_none {s : State} {lux : Half} (h : ∀ c : ScreenId, (s.skyTold lux).test c = s.skyTold lux) :
    s.takeSkyReport lux = s.skyTold lux := foldl_fixed fun c _ => h c

/-- Settles O37: the report of the sky, its age, and the reports of projectors. -/
theorem skyAndProjectors : Obligations.SkyAndProjectors := by
  refine ⟨fun s source lux h => ?_, fun s => congrArg Host.Outcome.next ?_, fun s source state h => ?_⟩
  · intro told
    have taken {t : State} (ht : s.takeSkyReport lux = t) : exec (.skyReport source lux) s = .next t := by
      refine congrArg Host.Outcome.next ?_
      rw [State.cellSeen_stranger h, ht]
    refine ⟨fun waits => taken (takeSkyReport_none fun c => State.test_none fun running moves => ?_),
      fun c free trigger noPending level more next alone => ?_⟩
    · have waiting := waits c running moves
      exact ⟨waiting.trigger, waiting.noPending⟩
    · split
      · next dusk => exact taken (takeSkyReport_dusk free trigger noPending level more next alone dusk)
      · next day =>
        have notDusk := (s.skyTold_isDusk lux).trans (decide_eq_false day)
        have cue : ((s.skyTold lux).currentCue c).trigger = .dusk := trigger
        have pending : (s.skyTold lux).screens[c].seq.goPending = false := noPending
        refine taken (takeSkyReport_none fun d => ?_)
        by_cases same : d = c
        · subst same
          refine State.runCues_waits ?_ _
          simp only [State.testCue, cue, notDusk, pending, Bool.false_eq_true, if_false]
        · exact State.runCues_untestable (s := s.skyTold lux) (State.testable_false (.inl (alone d same))) _ _
  · cases timer : s.seqr.skyTimer with
    | none => simp only [State.skyExpires, timer, Option.isSome_none, Bool.false_eq_true, if_false]
    | some n => simp only [State.skyExpires, timer, Option.isSome_some, if_true]
  · intro has
    have taken {t : State} (ht : s.takeProjState source state = t) : exec (.projState source state) s = .next t := by
      refine congrArg Host.Outcome.next ?_
      rw [State.cellSeen_stranger h, ht]
    refine ⟨fun unmatched => taken (State.takeProjState_unmatched ?_), fun p known code ⟨c, hc⟩ => ?_⟩
    · rcases unmatched with zero | beyond | other
      · exact .inl (projReportOf_none (.inl (by rw [zero]; rfl)))
      · exact .inl (projReportOf_none (.inr beyond))
      · exact .inr other
    · have report : projReportOf state.toNat = some p := code ▸ projReportOf_code known
      refine ⟨_, taken (State.takeProjState_matched report hc), rfl, fun d => ?_⟩
      have record : ({ s with screens := Vector.ofFn fun c => s.screens[c].projTold source.toNat p } : State).screens[d] =
          s.screens[d].projTold source.toNat p := Vector.getElem_ofFn ..
      exact ⟨fun other => record.trans (if_neg other), fun own => record.trans (if_pos own)⟩

end Sys2Proof.Proofs

/-! PROOFS. Programme frames (R67, R72, R73, R76): lock, loss, the delay line and the PROGRAMME clock, settling
`ProgrammeFrames`. -/

namespace Sys2Proof.Machine

/-! ## The console told of one event (R158) -/

/-- R158: the console is told by what the NORMAL class and the count of notices become. -/
theorem State.tells.of_same {s t u : State} {es : List Told} (h : s.tells t es) (normal : u.cell.normal = t.cell.normal)
    (notices : u.mgmt.notices = t.mgmt.notices) : s.tells u es := by
  obtain ⟨cells, each, queue, count⟩ := h
  exact ⟨cells, each, normal.trans queue, notices.trans count⟩

/-- R158, 09 section 9.7: the cell of a NOTICE is that of its event. -/
theorem State.noticeCell_isNotice (s : State) (e : Event) (subject snapshot : Nat) (clockOf : Option ScreenId) :
    s.isNotice ⟨e.code, subject, snapshot, clockOf.map fun c => s.screens[c].seq.clock⟩
      (s.noticeCell e subject snapshot clockOf) := by
  cases clockOf with
  | none => exact ⟨_, _, _, rfl⟩
  | some c => exact ⟨0, 0, 0, rfl⟩

/-- R158: with room in the queue the console is told of an event whose table entry asks for a notice. -/
theorem State.sendNotice_tells {s : State} (room : s.cell.queued < 16) (e : Event) (subject snapshot : Nat)
    (clockOf : Option ScreenId) :
    s.tells (s.sendNotice e subject snapshot clockOf)
      [⟨e.code, subject, snapshot, clockOf.map fun c => s.screens[c].seq.clock⟩] := by
  unfold State.tells
  by_cases asked : s.ann.events[e.code].notice = true
  · have handed := State.handNormal_room (s := s.modMgmt fun m => { m with notices := bump16 m.notices })
      (o := s.noticeCell e subject snapshot clockOf) room rfl
    rw [State.sendNotice, if_pos asked, handed]
    refine ⟨[s.noticeCell e subject snapshot clockOf], ?_, rfl, rfl⟩
    simp only [List.filter_cons, asked, if_true, List.filter_nil]
    exact .cons (s.noticeCell_isNotice e subject snapshot clockOf) .nil
  · rw [State.sendNotice, if_neg asked]
    refine ⟨[], ?_, (List.append_nil _).symm, rfl⟩
    simp only [List.filter_cons, asked, List.filter_nil]
    exact .nil

/-- R110, R158: an event tells the console, whatever its announcement does. -/
theorem State.raise_tells {s : State} (room : s.cell.queued < 16) (e : Event) (subject snapshot : Nat)
    (clockOf : Option ScreenId) :
    s.tells (s.raise e subject snapshot clockOf)
      [⟨e.code, subject, snapshot, clockOf.map fun c => s.screens[c].seq.clock⟩] := by
  have asked := s.eventRequest_raised e subject
  have same : (s.eventRequest e subject).cell = s.cell ∧ (s.eventRequest e subject).mgmt = s.mgmt := by
    unfold State.eventRequest
    split
    · exact ⟨rfl, rfl⟩
    · split
      · exact ⟨rfl, rfl⟩
      · rw [State.announce, s.request_event _ rfl]
        exact ⟨rfl, rfl⟩
  have events : (s.eventRequest e subject).ann.events = s.ann.events := by rw [asked.kept.ann.rest]
  have screens := asked.screens
  obtain ⟨cell, mgmt⟩ := same
  have told := State.sendNotice_tells (s := s.eventRequest e subject) (cell ▸ room) e subject snapshot clockOf
  unfold State.tells State.isNotice at told ⊢
  rw [screens, events, cell, mgmt] at told
  exact told

/-! ## Inputs (R72, R73) -/

/-- Two changes of one input after each other. -/
theorem State.modInput_modInput (s : State) (c : ScreenId) (f g : ProgInput → ProgInput) :
    (s.modInput c f).modInput c g = s.modInput c (g ∘ f) := by
  simp [State.modInput, State.modSound]

/-- R73: an input that leaves LOCKED starts its delay and counts the loss, whatever else is noted of it before. -/
theorem State.unlock_modInput (s : State) (c : ScreenId) {f : ProgInput → ProgInput}
    (delay : ∀ i, f { i with lostDelay := some 2, lockLosses := bump16 i.lockLosses } =
      { f i with lostDelay := some 2, lockLosses := bump16 (f i).lockLosses }) :
    (s.modInput c f).unlock c = (s.unlock c).modInput c f := by
  have swap : (fun i : ProgInput => { i with lostDelay := some 2, lockLosses := bump16 i.lockLosses }) ∘ f =
      f ∘ fun i => { i with lostDelay := some 2, lockLosses := bump16 i.lockLosses } := funext fun i => (delay i).symm
  unfold State.unlock
  by_cases locked : s.screens[c].sound.locked = true
  · have moved := (s.modInput_modInput c f _).trans
      ((congrArg (s.modInput c) swap).trans (s.modInput_modInput c _ f).symm)
    rw [if_pos locked, if_pos (show (s.modInput c f).screens[c].sound.locked = true from locked)]
    exact congrArg (State.modScreenSound · c fun v => { v with locked := false }) moved
  · rw [if_neg locked, if_neg (show ¬ (s.modInput c f).screens[c].sound.locked = true from locked)]

/-- R72: a miss declared. -/
theorem State.missFrame_eq (s : State) (c : ScreenId) :
    s.missFrame c = (s.unlock c).modInput c fun i => { i with run := 0, fresh := true } :=
  s.unlock_modInput c fun _ => rfl

/-- R72: a malformed frame. -/
theorem State.malformedFrame_eq (s : State) (c : ScreenId) :
    s.malformedFrame c = (s.unlock c).modInput c fun i => { i with run := 0, malformed := bump16 i.malformed } :=
  s.unlock_modInput c fun _ => rfl

/-! ## A frame judged (R72) -/

section
variable {s : State} {c : ScreenId} {left right gap : Nat} {f : Frame}

theorem State.takeFrame_fresh (fresh : s.sound.inputs[c].fresh = true) :
    s.takeFrame c left right gap f = s.firstFrame c := if_pos fresh

theorem State.takeFrame_late (run : s.sound.inputs[c].fresh = false) (late : 21100 < gap) :
    s.takeFrame c left right gap f = (s.unlock c).modInput c fun i => { i with run := 0, fresh := false } := by
  rw [State.takeFrame, if_neg (by rw [run]; exact nofun), if_pos late, State.missFrame_eq, State.firstFrame,
    State.modInput_modInput]
  rfl

theorem State.takeFrame_malformed (run : s.sound.inputs[c].fresh = false) (prompt : gap ≤ 21100)
    (bad : left ≠ 32 ∨ right ≠ 32 ∨ gap < 20600) : s.takeFrame c left right gap f = s.malformedFrame c := by
  rw [State.takeFrame, if_neg (by rw [run]; exact nofun), if_neg (Nat.not_lt.2 prompt), if_pos bad]

theorem State.takeFrame_good (good : s.sound.inputs[c].fresh = false ∧ gap ≤ 21100 ∧ left = 32 ∧ right = 32 ∧ 20600 ≤ gap) :
    s.takeFrame c left right gap f = s.goodFrame c f := by
  obtain ⟨run, prompt, whole, whole', due⟩ := good
  rw [State.takeFrame, if_neg (by rw [run]; exact nofun), if_neg (Nat.not_lt.2 prompt), if_neg]
  rintro (h | h | h)
  · exact h whole
  · exact h whole'
  · omega

/-! ## A good frame (R67, R72, R76) -/

/-- R72: a good frame of a run that is still too short to lock. -/
theorem State.goodFrame_counts (unlocked : s.screens[c].sound.locked = false) (short : s.sound.inputs[c].run < 47) :
    s.goodFrame c f = s.modInput c fun i => { i with run := s.sound.inputs[c].run + 1 } := by
  have run : min (s.sound.inputs[c].run + 1) 48 = s.sound.inputs[c].run + 1 := by omega
  have few : s.sound.inputs[c].run + 1 ≠ 48 := by omega
  simp only [State.goodFrame, unlocked, run, if_neg few, Bool.false_eq_true, if_false]

/-- R72: the 48th good frame locks the input, and enters its delay line. -/
theorem State.goodFrame_locks (unlocked : s.screens[c].sound.locked = false) (long : s.sound.inputs[c].run = 47) :
    s.goodFrame c f = ((s.modInput c fun i => { i with run := 48 }).relock c).modLine c fun l => l.put f := by
  have run : min (s.sound.inputs[c].run + 1) 48 = 48 := by omega
  simp only [State.goodFrame, unlocked, run, Bool.false_eq_true, if_false, if_true]

/-- R67, R76: a good frame of a LOCKED input enters the delay line and counts for the clock. -/
theorem State.goodFrame_plays (locked : s.screens[c].sound.locked = true) :
    s.goodFrame c f =
      ((s.modInput c fun i => { i with run := min (i.run + 1) 48 }).modLine c fun l => l.put f).countFrame c := by
  simp only [State.goodFrame, locked, if_true]
  rfl

/-- R67: a frame counts for no other clock. -/
theorem State.countFrame_none (h : ¬ (s.screens[c].seq.state = .running ∧ s.screens[c].config.clockSource = .programme)) :
    s.countFrame c = s := if_neg h

/-- R67: the frames of a PROGRAMME clock after one more, and the clock when they are 480. -/
def ShowRecord.frameCounted (r : ShowRecord) : ShowRecord :=
  if r.frameCount + 1 < 480 then { r with frameCount := r.frameCount + 1 } else { r.clockTicked with frameCount := 0 }

/-- R67: a frame of a LOCKED input counts for the clock of a RUNNING PROGRAMME screen, whose cue waits for a GO when the
clock moves. -/
theorem State.countFrame_counts (counts : s.programmeCounts c)
    (waits : s.screens[c].seq.frameCount + 1 < 480 ∨ s.waitsForGo c) :
    s.countFrame c = s.modSeq c ShowRecord.frameCounted := by
  rw [State.countFrame, if_pos ⟨counts.1, counts.2.1⟩]
  split
  · next few => exact State.modSeq_congr (if_pos few).symm
  · next full =>
    rw [State.programmeClock_waits counts (waits.resolve_left full)]
    exact State.modSeq_congr (if_neg full).symm

end

/-- R67: a show clock moves by 1 unless it stands at or above its end. -/
theorem clockTicked_clock (n : Nat) : (if n < clockMax then n + 1 else n) = min (n + 1) (max n 16777215) := by
  unfold clockMax
  split <;> omega

/-- R76: a frame put into a delay line is gained by it. -/
theorem DelayLine.put_gains (l : DelayLine) (f : Frame) (h : Memory.wf zeroFrame l.frames) : l.gains (l.put f) f where
  write := rfl
  read := rfl
  phase := rfl
  frames := l.put_read f h

/-! ## An input that locks (R73) -/

/-- R73: an input LOCKED again, its sound no longer lost. -/
def State.lockedAgain (s : State) (c : ScreenId) : State :=
  (s.modScreenSound c fun v => { v with locked := true, lost := false }).modInput c fun i => { i with lostDelay := none }

theorem State.lockedAgain_self (s : State) (c : ScreenId) :
    (s.lockedAgain c).screens[c] =
      { s.screens[c] with sound := { s.screens[c].sound with locked := true, lost := false } } :=
  s.modScreen_self c fun v => { v with sound := { v.sound with locked := true, lost := false } }

theorem State.lockedAgain_other (s : State) {c d : ScreenId} (h : d ≠ c) :
    (s.lockedAgain c).screens[d] = s.screens[d] :=
  s.modScreen_other c (fun v => { v with sound := { v.sound with locked := true, lost := false } }) h

/-- R73: a lock that ends no loss raises no event, and one that does raises SOUND_BACK. -/
theorem State.relock_kept {s : State} {c : ScreenId} (h : s.screens[c].sound.lost = false) :
    s.relock c = s.lockedAgain c := if_neg (by rw [h]; exact nofun)

theorem State.relock_back {s : State} {c : ScreenId} (h : s.screens[c].sound.lost = true) :
    s.relock c = (s.lockedAgain c).raise .soundBack (numberOf c) 0 (some c) := if_pos h

theorem State.relock_raised (s : State) (c : ScreenId) : Raised (s.lockedAgain c) (s.relock c) := by
  cases h : s.screens[c].sound.lost with
  | false =>
    rw [State.relock_kept h]
    exact .refl _
  | true =>
    rw [State.relock_back h]
    exact State.raise_raised _ _ _ _ _

/-! ## The sound lost (R69, R73) -/

/-- R73: the sound-lost delay has ended, and the sound is lost. -/
def State.soundGone (s : State) (c : ScreenId) : State :=
  (s.modInput c fun i => { i with lostDelay := none }).modScreenSound c fun v => { v with lost := true }

theorem State.soundGone_self (s : State) (c : ScreenId) :
    (s.soundGone c).screens[c] = { s.screens[c] with sound := { s.screens[c].sound with lost := true } } :=
  s.modScreen_self c fun v => { v with sound := { v.sound with lost := true } }

theorem State.soundGone_other (s : State) {c d : ScreenId} (h : d ≠ c) : (s.soundGone c).screens[d] = s.screens[d] :=
  s.modScreen_other c (fun v => { v with sound := { v.sound with lost := true } }) h

theorem State.lostDelayExpires_none {s : State} {c : ScreenId} (h : s.sound.inputs[c].lostDelay = none) :
    s.lostDelayExpires c = s := by
  simp only [State.lostDelayExpires, h]

theorem State.lostDelayExpires_runs {s : State} {c : ScreenId} (h : s.sound.inputs[c].lostDelay.isSome = true) :
    s.lostDelayExpires c =
      ((s.soundGone c).raise .soundLost (numberOf c) s.sound.inputs[c].lockLosses (some c)).failureHold c .soundLost := by
  obtain ⟨n, runs⟩ := Option.isSome_iff_exists.1 h
  simp only [State.lostDelayExpires, runs]
  rfl

/-- R69: a show that the loss of its sound holds. -/
abbrev Screen.lossHolds (v : Screen) : Prop :=
  v.config.holdOnFailure = true ∧ v.seq.state = .running ∧ v.config.clockSource = .programme

/-- R69, R70: a show record that the loss of its sound holds, and its projector pauses if it has one. -/
def Screen.lossHeld (v : Screen) : ShowRecord :=
  { v.seq with
    state := .held, holdReason := some .soundLost
    pausedByHold := v.seq.pausedByHold || decide (v.config.projector ≠ 0) }

theorem State.failureHold_none {s : State} {c : ScreenId} (h : ¬ s.screens[c].lossHolds) :
    s.failureHold c .soundLost = s := if_neg fun k => h ⟨k.1, k.2.1, k.2.2 rfl⟩

/-- R69: the loss of its sound holds a show on the PROGRAMME clock, and sends PAUSE with argument 0 (log 44). -/
theorem State.failureHold_loss {s : State} {c : ScreenId} (holds : s.screens[c].lossHolds) (room : s.cell.queued < 16) :
    s.failureHold c .soundLost = (s.projSent c projPause 0).modSeq c fun _ => s.screens[c].lossHeld := by
  have sent := State.sendProj_room_eq
    (s := s.modSeq c fun r => { r with state := .held, holdReason := some .soundLost }) room c projPause 0
  rw [State.projSent_modSeq] at sent
  have other : HoldReason.soundLost ≠ .projFault := nofun
  rw [State.failureHold, if_pos ⟨holds.1, holds.2.1, fun _ => holds.2.2⟩]
  simp only [if_neg other, sent]
  split
  · next absent =>
    refine State.modSeq_congr ?_
    rw [s.projSent_screens, Screen.lossHeld, decide_eq_false (not_not.2 absent), Bool.or_false]
  · next present =>
    rw [State.modSeq_modSeq]
    refine State.modSeq_congr ?_
    rw [s.projSent_screens, Screen.lossHeld, decide_eq_true present, Bool.or_true]
    rfl

/-- R69: what the loss of its sound leaves of a screen's show and of the transmit queue. -/
structure LossTaken (s : State) (c : ScreenId) (t : State) : Prop where
  own : t.screens[c] =
    { s.screens[c] with seq := if s.screens[c].lossHolds then s.screens[c].lossHeld else s.screens[c].seq }
  others : ∀ d : ScreenId, d ≠ c → t.screens[d] = s.screens[d]
  urgent : t.cell.urgent =
    s.cell.urgent ++
      if s.screens[c].lossHolds ∧ s.screens[c].config.projector ≠ 0 then [s.projCell c projPause 0] else []
  normal : t.cell.normal = s.cell.normal
  sound : t.sound = s.sound
  loop : t.loop = s.loop
  gate : t.gate = s.gate
  mgmt : t.mgmt = s.mgmt

theorem State.failureHold_lossTaken {s : State} (c : ScreenId) (room : s.cell.queued < 16) :
    LossTaken s c (s.failureHold c .soundLost) := by
  by_cases holds : s.screens[c].lossHolds
  · rw [State.failureHold_loss holds room]
    have screens := s.projSent_screens c projPause 0
    have cell := s.projSent_cell c projPause 0
    obtain ⟨sound, loop, gate, mgmt⟩ := s.projSent_blocks c projPause 0
    refine ⟨?_, fun d hd => ?_, ?_, congrArg (·.normal) cell, sound, loop, gate, mgmt⟩
    · rw [State.modSeq_self, screens, if_pos holds]
    · rw [State.modSeq, State.modScreen_other _ _ _ hd, screens]
    · have paused := and_iff_right (b := s.screens[c].config.projector ≠ 0) holds
      simp only [State.modSeq_cell, cell, if_congr paused rfl rfl]
  · rw [State.failureHold_none holds]
    refine ⟨?_, fun _ _ => rfl, ?_, rfl, rfl, rfl, rfl, rfl⟩
    · rw [if_neg holds]
    · rw [if_neg fun k => holds k.1, List.append_nil]

end Sys2Proof.Machine

namespace Sys2Proof.Proofs
open Machine

/-- R72, R76: the 48th good frame: the input LOCKED, its frame in the delay line, and one event at most. -/
theorem takeFrame_locks {s : State} {c : ScreenId} {f : Frame} (unlocked : s.screens[c].sound.locked = false)
    (long : s.sound.inputs[c].run = 47) :
    let t := s.goodFrame c f
    t.sound.inputs = s.sound.inputs.set c { s.sound.inputs[c] with run := 48, lostDelay := none } ∧
      t.sound.lines = s.sound.lines.set c (s.sound.lines[c].put f) ∧ t.sound.outputs = s.sound.outputs ∧
      t.screens[c].sound = { s.screens[c].sound with locked := true, lost := false } ∧
      ∀ d : ScreenId, t.screens[d].seq = s.screens[d].seq ∧ t.screens[d].field = s.screens[d].field := by
  intro t
  have raised := (s.modInput c fun i => { i with run := 48 }).relock_raised c
  have sound := raised.kept.sound
  have inputs : ((s.modInput c fun i => { i with run := 48 }).lockedAgain c).sound.inputs =
      s.sound.inputs.set c { s.sound.inputs[c] with run := 48, lostDelay := none } :=
    congrArg (·.sound.inputs) (s.modInput_modInput c (fun i => { i with run := 48 }) fun i => { i with lostDelay := none })
  have whole : t = _ := State.goodFrame_locks (f := f) unlocked long
  have screens : t.screens = ((s.modInput c fun i => { i with run := 48 }).lockedAgain c).screens :=
    (congrArg State.screens whole).trans raised.screens
  have lines := congrArg State.sound whole
  simp only [State.modLine, State.modSound_sound, sound] at lines
  refine ⟨(congrArg SoundPath.inputs lines).trans inputs, (congrArg SoundPath.lines lines).trans rfl,
    (congrArg SoundPath.outputs lines).trans rfl, ?_, fun d => ?_⟩
  · rw [screens]
    exact congrArg Screen.sound (State.lockedAgain_self _ c)
  · rw [screens]
    by_cases same : d = c
    · subst same
      have own := (s.modInput d fun i => { i with run := 48 }).lockedAgain_self d
      exact ⟨(congrArg Screen.seq own).trans rfl, (congrArg Screen.field own).trans rfl⟩
    · have kept := (s.modInput c fun i => { i with run := 48 }).lockedAgain_other same
      exact ⟨congrArg Screen.seq kept, congrArg Screen.field kept⟩

/-- R73, R158: a lock that ends a loss tells the console SOUND_BACK, with the run that has locked. -/
theorem relock_tells {s : State} {c : ScreenId} {f : Frame} (room : s.cell.queued < 16)
    (lost : s.screens[c].sound.lost = true) :
    s.tells (((s.modInput c fun i => { i with run := 48 }).relock c).modLine c fun l => l.put f)
      [⟨6, c.val + 1, 0, some s.screens[c].seq.clock⟩] := by
  have told := State.raise_tells (s := (s.modInput c fun i => { i with run := 48 }).lockedAgain c) room .soundBack
    (numberOf c) 0 (some c)
  have seq : ((s.modInput c fun i => { i with run := 48 }).lockedAgain c).screens[c].seq = s.screens[c].seq :=
    (congrArg Screen.seq ((s.modInput c fun i => { i with run := 48 }).lockedAgain_self c)).trans rfl
  rw [Option.map_some, seq, ← State.relock_back (s := s.modInput c fun i => { i with run := 48 }) lost] at told
  exact State.tells.of_same (s := s) told rfl rfl

/-- R69, R73, R158: at the end of the sound-lost delay the sound is lost, the console is told, and a show on the PROGRAMME
clock may be held. -/
theorem lostDelay_ends {s : State} {c : ScreenId} (runs : s.sound.inputs[c].lostDelay.isSome = true) (room : s.hasRoom 2) :
    let t := s.lostDelayExpires c
    t.sound = { s.sound with inputs := s.sound.inputs.set c { s.sound.inputs[c] with lostDelay := none } } ∧
      t.screens[c].sound = { s.screens[c].sound with lost := true } ∧
      t.screens[c].field = s.screens[c].field ∧
      t.screens[c].seq =
        (if s.screens[c].lossHolds then s.screens[c].lossHeld else s.screens[c].seq) ∧
      t.cell.urgent =
        s.cell.urgent ++
          (if s.screens[c].lossHolds ∧ s.screens[c].config.projector ≠ 0 then [s.projCell c projPause 0] else []) ∧
      (∀ d, d ≠ c → t.screens[d] = s.screens[d]) ∧ t.loop = s.loop ∧ t.gate = s.gate ∧
      s.tells t [⟨5, c.val + 1, s.sound.inputs[c].lockLosses, some s.screens[c].seq.clock⟩] := by
  intro t
  have few : s.cell.queued + 2 ≤ 16 := room.queued
  have gone : (s.soundGone c).screens[c] = { s.screens[c] with sound := { s.screens[c].sound with lost := true } } :=
    State.soundGone_self s c
  have raised := (s.soundGone c).raise_raised .soundLost (numberOf c) s.sound.inputs[c].lockLosses (some c)
  have queued := (s.soundGone c).raise_queued .soundLost (numberOf c) s.sound.inputs[c].lockLosses (some c)
  have told := State.raise_tells (s := s.soundGone c) (by exact Nat.lt_of_succ_le (Nat.le_of_succ_le few)) .soundLost
    (numberOf c) s.sound.inputs[c].lockLosses (some c)
  have ended : t = _ := State.lostDelayExpires_runs runs
  generalize (s.soundGone c).raise .soundLost (numberOf c) s.sound.inputs[c].lockLosses (some c) = u at *
  have screen : u.screens[c] = { s.screens[c] with sound := { s.screens[c].sound with lost := true } } := by
    rw [raised.screens, gone]
  have held := State.failureHold_lossTaken (s := u) c (by
    have : (s.soundGone c).cell.queued = s.cell.queued := rfl
    omega)
  rw [← ended] at held
  have own := held.own
  have urgent := held.urgent
  rw [Option.map_some, gone] at told
  simp only [State.projCell, screen] at own urgent
  refine ⟨held.sound.trans raised.kept.sound, by rw [own], by rw [own], by rw [own]; rfl, ?_, fun d hd => ?_,
    held.loop.trans raised.kept.loop, held.gate.trans raised.kept.gate,
    State.tells.of_same (s := s) told held.normal (congrArg (·.notices) held.mgmt)⟩
  · rw [urgent, raised.urgent]
    rfl
  · rw [held.others d hd, raised.screens]
    exact State.soundGone_other s hd

/-- Settles O47: each frame by its judgement, and the sound-lost delay at its end. -/
theorem programmeFrames : Obligations.ProgrammeFrames := by
  intro s c left right gap f h i frame good unlocked
  have gains := s.sound.lines[c].put_gains f (h.2 c)
  have taken {t : State} (ht : s.takeFrame c left right gap f = t) : exec frame s = .next t :=
    congrArg Host.Outcome.next ht
  refine ⟨fun fresh => taken (State.takeFrame_fresh fresh), fun run late => taken (State.takeFrame_late run late),
    fun run prompt bad => taken ((State.takeFrame_malformed run prompt bad).trans (s.malformedFrame_eq c)),
    fun ok unlocked short => ?_, fun ok unlocked long => ?_, fun ok locked other => ?_,
    congrArg Host.Outcome.next (s.missFrame_eq c), fun none => congrArg Host.Outcome.next (State.lostDelayExpires_none none),
    fun runs room => ?_, fun ok unlocked long lost room => ?_, fun ok locked running programme waits => ?_⟩
  · exact taken ((State.takeFrame_good ok).trans (State.goodFrame_counts unlocked short))
  · obtain ⟨inputs, lines, outputs, sound, records⟩ := takeFrame_locks (f := f) unlocked long
    refine ⟨_, _, taken (State.takeFrame_good ok), gains, inputs, lines, outputs, sound, records, fun kept => ?_⟩
    have silent : (s.modInput c fun i => { i with run := 48 }).relock c = _ := State.relock_kept kept
    rw [State.goodFrame_locks unlocked long, silent]
    exact ⟨rfl, rfl, rfl⟩
  · refine ⟨_, gains, taken ((State.takeFrame_good ok).trans ((State.goodFrame_plays locked).trans ?_))⟩
    exact State.countFrame_none other
  · have taken := lostDelay_ends runs room
    exact ⟨_, congrArg Host.Outcome.next rfl, taken⟩
  · refine ⟨_, taken (State.takeFrame_good ok), ?_⟩
    rw [State.goodFrame_locks unlocked long]
    exact relock_tells (Nat.lt_of_succ_le room.queued) lost
  · refine ⟨_, gains, taken ((State.takeFrame_good ok).trans ((State.goodFrame_plays locked).trans ?_))⟩
    have counted := State.countFrame_counts
      (s := (s.modInput c fun i => { i with run := min (i.run + 1) 48 }).modLine c fun l => l.put f)
      ⟨running, programme, locked⟩ (waits.imp_right fun w => ⟨w.trigger, w.noPending⟩)
    refine counted.trans (State.modSeq_congr ?_)
    simp only [ShowRecord.frameCounted, ShowRecord.clockTicked, clockTicked_clock]

end Sys2Proof.Proofs

/-! PROOFS. The OUTPUT table and OUTPUT_STATUS (R74, R75, R81, R88, R92), settling `OutputWrite` and `OutputStatusRead`. -/

namespace Sys2Proof.Machine

/-! ## OUTPUT entries (R74) -/

theorem darkRemapOf_code (x : DarkRemap) : darkRemapOf x.code = some x := by cases x <;> rfl

theorem darkRemapOf_le {n : Nat} {x : DarkRemap} (h : darkRemapOf n = some x) : n ≤ 2 := by
  unfold darkRemapOf at h
  split at h
  case h_4 => cases h
  all_goals decide

theorem paSourceOf_number (pa : Option ScreenId) : paSourceOf (screenNumber pa) = some pa := by
  revert pa
  decide

theorem paSourceOf_le {n : Nat} {x : Option ScreenId} (h : paSourceOf n = some x) : n ≤ 4 := by
  unfold paSourceOf at h
  split at h
  · assumption
  · cases h

/-- R74: an entry that is stored has its coded fields, its station and its autocut mask in their ranges. -/
theorem outputConfigOf_fits {e : List Byte} {g : OutputConfig} (h : outputConfigOf e = some g) :
    byteAt e 13 ≤ 2 ∧ byteAt e 14 ≤ 4 ∧ byteAt e 15 ≤ 120 ∧ byteAt e 17 ≤ 7 := by
  simp only [outputConfigOf, Option.bind_eq_bind, Option.bind_eq_some_iff] at h
  obtain ⟨_, remap, _, source, _, station, h⟩ := h
  split at h
  · next mask => exact ⟨darkRemapOf_le remap, paSourceOf_le source, stationOf_le station, mask⟩
  · cases h

/-- A byte kept at or above 1 needs no upper bound. -/
theorem clampTo_byte (b : Byte) : clampTo 1 255 b.toNat = max 1 b.toNat := by
  have := b.isLt
  unfold clampTo
  omega

/-- R74: the entry stored, each quantity clamped into its range. -/
theorem outputConfigOf_bytes (remap : DarkRemap) (pa : Option ScreenId)
    (b0 b1 b2 b3 b4 b5 b6 b7 b8 b9 b10 b11 b12 b13 b14 b15 b16 b17 b18 b19 b20 b21 b22 b23 : Byte)
    (remapCode : remap.code = b13.toNat) (paCode : screenNumber pa = b14.toNat) (station : b15.toNat ≤ 120)
    (mask : b17.toNat ≤ 7) :
    outputConfigOf
        [b0, b1, b2, b3, b4, b5, b6, b7, b8, b9, b10, b11, b12, b13, b14, b15, b16, b17, b18, b19, b20, b21, b22, b23] =
      some
        { gainTarget := min 8191 (twoBytes b0 b1), annGain := min 8191 (twoBytes b2 b3)
          duckLevel := min 4096 (twoBytes b4 b5), duckRate := max 1 (min 4096 (twoBytes b6 b7))
          ceiling := min 8388607 (threeBytes b8 b9 b10), delayTarget := min 9599 (twoBytes b11 b12), darkRemap := remap
          paSource := pa, txStation := b15.toNat, tuneChannel := max 1 b16.toNat
          autocut := BitVec.ofNat 3 b17.toNat, silenceThreshold := min 8388607 (threeBytes b18 b19 b20)
          deadAirBlocks := max 1 (min 6000 (twoBytes b21 b22)), txSilenceLimit := min 30 b23.toNat } := by
  have remapped : darkRemapOf b13.toNat = some remap := remapCode ▸ darkRemapOf_code remap
  have sourced : paSourceOf b14.toNat = some pa := paCode ▸ paSourceOf_number pa
  simp only [outputConfigOf, byteAt, halfAt, triAt, List.getD_cons_zero, List.getD_cons_succ, remapped, sourced,
    stationOf_some station, mask, if_true, clampTo_zero, clampTo_byte]
  rfl

/-! ## An OUTPUT write (R74, R75, R88) -/

/-- An output's number, as an index, names the output. -/
theorem fromOne_output (o : OutputId) : fromOne 5 (o.val + 1) = some o := by
  revert o
  decide

/-- R1: the output of a screen, and the PA, which no screen has. -/
theorem screenOf_outputOf (c : ScreenId) : screenOf (outputOf c) = some c := fromZero_index c

theorem screenOf_pa : screenOf paOutput = none := rfl

theorem State.writeOutput_range (s : State) (o : OutputId) {e : List Byte} (h : outputConfigOf e = none) :
    s.writeOutput (o.val + 1) e = (s, .range) := by
  simp only [State.writeOutput, fromOne_output, h]

theorem State.writeOutput_screen (s : State) (c : ScreenId) {e : List Byte} {g : OutputConfig}
    (h : outputConfigOf e = some g) :
    s.writeOutput ((outputOf c).val + 1) e = ((s.modOutputConfig (outputOf c) fun _ => g).loadSilence c, .done) := by
  simp only [State.writeOutput, fromOne_output, h, screenOf_outputOf]

theorem State.writeOutput_pa (s : State) {e : List Byte} {g : OutputConfig} (h : outputConfigOf e = some g) :
    s.writeOutput (paOutput.val + 1) e = (s.modOutputConfig paOutput fun _ => g, .done) := by
  simp only [State.writeOutput, fromOne_output, h, screenOf_pa]

/-- The OUTPUT table, code 5, takes the write. -/
theorem State.writeCode_output (s : State) (o : OutputId) (e : List Byte) :
    State.writeCode 5 (BitVec.ofNat 16 (o.val + 1)) e s = Written.out (s.writeOutput (o.val + 1) e) := by
  have number : (BitVec.ofNat 16 (o.val + 1) : Half).toNat = o.val + 1 := by
    revert o
    decide
  have taken : State.writeCode 5 (BitVec.ofNat 16 (o.val + 1)) e s =
      Written.out (s.writeOutput (BitVec.ofNat 16 (o.val + 1) : Half).toNat e) := rfl
  rw [taken, number]

/-- R88: the timer that an entry loads. -/
theorem loadLimit_of_station (station limit : Nat) :
    (if station = 0 then none else loadLimit limit) = if station = 0 ∨ limit = 0 then none else some limit := by
  unfold loadLimit
  split
  · next none => rw [if_pos (.inl none)]
  · next used => simp only [used, false_or]

/-- R75, R88: the silence timer loaded or cancelled for the entry just written. -/
theorem State.loadSilence_written (s : State) (c : ScreenId) (g : OutputConfig) :
    (s.modOutputConfig (outputOf c) fun _ => g).loadSilence c =
      (s.modOutputConfig (outputOf c) fun _ => g).modTransmitter c fun x =>
        { x with
          silenceTimer := if g.txStation = 0 ∨ g.txSilenceLimit = 0 then none else some g.txSilenceLimit } := by
  simp [State.loadSilence, loadLimit_of_station]

/-! ## OUTPUT_STATUS (R81, R92) -/

/-- A read of the console that its owner answers: the reply carries the entry. -/
theorem State.read_done {s u : State} {n : Nat} {m : Sender} {table : Byte} {index : Half} {data : List Byte}
    (h : s.readyFor n m) (check : readCheck table 3 = none)
    (owner : State.readCode table index s.countTaken = .entry u data) (room : u.cell.queued < 16) :
    (s.cellSeen m.source).takeRead m table index 3 =
      { u with
        freeCount := u.freeCount + 1
        cell :=
          { u.cell with urgent := u.cell.urgent ++ [mgmtReplyTo m (writeReply 0 table.toNat index ++ data)] } } := by
  rw [State.cellSeen_stranger h.stranger, State.takeRead, check, State.takeMgmt_passes h owner room]
  simp [ReadOut.entry, replyCell, mgmtReplyTo, writeReply, Echo.indexBytes, le8, Reply.code, Management.countAnswer]

/-- A read of the console that its owner refuses changes nothing but the counts. -/
theorem State.read_refused {s : State} {n : Nat} {m : Sender} {table : Byte} {index : Half} {r : Reply}
    (h : s.readyFor n m) (room : 1 ≤ n) (check : readCheck table 3 = none)
    (owner : State.readCode table index s.countTaken = .refused s.countTaken r) (refuses : r.refuses = true) :
    (s.cellSeen m.source).takeRead m table index 3 = s.turnedAway m (writeReply r.code table.toNat index) := by
  have queued : s.cell.queued < 16 := by have := h.room.queued; omega
  rw [State.cellSeen_stranger h.stranger, State.takeRead, check, State.takeMgmt_passes h owner queued]
  simp only [ReadOut.refused, replyCell_write, Management.countAnswer_refuses _ refuses]
  rfl

theorem State.readOutputStatus_none (s : State) {n : Nat} (h : n = 0 ∨ 5 < n) :
    s.readOutputStatus n = .refused s .unknown := by
  have outside : ¬ (1 ≤ n ∧ n ≤ 5) := by omega
  simp only [State.readOutputStatus, fromOne, outside, dite_false]

theorem State.readOutputStatus_output (s : State) (o : OutputId) :
    s.readOutputStatus (o.val + 1) =
      .entry (s.modOutput o fun v => { v with clipped := false }) (s.outputStatusBytes o) := by
  simp only [State.readOutputStatus, fromOne_output]

/-- The OUTPUT_STATUS table, code 21, answers the read. -/
theorem State.readCode_outputStatus (s : State) (index : Half) :
    State.readCode 21 index s = s.readOutputStatus index.toNat := rfl

/-- R92: the byte of the announcement that plays: 0 none, 1 OVER, 2 REPLACE. -/
def AnnQueue.playingByte (q : AnnQueue) : Byte :=
  match q.playing with
  | none => 0
  | some e => if e.mode = .over then 1 else 2

theorem le8_playingCode (q : AnnQueue) : le8 (playingCode q) = [q.playingByte] := by
  unfold playingCode AnnQueue.playingByte
  cases q.playing with
  | none => rfl
  | some e => cases mode : e.mode <;> simp [mode, AnnMode.code, le8]

/-- Three flags in a byte, as a sum of their bits. -/
theorem flagBits_sum (a b c : Bool) :
    flagBits a b c = [(if a then 1 else 0 : Byte) + (if b then 2 else 0) + (if c then 4 else 0)] := by
  cases a <;> cases b <;> cases c <;> rfl

theorem flagBits_two (a b : Bool) : flagBits a b false = [(if a then 1 else 0 : Byte) + (if b then 2 else 0)] := by
  cases a <;> cases b <;> rfl

theorem flagByte_bit (a : Bool) : flagByte a = [if a then 1 else 0] := by cases a <;> rfl

/-- The byte of a carrier state. -/
def Carrier.byte : Carrier → Byte
  | .unknown => 0
  | .on => 1
  | .off => 2

theorem le8_carrier (x : Carrier) : le8 x.code = [x.byte] := by cases x <;> rfl

theorem le8_sticky (b : BitVec 3) : le8 b.toNat = [b.zeroExtend 8] := by
  revert b
  decide

/-- R92: the entry of outputs 1 to 4. -/
theorem State.outputStatusBytes_screen (s : State) (c : ScreenId) :
    s.outputStatusBytes (outputOf c) =
      le16 s.sound.lines[c].delay ++ le16 s.sound.outputs[outputOf c].gain ++ le16 s.sound.outputs[outputOf c].duck ++
        [s.ann.queues[outputOf c].playingByte
          , (if s.sound.outputs[outputOf c].clipped then 1 else 0) +
              (if s.sound.outputs[outputOf c].deadAir then 2 else 0) + (if s.screens[c].sound.cut then 4 else 0)
          , s.sound.transmitters[c].sticky.zeroExtend 8, s.sound.transmitters[c].carrier.byte
          , if s.screens[c].sound.locked then 1 else 0, if s.screens[c].sound.lost then 1 else 0] := by
  simp only [State.outputStatusBytes, screenOf_outputOf, le8_playingCode, flagBits_sum, flagByte_bit, le8_carrier,
    le8_sticky, List.append_assoc, List.cons_append, List.nil_append]

/-- R92, log 22: the entry of the PA; six of its bytes have no value by any rule. -/
theorem State.outputStatusBytes_pa (s : State) :
    ∃ d0 d1 sticky carrier lock lost : Byte, s.outputStatusBytes paOutput =
      [d0, d1] ++ le16 s.sound.outputs[paOutput].gain ++ le16 s.sound.outputs[paOutput].duck ++
        [s.ann.queues[paOutput].playingByte
          , (if s.sound.outputs[paOutput].clipped then 1 else 0) + (if s.sound.outputs[paOutput].deadAir then 2 else 0)
          , sticky, carrier, lock, lost] := by
  simp only [State.outputStatusBytes, screenOf_pa, le8_playingCode, flagBits_two, List.append_assoc, List.cons_append,
    List.nil_append]
  exact ⟨_, _, _, _, _, _, rfl⟩

end Sys2Proof.Machine

namespace Sys2Proof.Proofs
open Machine

/-- Settles O25: the entry is refused RANGE, or stored clamped, with the silence timer of a screen's output. -/
theorem outputWrite : Obligations.OutputWrite := by
  intro s m o remap pa b0 b1 b2 b3 b4 b5 b6 b7 b8 b9 b10 b11 b12 b13 b14 b15 b16 b17 b18 b19 b20 b21 b22 b23 h index
    write new written
  let e : List Byte :=
    [b0, b1, b2, b3, b4, b5, b6, b7, b8, b9, b10, b11, b12, b13, b14, b15, b16, b17, b18, b19, b20, b21, b22, b23]
  have check : writeCheck 5 e = none := rfl
  have room : s.cell.queued < 16 := Nat.lt_of_succ_le h.room.queued
  have owner := State.writeCode_output s.countTaken o e
  refine ⟨fun outside => congrArg Host.Outcome.next ?_, fun remapCode paCode station mask => ?_⟩
  · have refused : outputConfigOf e = none := by
      refine Option.eq_none_iff_forall_ne_some.2 fun g stored => ?_
      obtain ⟨remap, source, station, mask⟩ : b13.toNat ≤ 2 ∧ b14.toNat ≤ 4 ∧ b15.toNat ≤ 120 ∧ b17.toNat ≤ 7 :=
        outputConfigOf_fits stored
      omega
    rw [State.writeOutput_range _ o refused] at owner
    exact State.write_refused h (Nat.le_refl 1) check owner rfl
  · have stored : outputConfigOf e = some new := outputConfigOf_bytes remap pa b0 b1 b2 b3 b4 b5 b6 b7 b8 b9 b10 b11 b12
      b13 b14 b15 b16 b17 b18 b19 b20 b21 b22 b23 remapCode paCode station mask
    refine ⟨fun c own => congrArg Host.Outcome.next ?_, fun own => congrArg Host.Outcome.next ?_⟩
    · subst own
      rw [State.writeOutput_screen _ c stored, State.loadSilence_written] at owner
      exact State.write_done h check owner room
    · subst own
      rw [State.writeOutput_pa _ stored] at owner
      exact State.write_done h check owner room

/-- Settles O31: the index names no output, a screen's output, or the PA. -/
theorem outputStatusRead : Obligations.OutputStatusRead := by
  intro s m index h playing bit
  have check : readCheck 21 3 = none := rfl
  have room : s.cell.queued < 16 := Nat.lt_of_succ_le h.room.queued
  have owner := State.readCode_outputStatus s.countTaken index
  refine ⟨fun outside => congrArg Host.Outcome.next ?_, fun c number => congrArg Host.Outcome.next ?_, fun last => ?_⟩
  · have none := s.countTaken.readOutputStatus_none (outside.imp_left fun zero => congrArg BitVec.toNat zero)
    exact State.read_refused h (Nat.le_refl 1) check (owner.trans none) rfl
  · have entry := s.countTaken.readOutputStatus_output (outputOf c)
    rw [State.outputStatusBytes_screen] at entry
    rw [number] at owner
    have answered := State.read_done h check (owner.trans entry) room
    simp only [← List.append_assoc] at answered
    exact answered
  · obtain ⟨d0, d1, sticky, carrier, lock, lost, bytes⟩ := s.countTaken.outputStatusBytes_pa
    have entry := s.countTaken.readOutputStatus_output paOutput
    rw [bytes] at entry
    rw [last] at owner
    have answered := State.read_done h check (owner.trans entry) room
    subst last
    simp only [← List.append_assoc] at answered
    exact ⟨d0, d1, sticky, carrier, lock, lost, congrArg Host.Outcome.next answered⟩

end Sys2Proof.Proofs

/-! PROOFS. The slew step of a delay line and the end of a level block (R77, R84), settling `SlewStepAndBlockEnd`. -/

namespace Sys2Proof.Machine

/-! ## The slew step (R77) -/

/-- R77: a slew brings the delay of a line 1 or 2 nearer to 0, or leaves it. -/
theorem DelayLine.slew_delay {l : DelayLine} (h : l.inRing) (target : Nat) :
    (l.slew target).delay =
      if l.delay < target then l.delay else if target < l.delay then l.delay - 2 else l.delay - 1 := by
  have moved : (l.slew target).delay = l.delay - l.slewMove target := DelayLine.advance_delay h _
  rw [moved]
  unfold DelayLine.slewMove
  split
  · rfl
  · split <;> rfl

/-! ## The end of a level block (R84) -/

/-- R84: a level block that begins anew. -/
def OutputState.blockEnded (v : OutputState) : OutputState := { v with blockPos := 0, peak := 0, blockVoid := false }

/-- R84: the silent run of an output after one more silent block. -/
def OutputState.runAfter (v : OutputState) : Nat := min (v.silentRun + 1) 6000

section
variable {s : State} {o : OutputId}

theorem State.endBlock_void (void : s.sound.outputs[o].blockVoid = true) :
    s.endBlock o = s.modOutput o fun _ => s.sound.outputs[o].blockEnded := by
  simp only [State.endBlock, void, if_true]
  rfl

theorem State.endBlock_loud (judged : s.sound.outputs[o].blockVoid = false)
    (loud : s.sound.config[o].silenceThreshold ≤ s.sound.outputs[o].peak) :
    s.endBlock o =
      s.modOutput o fun _ => { s.sound.outputs[o].blockEnded with silentRun := 0, deadAir := false } := by
  simp only [State.endBlock, judged, Bool.false_eq_true, if_false, if_neg (Nat.not_lt.2 loud)]
  rfl

theorem State.endBlock_silent (judged : s.sound.outputs[o].blockVoid = false)
    (silent : s.sound.outputs[o].peak < s.sound.config[o].silenceThreshold)
    (unreported : s.sound.outputs[o].silentRun + 1 < s.sound.config[o].deadAirBlocks ∨
      s.sound.outputs[o].deadAir = true) :
    s.endBlock o =
      s.modOutput o fun _ => { s.sound.outputs[o].blockEnded with silentRun := s.sound.outputs[o].runAfter } := by
  have short : ¬ (s.sound.config[o].deadAirBlocks ≤ s.sound.outputs[o].silentRun + 1 ∧
      (!s.sound.outputs[o].deadAir) = true) := by
    rintro ⟨long, fresh⟩
    rcases unreported with short | told
    · omega
    · rw [told] at fresh
      cases fresh
  simp only [State.endBlock, judged, Bool.false_eq_true, if_false, if_pos silent, if_neg short]
  rfl

/-- R84: dead air found at the end of a block. -/
def State.deadAirNoted (s : State) (o : OutputId) : State :=
  s.modOutput o fun _ =>
    { s.sound.outputs[o].blockEnded with silentRun := s.sound.outputs[o].runAfter, deadAir := true }

theorem State.endBlock_deadAir (judged : s.sound.outputs[o].blockVoid = false)
    (silent : s.sound.outputs[o].peak < s.sound.config[o].silenceThreshold)
    (long : s.sound.config[o].deadAirBlocks ≤ s.sound.outputs[o].silentRun + 1)
    (fresh : s.sound.outputs[o].deadAir = false) :
    s.endBlock o = (s.deadAirNoted o).raise .deadAir (numberOf o) s.sound.outputs[o].runAfter (screenOf o) := by
  have found : s.sound.config[o].deadAirBlocks ≤ s.sound.outputs[o].silentRun + 1 ∧
      (!s.sound.outputs[o].deadAir) = true := ⟨long, by rw [fresh]; rfl⟩
  simp only [State.endBlock, judged, Bool.false_eq_true, if_false, if_pos silent, if_pos found]
  rfl

end

/-- R83: every output but the PA has a screen. -/
theorem screenOf_isSome (o : OutputId) : flagByte (screenOf o).isSome = [if o = paOutput then 0 else 1] := by
  revert o
  decide

/-! ## The notice of an event (R158) -/

/-- R110: an announcement request of an event hands over no cell, and leaves the console and the event table. -/
theorem State.eventRequest_notice (s : State) (e : Event) (n : Nat) :
    (s.eventRequest e n).cell = s.cell ∧ (s.eventRequest e n).mgmt = s.mgmt ∧
      (s.eventRequest e n).ann.events = s.ann.events := by
  have kept := (s.eventRequest_kept e n).ann.rest
  refine ⟨?_, ?_, by rw [kept]⟩ <;>
  · unfold State.eventRequest
    split
    · rfl
    · split
      · rfl
      · rw [State.announce, s.request_event _ rfl]
        rfl

/-- R158: with room in the queue an event whose entry asks for it puts its NOTICE at the back of the NORMAL class. -/
theorem State.raise_notice {s : State} (room : s.cell.queued < 16) {e : Event} (asked : s.ann.events[e.code].notice = true)
    (subject snapshot : Nat) (clockOf : Option ScreenId) :
    (s.raise e subject snapshot clockOf).cell =
      { s.cell with
        normal := s.cell.normal ++ [(s.eventRequest e subject).noticeCell e subject snapshot clockOf] } := by
  obtain ⟨cell, -, events⟩ := s.eventRequest_notice e subject
  have asked' : (s.eventRequest e subject).ann.events[e.code].notice = true := events ▸ asked
  have handed := State.handNormal_room
    (s := (s.eventRequest e subject).modMgmt fun m => { m with notices := bump16 m.notices })
    (o := (s.eventRequest e subject).noticeCell e subject snapshot clockOf) (cell ▸ room) rfl
  rw [State.raise, State.sendNotice, if_pos asked', handed]
  simp only [State.draw_cell, State.modMgmt_cell, cell]

end Sys2Proof.Machine

namespace Sys2Proof.Proofs
open Machine

/-- R84, R158: the notice of DEAD_AIR. -/
theorem deadAir_notice {s : State} {o : OutputId} (room : s.hasRoom 1) (asked : s.ann.events[(7 : Fin 16)].notice = true) :
    ∃ cell : OwnCell,
      ((s.deadAirNoted o).raise .deadAir (numberOf o) s.sound.outputs[o].runAfter (screenOf o)).cell =
          { s.cell with normal := s.cell.normal ++ [cell] } ∧
        cell.kind = .notice ∧ cell.dest = s.mgmt.site.console ∧
        cell.payload.take 8 =
          [7, if o = paOutput then 0 else 1] ++ le16 (o.val + 1) ++ le32 s.sound.outputs[o].runAfter := by
  have console := ((s.deadAirNoted o).eventRequest_notice .deadAir (numberOf o)).2.1
  refine ⟨_, State.raise_notice (s := s.deadAirNoted o) (e := .deadAir) (Nat.lt_of_succ_le room.queued) asked _ _ _, rfl,
    congrArg (·.site.console) console, ?_⟩
  simp only [State.noticeCell, screenOf_isSome]
  rfl

/-- Settles O49: the slew by the line's delay, the end of a block by how it is judged. -/
theorem slewStepAndBlockEnd : Obligations.SlewStepAndBlockEnd := by
  refine ⟨fun s c read write => ?_, fun s o => ⟨fun void => ?_, fun judged loud => ?_, fun judged silent unreported => ?_,
    fun judged silent long fresh => ?_⟩⟩
  · have ring : s.sound.lines[c].inRing := ⟨Nat.lt_succ_of_le read, Nat.lt_succ_of_le write⟩
    have slewed := DelayLine.slew_delay ring s.sound.config[outputOf c].delayTarget
    rw [DelayLine.delay_eq (ring.slew _), DelayLine.delay_eq ring] at slewed
    refine ⟨_, (s.sound.lines[c].slew s.sound.config[outputOf c].delayTarget).read, rfl, rfl, ?_⟩
    simp only [Fin.getElem_fin, State.modLine_get, if_true] at slewed ⊢
    exact slewed
  · exact congrArg Host.Outcome.next (State.endBlock_void void)
  · exact congrArg Host.Outcome.next (State.endBlock_loud judged loud)
  · exact congrArg Host.Outcome.next (State.endBlock_silent judged silent unreported)
  · have raised := (s.deadAirNoted o).raise_raised .deadAir (numberOf o) s.sound.outputs[o].runAfter (screenOf o)
    refine ⟨_, congrArg Host.Outcome.next (State.endBlock_deadAir judged silent long fresh), raised.kept.sound,
      raised.screens, ?_, deadAir_notice⟩
    rw [raised.kept.sound]
    exact raised.sameButTraffic

end Sys2Proof.Proofs

/-! PROOFS. Transmitter reports, autocut, CLEAR_FAULT and transmitter silence (R69, R85 to R89), settling
`TransmitterWatch`. -/

namespace Sys2Proof.Machine

/-! ## Transmitters -/

/-- Two changes of one transmitter after each other. -/
theorem State.modTransmitter_modTransmitter (s : State) (c : ScreenId) (f g : Transmitter → Transmitter) :
    (s.modTransmitter c f).modTransmitter c g = s.modTransmitter c (g ∘ f) := by
  simp [State.modTransmitter, State.modSound]

/-- R89: the TX_CMD of an output's transmitter. -/
def State.txCell (s : State) (c : ScreenId) (command : Nat) : OwnCell :=
  { kind := .txCmd, dest := s.sound.config[outputOf c].txStation, payload := le8 command, ref := .output c }

/-- R89: a command to a transmitter, with room in the queue. -/
def State.txSent (s : State) (c : ScreenId) (command : Nat) : State :=
  if s.sound.config[outputOf c].txStation = 0 then s.modSound fun p => { p with skippedTx := bump16 p.skippedTx }
  else s.modCell fun p => { p with urgent := p.urgent ++ [s.txCell c command] }

theorem State.sendTx_room {s : State} (room : s.cell.queued < 16) (c : ScreenId) (command : Nat) :
    s.sendTx c command = s.txSent c command := by
  have handed := State.handUrgent_room (s := s) (o := s.txCell c command) room rfl
  unfold State.txCell at handed
  simp only [State.sendTx, State.txSent, handed]
  rfl

theorem State.txSent_queued (s : State) (c : ScreenId) (command : Nat) :
    (s.txSent c command).cell.queued ≤ s.cell.queued + 1 := by
  unfold State.txSent
  split
  · exact Nat.le_succ _
  · simp only [State.modCell_cell, CellProcessor.queued, List.length_append, List.length_singleton]
    omega

/-! ## A failure that holds a show (R69) -/

/-- R69: a show that a failure other than the loss of its sound holds. -/
abbrev Screen.failureHolds (v : Screen) : Prop := v.config.holdOnFailure = true ∧ v.seq.state = .running

/-- R69, R70: a show record that a transmitter's cut holds, and its projector pauses if it has one. -/
def Screen.cutHeld (v : Screen) : ShowRecord :=
  { v.seq with
    state := .held, holdReason := some .txCut
    pausedByHold := v.seq.pausedByHold || decide (v.config.projector ≠ 0) }

theorem State.failureHold_noCut {s : State} {c : ScreenId} (h : ¬ s.screens[c].failureHolds) :
    s.failureHold c .txCut = s := if_neg fun k => h ⟨k.1, k.2.1⟩

/-- R69: a transmitter's cut holds a show, and sends PAUSE with argument 0 (log 44). -/
theorem State.failureHold_cut {s : State} {c : ScreenId} (holds : s.screens[c].failureHolds) (room : s.cell.queued < 16) :
    s.failureHold c .txCut = (s.projSent c projPause 0).modSeq c fun _ => s.screens[c].cutHeld := by
  have sent := State.sendProj_room_eq
    (s := s.modSeq c fun r => { r with state := .held, holdReason := some .txCut }) room c projPause 0
  rw [State.projSent_modSeq] at sent
  have other : HoldReason.txCut ≠ .projFault := nofun
  rw [State.failureHold, if_pos ⟨holds.1, holds.2, nofun⟩]
  simp only [if_neg other, sent]
  split
  · next absent =>
    refine State.modSeq_congr ?_
    rw [s.projSent_screens, Screen.cutHeld, decide_eq_false (not_not.2 absent), Bool.or_false]
  · next present =>
    rw [State.modSeq_modSeq]
    refine State.modSeq_congr ?_
    rw [s.projSent_screens, Screen.cutHeld, decide_eq_true present, Bool.or_true]
    rfl

/-- R69: what a transmitter's cut leaves of a screen's show and of the transmit queue. -/
structure CutHold (s : State) (c : ScreenId) (t : State) : Prop where
  own : t.screens[c] =
    { s.screens[c] with seq := if s.screens[c].failureHolds then s.screens[c].cutHeld else s.screens[c].seq }
  others : ∀ d : ScreenId, d ≠ c → t.screens[d] = s.screens[d]
  urgent : t.cell.urgent =
    s.cell.urgent ++
      if s.screens[c].failureHolds ∧ s.screens[c].config.projector ≠ 0 then [s.projCell c projPause 0] else []
  normal : t.cell.normal = s.cell.normal
  sound : t.sound = s.sound
  loop : t.loop = s.loop
  gate : t.gate = s.gate
  mgmt : t.mgmt = s.mgmt

theorem State.failureHold_cutHold {s : State} (c : ScreenId) (room : s.cell.queued < 16) :
    CutHold s c (s.failureHold c .txCut) := by
  by_cases holds : s.screens[c].failureHolds
  · rw [State.failureHold_cut holds room]
    have screens := s.projSent_screens c projPause 0
    have cell := s.projSent_cell c projPause 0
    obtain ⟨sound, loop, gate, mgmt⟩ := s.projSent_blocks c projPause 0
    refine ⟨?_, fun d hd => ?_, ?_, congrArg (·.normal) cell, sound, loop, gate, mgmt⟩
    · rw [State.modSeq_self, screens, if_pos holds]
    · rw [State.modSeq, State.modScreen_other _ _ _ hd, screens]
    · have paused := and_iff_right (b := s.screens[c].config.projector ≠ 0) holds
      simp only [State.modSeq_cell, cell, if_congr paused rfl rfl]
  · rw [State.failureHold_noCut holds]
    refine ⟨?_, fun _ _ => rfl, ?_, rfl, rfl, rfl, rfl, rfl⟩
    · rw [if_neg holds]
    · rw [if_neg fun k => holds k.1, List.append_nil]

/-! ## An output that is cut (R86) -/

/-- R86: an output cut, with CARRIER_OFF sent to its transmitter. -/
def State.cutSent (s : State) (c : ScreenId) : State :=
  (s.modScreenSound c fun v => { v with cut := true }).modCell fun p =>
    { p with urgent := p.urgent ++ [s.txCell c carrierOff] }

theorem State.cutSent_self (s : State) (c : ScreenId) :
    (s.cutSent c).screens[c] = { s.screens[c] with sound := { s.screens[c].sound with cut := true } } :=
  s.modScreen_self c fun v => { v with sound := { v.sound with cut := true } }

theorem State.cutSent_other (s : State) {c d : ScreenId} (h : d ≠ c) : (s.cutSent c).screens[d] = s.screens[d] :=
  s.modScreen_other c (fun v => { v with sound := { v.sound with cut := true } }) h

theorem State.cutSent_queued (s : State) (c : ScreenId) : (s.cutSent c).cell.queued = s.cell.queued + 1 := by
  simp only [State.cutSent, State.modCell_cell, State.modScreenSound_cell, CellProcessor.queued, List.length_append,
    List.length_singleton]
  omega

theorem State.cutOutput_eq {s : State} {c : ScreenId} (station : s.sound.config[outputOf c].txStation ≠ 0)
    (room : s.cell.queued < 16) :
    s.cutOutput c =
      (((s.cutSent c).raise .txCut (numberOf c) s.sound.transmitters[c].sticky.toNat (some c)).failureHold c
        .txCut).stopQueue c := by
  have sent : (s.modScreenSound c fun v => { v with cut := true }).sendTx c carrierOff = s.cutSent c :=
    (State.sendTx_room (s := s.modScreenSound c _) room c carrierOff).trans (if_neg station)
  rw [State.cutOutput, sent]
  rfl

/-- R86, R106: the announcement that plays on an output that is cut stops. -/
theorem State.stopQueue_playing (s : State) (c : ScreenId) : (s.stopQueue c).ann.queues[outputOf c].playing = none := by
  simp only [State.stopQueue, Fin.getElem_fin, State.setQueue_get, if_true]
  exact AnnQueue.stop_playing _

/-- R86: what the cut of an output leaves. -/
structure CutTaken (s : State) (c : ScreenId) (t : State) : Prop where
  own : t.screens[c] =
    { s.screens[c] with
      sound := { s.screens[c].sound with cut := true }
      seq := if s.screens[c].failureHolds then s.screens[c].cutHeld else s.screens[c].seq }
  others : ∀ d : ScreenId, d ≠ c → t.screens[d] = s.screens[d]
  urgent : t.cell.urgent =
    s.cell.urgent ++ [s.txCell c carrierOff] ++
      if s.screens[c].failureHolds ∧ s.screens[c].config.projector ≠ 0 then [s.projCell c projPause 0] else []
  playing : t.ann.queues[outputOf c].playing = none
  sound : t.sound = s.sound
  loop : t.loop = s.loop
  gate : t.gate = s.gate
  tells : s.tells t [⟨8, c.val + 1, s.sound.transmitters[c].sticky.toNat, some s.screens[c].seq.clock⟩]

theorem State.cutOutput_taken {s : State} {c : ScreenId} (station : s.sound.config[outputOf c].txStation ≠ 0)
    (room : s.hasRoom 3) : CutTaken s c (s.cutOutput c) := by
  have few := room.queued
  have one := s.cutSent_queued c
  have self := s.cutSent_self c
  have raised := (s.cutSent c).raise_raised .txCut (numberOf c) s.sound.transmitters[c].sticky.toNat (some c)
  have two := (s.cutSent c).raise_queued .txCut (numberOf c) s.sound.transmitters[c].sticky.toNat (some c)
  have told := State.raise_tells (s := s.cutSent c) (by omega) .txCut (numberOf c)
    s.sound.transmitters[c].sticky.toNat (some c)
  rw [State.cutOutput_eq station (by omega)]
  generalize (s.cutSent c).raise .txCut (numberOf c) s.sound.transmitters[c].sticky.toNat (some c) = u at *
  have held := State.failureHold_cutHold (s := u) c (by omega)
  have screen : u.screens[c] = { s.screens[c] with sound := { s.screens[c].sound with cut := true } } := by
    rw [raised.screens, self]
  have own := held.own
  have urgent := held.urgent
  rw [Option.map_some, self] at told
  simp only [State.projCell, screen] at own urgent
  refine ⟨own, fun d hd => ?_, ?_, State.stopQueue_playing _ c, held.sound.trans raised.kept.sound,
    held.loop.trans raised.kept.loop, held.gate.trans raised.kept.gate,
    State.tells.of_same (s := s) told held.normal (congrArg (·.notices) held.mgmt)⟩
  · have same : u.screens[d] = s.screens[d] := by rw [raised.screens, s.cutSent_other hd]
    exact (held.others d hd).trans same
  · rw [raised.urgent] at urgent
    exact urgent

/-! ## A transmitter's report (R85) -/

theorem carrierReportOf_code {x : Carrier} (h : x ≠ .unknown) : carrierReportOf x.code = some x := by
  cases x with
  | unknown => exact absurd rfl h
  | on | off => rfl

theorem carrierReportOf_none {n : Nat} (h : n = 0 ∨ 2 < n) : carrierReportOf n = none := by
  unfold carrierReportOf
  split
  · omega
  · omega
  · rfl

/-- R85: the transmitter of an output is at a station. -/
abbrev State.transmits (s : State) (source : Nat) (c : ScreenId) : Prop :=
  s.sound.config[outputOf c].txStation ≠ 0 ∧ s.sound.config[outputOf c].txStation = source

/-- R85: a report that no output takes is counted. -/
theorem State.takeTxStatus_unmatched {s : State} {source carrier : Byte} (flags : Byte)
    (h : carrier = 0 ∨ 2 < carrier.toNat ∨ ∀ c : ScreenId, ¬ s.transmits source.toNat c) :
    s.takeTxStatus source carrier flags = s.modSound fun p => { p with unmatchedTx := bump16 p.unmatchedTx } := by
  unfold State.takeTxStatus
  split
  · rfl
  · next report known =>
    rw [if_neg]
    simp only [List.any_eq_true, Bool.and_eq_true, decide_eq_true_eq]
    rintro ⟨c, -, transmits⟩
    rcases h with rfl | above | none
    · cases known
    · rw [carrierReportOf_none (.inr above)] at known
      cases known
    · exact none c transmits

theorem State.txReport_other {s : State} {source : Nat} {c : ScreenId} (h : ¬ s.transmits source c) (report : Carrier)
    (bits : BitVec 3) : State.txReport source report bits s c = s := if_neg h

/-- R85: a report from a station that is the transmitter of one output is that output's alone. -/
theorem State.takeTxStatus_one {s : State} {source carrier flags : Byte} {c : ScreenId} {report : Carrier}
    (known : carrierReportOf carrier.toNat = some report) (transmits : s.transmits source.toNat c)
    (only : ∀ d, d ≠ c → s.sound.config[outputOf d].txStation ≠ source.toNat)
    (config : (State.txReport source.toNat report (flags.truncate 3) s c).sound.config = s.sound.config) :
    s.takeTxStatus source carrier flags = State.txReport source.toNat report (flags.truncate 3) s c := by
  have found : (allScreens.any fun c =>
      decide (s.sound.config[outputOf c].txStation ≠ 0) &&
        decide (s.sound.config[outputOf c].txStation = source.toNat)) = true := by
    simp only [List.any_eq_true, Bool.and_eq_true, decide_eq_true_eq]
    exact ⟨c, mem_allScreens c, transmits⟩
  simp only [State.takeTxStatus, known, found, if_true]
  refine foldl_once (by decide) (mem_allScreens c) (fun d ne => ?_) fun d ne => ?_
  · exact State.txReport_other (fun k => only d ne k.2) report _
  · refine State.txReport_other (fun k => only d ne ?_) report _
    rw [← config]
    exact k.2

/-- R88: the silence timer of an output with a transmitter. -/
theorem State.loadSilence_used {s : State} {c : ScreenId} (h : s.sound.config[outputOf c].txStation ≠ 0) :
    s.loadSilence c =
      s.modTransmitter c fun x => { x with silenceTimer := loadLimit s.sound.config[outputOf c].txSilenceLimit } := by
  simp only [State.loadSilence, if_neg h]

/-- R85, R88: an output's transmitter as a report leaves it, its silence timer loaded. -/
def State.txTold (s : State) (c : ScreenId) (report : Carrier) (bits : BitVec 3) : State :=
  s.modTransmitter c fun x =>
    { x with
      carrier := report, sticky := x.sticky ||| bits
      silenceTimer :=
        if s.sound.config[outputOf c].txSilenceLimit = 0 then none else some s.sound.config[outputOf c].txSilenceLimit }

theorem State.txTold_sticky (s : State) (c : ScreenId) (report : Carrier) (bits : BitVec 3) :
    (s.txTold c report bits).sound.transmitters[c].sticky = s.sound.transmitters[c].sticky ||| bits := by
  simp only [State.txTold, Fin.getElem_fin, State.modTransmitter_get, if_true]

/-- R85, R86: a report whose flags cut the output when it is not cut already. -/
theorem State.txReport_eq {s : State} {source : Nat} {c : ScreenId} (transmits : s.transmits source c)
    (report : Carrier) (bits : BitVec 3) :
    State.txReport source report bits s c =
      if bits &&& s.sound.config[outputOf c].autocut ≠ 0 ∧ s.screens[c].sound.cut = false then
        (s.txTold c report bits).cutOutput c
      else s.txTold c report bits := by
  have told : (s.modTransmitter c fun t => { t with carrier := report, sticky := t.sticky ||| bits }).loadSilence c =
      s.txTold c report bits :=
    (State.loadSilence_used (s := s.modTransmitter c _) transmits.1).trans (s.modTransmitter_modTransmitter c _ _)
  simp only [State.txReport, if_pos transmits, told, Bool.not_eq_true']

/-! ## CLEAR_FAULT and silence (R87, R88) -/

theorem State.clearFault_open {s : State} {c : ScreenId} (h : s.screens[c].sound.cut = false) :
    s.clearFault c = s.modTransmitter c fun x => { x with sticky := 0 } := by
  simp only [State.clearFault, h, Bool.false_eq_true, if_false]

/-- R87: the end of a cut, its CARRIER_ON still to be sent. -/
def State.cutEnded (s : State) (c : ScreenId) : State :=
  (s.modTransmitter c fun x => { x with sticky := 0 }).modScreenSound c fun v => { v with cut := false }

theorem State.clearFault_cut {s : State} {c : ScreenId} (h : s.screens[c].sound.cut = true) :
    s.clearFault c = (s.cutEnded c).sendTx c carrierOn := by
  simp only [State.clearFault, h, if_true]
  rfl

/-- A command of an output as its owner obeys it. -/
theorem obey_clearFault (s : State) (c : ScreenId) :
    s.obey (.clearFault (BitVec.ofNat 8 (c.val + 1))) = (s.clearFault c, .done) := by
  simp only [State.obey, State.doClearFault, fromOne_screen]

theorem obey_clearFault_none (s : State) {b : Byte} (h : b = 0 ∨ 4 < b.toNat) :
    s.obey (.clearFault b) = (s, .range) := by
  simp only [State.obey, State.doClearFault, fromOne_none h]

theorem State.txSilent_none {s : State} {c : ScreenId} (h : s.sound.transmitters[c].silenceTimer = none) :
    s.txSilent c = s := by
  simp only [State.txSilent, h]

theorem State.txSilent_runs {s : State} {c : ScreenId} (h : s.sound.transmitters[c].silenceTimer.isSome = true) :
    s.txSilent c =
      (s.modTransmitter c fun x => { x with silenceTimer := none }).raise .txSilent (numberOf c)
        s.sound.config[outputOf c].txStation (some c) := by
  obtain ⟨n, runs⟩ := Option.isSome_iff_exists.1 h
  simp only [State.txSilent, runs]

end Sys2Proof.Machine

namespace Sys2Proof.Proofs
open Machine

/-- R85, R86: a report for one output, with no flag that cuts it and with one. -/
theorem txStatus_one {s : State} {source carrier flags : Byte} {c : ScreenId} {report : Carrier}
    (stranger : s.stranger source) (code : report.code = carrier.toNat) (reported : report ≠ .unknown)
    (station : s.sound.config[outputOf c].txStation = source.toNat) (used : source ≠ 0)
    (only : ∀ d, d ≠ c → s.sound.config[outputOf d].txStation ≠ source.toNat) :
    let told := s.txTold c report (flags.truncate 3)
    let cuts := flags.truncate 3 &&& s.sound.config[outputOf c].autocut ≠ 0 ∧ s.screens[c].sound.cut = false
    (¬ cuts → exec (.txStatus source carrier flags) s = .next told) ∧
      (cuts → s.hasRoom 3 → exec (.txStatus source carrier flags) s = .next (told.cutOutput c) ∧
        CutTaken told c (told.cutOutput c)) := by
  intro told cuts
  have nonzero : source.toNat ≠ 0 := fun zero => used (BitVec.eq_of_toNat_eq zero)
  have transmits : s.transmits source.toNat c := ⟨station ▸ nonzero, station⟩
  have known : carrierReportOf carrier.toNat = some report := code ▸ carrierReportOf_code reported
  have reportOf := State.txReport_eq transmits report (flags.truncate 3)
  have taken {t : State} (result : State.txReport source.toNat report (flags.truncate 3) s c = t)
      (config : t.sound.config = s.sound.config) : exec (.txStatus source carrier flags) s = .next t := by
    have whole := State.takeTxStatus_one (flags := flags) known transmits only (by rw [result, config])
    refine congrArg Host.Outcome.next ?_
    rw [State.cellSeen_stranger stranger, whole, result]
  refine ⟨fun calm => ?_, fun cut room => ?_⟩
  · exact taken (reportOf.trans (if_neg calm)) rfl
  · have cutTaken := State.cutOutput_taken (s := told) (c := c) transmits.1 room
    exact ⟨taken (reportOf.trans (if_pos cut)) ((congrArg SoundPath.config cutTaken.sound).trans rfl), cutTaken⟩

/-- R87, R155: a CLEAR_FAULT that is done, answered behind what it has sent. -/
theorem clearFault_done {s u : State} {m : Sender} {c : ScreenId} (h : s.readyFor 2 m)
    (obeyed : s.countTaken.clearFault c = u) (few : u.cell.queued ≤ s.cell.queued + 1) :
    exec (.clearFault m (BitVec.ofNat 8 (c.val + 1))) s = .next
      { u with
        freeCount := u.freeCount + 1
        cell :=
          { u.cell with
            urgent := u.cell.urgent ++ [mgmtReplyTo m (commandReply 0 30 s.indexLow s.indexHigh)] } } := by
  have room : s.cell.queued + 2 ≤ 16 := h.room.queued
  have owner := (obey_clearFault s.countTaken c).trans (congrArg (·, Reply.done) obeyed)
  exact congrArg Host.Outcome.next (State.command_done h nofun owner (by omega))

/-- Settles O50: reports by the outputs they concern, the silence timers, and CLEAR_FAULT by the output's cut. -/
theorem transmitterWatch : Obligations.TransmitterWatch := by
  refine ⟨fun s source carrier flags stranger => ⟨fun unmatched => ?_, fun c report code reported station used only => ?_⟩,
    fun s c => ⟨fun stopped => congrArg Host.Outcome.next (State.txSilent_none stopped), fun runs => ?_⟩,
    fun s m c h => ?_⟩
  · have counted := State.takeTxStatus_unmatched (s := s) (source := source) (carrier := carrier) flags
      (unmatched.imp_right fun h => h.imp_right fun apart d k => (apart d).elim k.1 fun ne => ne k.2)
    refine congrArg Host.Outcome.next ?_
    rw [State.cellSeen_stranger stranger, counted]
    rfl
  · intro bits g v told
    obtain ⟨calm, cuts⟩ := txStatus_one (flags := flags) stranger code reported station used only
    refine ⟨fun h => calm fun k => ?_, fun flagged uncut room => ?_⟩
    · rcases h with noFlag | cut
      · exact k.1 noFlag
      · exact Bool.noConfusion (cut.symm.trans k.2)
    · intro holds
      obtain ⟨result, taken⟩ := cuts ⟨flagged, uncut⟩ room
      have own := taken.own
      have tells := taken.tells
      rw [State.txTold_sticky] at tells
      have sent : told.txCell c carrierOff =
          { kind := .txCmd, dest := source.toNat, payload := [1], ref := .output c } := by
        rw [← station]
        rfl
      refine ⟨_, result, taken.sound, by rw [own]; rfl, taken.playing, by rw [own]; rfl, ?_, taken.others, taken.gate,
        taken.loop, tells⟩
      rw [← sent]
      exact taken.urgent
  · have raised := (s.modTransmitter c fun x => { x with silenceTimer := none }).raise_raised .txSilent (numberOf c)
      s.sound.config[outputOf c].txStation (some c)
    refine ⟨_, congrArg Host.Outcome.next (State.txSilent_runs runs), raised.kept.sound, raised.screens, ?_, fun room => ?_⟩
    · rw [raised.kept.sound]
      exact raised.sameButTraffic
    · exact State.raise_tells (s := s.modTransmitter c fun x => { x with silenceTimer := none })
        (Nat.lt_of_succ_le room.queued) .txSilent (numberOf c) s.sound.config[outputOf c].txStation (some c)
  · intro output emptied station
    have room : s.cell.queued < 16 := Nat.lt_of_succ_le (Nat.le_of_succ_le h.room.queued)
    refine ⟨fun b outside => ?_, fun uncut => ?_, fun cut => ?_⟩
    · exact ⟨_, _, congrArg Host.Outcome.next (State.command_refused (c := .clearFault b) h (by decide) nofun
        (obey_clearFault_none _ outside) rfl)⟩
    · exact ⟨_, _, clearFault_done h (State.clearFault_open uncut) (Nat.le_succ _)⟩
    · intro opened
      have ended : s.countTaken.clearFault c = (s.countTaken.cutEnded c).txSent c carrierOn :=
        (State.clearFault_cut (s := s.countTaken) cut).trans
          (State.sendTx_room (s := s.countTaken.cutEnded c) room c carrierOn)
      have few := (s.countTaken.cutEnded c).txSent_queued c carrierOn
      refine ⟨s.indexLow, s.indexHigh, (clearFault_done h ended few).trans (congrArg Host.Outcome.next ?_)⟩
      by_cases absent : station = 0
      · have skipped : (s.countTaken.cutEnded c).txSent c carrierOn = _ := if_pos absent
        rw [if_pos absent, skipped]
        rfl
      · have sent : (s.countTaken.cutEnded c).txSent c carrierOn = _ := if_neg absent
        rw [if_neg absent, sent]
        rfl

end Sys2Proof.Proofs

/-! PROOFS. One output frame period (R76 to R84), settling `SamplePeriod`. -/

namespace Sys2Proof.Machine

/-! ## A period in which no entry and no block ends (R84, R104) -/

/-- Nothing falls due on an output in this period: no entry starts or ends, and its level block does not fill. -/
structure State.undue (s : State) (o : OutputId) : Prop where
  starts : s.ann.queues[o].playing = none → s.ann.queues[o].waiting = []
  ends : ∀ e, s.ann.queues[o].playing = some e → e.next < e.items.length
  block : s.sound.outputs[o].blockPos < 479

theorem State.setQueue_same (s : State) (o : OutputId) : s.setQueue o s.ann.queues[o] = s := by
  simp [State.setQueue, State.modAnn]

theorem State.queuePeriod_undue {s : State} {o : OutputId} (h : s.undue o) : s.queuePeriod o = s := by
  unfold State.queuePeriod
  split
  · next e playing =>
    have unfed : ¬ e.fed = true := by
      simpa only [QueueEntry.fed, decide_eq_true_eq, Nat.not_le] using h.ends e playing
    rw [if_neg unfed]
  · next idle =>
    have stays : s.ann.queues[o].start = s.ann.queues[o] := by rw [AnnQueue.start, h.starts idle]
    rw [State.startEntry, stays, s.setQueue_same, ite_self]

theorem State.movePeriod_output (s : State) (o : OutputId) : s.movePeriod.sound.outputs[o] = s.movedGains o := by
  simp [State.movePeriod]

theorem State.movePeriod_line (s : State) (c : ScreenId) : s.movePeriod.sound.lines[c] = s.movedLine c := by
  simp [State.movePeriod]

theorem State.deliverPeriod_output (s : State) (o : OutputId) :
    s.deliverPeriod.sound.outputs[o] = s.afterPeriod o := by
  simp [State.deliverPeriod]

/-- R76 to R83: the period of such outputs moves gains and lines, delivers, and feeds the announcements on. -/
theorem State.samplePeriod_undue {s : State} (h : ∀ o, s.undue o) :
    s.samplePeriod = s.movePeriod.deliverPeriod.modAnn Composer.advanceFeeds := by
  have started : allOutputs.foldl State.queuePeriod s = s := foldl_fixed fun o _ => State.queuePeriod_undue (h o)
  rw [State.samplePeriod, started]
  refine foldl_fixed fun o _ => if_neg (Nat.not_le.2 ?_)
  have position : s.movePeriod.deliverPeriod.sound.outputs[o].blockPos = s.sound.outputs[o].blockPos + 1 := by
    rw [State.deliverPeriod_output, State.afterPeriod, State.movePeriod_output]
    rfl
  have short := (h o).block
  exact position ▸ Nat.succ_lt_succ short

/-- R104: the feeds advance entries that play, and start and end none. -/
theorem Composer.advanceFeeds_queue (a : Composer) (o : OutputId) :
    a.advanceFeeds.queues[o] = { a.queues[o] with playing := a.queues[o].playing.map a.advanceEntry } := by
  simp [Composer.advanceFeeds]

/-! ## Delay lines (R76, R77) -/

/-- R76: a move of one position stops at the write position. -/
theorem DelayLine.advance_one {l : DelayLine} (h : l.inRing) :
    (l.advance 1).read = if l.read = l.write then l.read else (l.read + 1) % 9600 := by
  have hr := h.read
  have hw := h.write
  have moved : (l.advance 1).read = (l.read + min 1 l.delay) % 9600 := rfl
  rw [moved, DelayLine.delay_eq h]
  simp only [lineSize] at hr hw
  split <;> omega

/-- R76: the frame of zeros stands at the new write position, whichever of frame and move came first. -/
theorem DelayLine.fillAndMove_zero (l : DelayLine) (n : Nat) (h : Memory.wf zeroFrame l.frames) :
    (l.fillAndMove n).write = (l.write + 1) % 9600 ∧
      memRead zeroFrame (l.fillAndMove n).frames (l.fillAndMove n).write = zeroFrame := by
  have zero := (memRead_memWrite zeroFrame l.frames h.1 ((l.write + 1) % lineSize) ((l.write + 1) % lineSize)
    zeroFrame).trans (if_pos rfl)
  unfold DelayLine.fillAndMove
  split
  · exact ⟨rfl, zero⟩
  · exact ⟨rfl, zero⟩

section
variable {s : State} {c : ScreenId}

theorem State.movedLine_plays (locked : s.screens[c].sound.locked = true) (phase : s.sound.lines[c].phase < 63) :
    s.movedLine c = { s.sound.lines[c].advance 1 with phase := s.sound.lines[c].phase + 1 } := by
  simp only [State.movedLine, locked, if_true, if_pos phase]

theorem State.movedLine_slews (locked : s.screens[c].sound.locked = true) (phase : s.sound.lines[c].phase = 63) :
    s.movedLine c = s.sound.lines[c].slew s.sound.config[outputOf c].delayTarget := by
  have wraps : ¬ s.sound.lines[c].phase < 63 := by omega
  simp only [State.movedLine, locked, if_true, if_neg wraps]
  rfl

theorem State.movedLine_fills (unlocked : s.screens[c].sound.locked = false) (phase : s.sound.lines[c].phase < 63) :
    s.movedLine c = { s.sound.lines[c].fillAndMove 1 with phase := s.sound.lines[c].phase + 1 } := by
  simp only [State.movedLine, unlocked, Bool.false_eq_true, if_false, if_pos phase]

theorem State.movedLine_fillSlews (unlocked : s.screens[c].sound.locked = false)
    (phase : s.sound.lines[c].phase = 63) :
    s.movedLine c =
      { s.sound.lines[c].fillAndMove (s.sound.lines[c].slewMove s.sound.config[outputOf c].delayTarget) with
        phase := 0 } := by
  have wraps : ¬ s.sound.lines[c].phase < 63 := by omega
  simp only [State.movedLine, unlocked, Bool.false_eq_true, if_false, if_neg wraps]

/-- R76: the line of an input that is not LOCKED takes its frame of zeros, whatever its phase. -/
theorem State.movedLine_zero (unlocked : s.screens[c].sound.locked = false)
    (h : Memory.wf zeroFrame s.sound.lines[c].frames) :
    (s.movedLine c).write = (s.sound.lines[c].write + 1) % 9600 ∧
      memRead zeroFrame (s.movedLine c).frames (s.movedLine c).write = zeroFrame := by
  simp only [State.movedLine, unlocked, Bool.false_eq_true, if_false]
  exact s.sound.lines[c].fillAndMove_zero _ h

/-- R76: between slews the delay of such a line stays. -/
theorem State.movedLine_fills_delay (unlocked : s.screens[c].sound.locked = false)
    (phase : s.sound.lines[c].phase < 63) (ring : s.sound.lines[c].inRing) :
    (s.movedLine c).delay = s.sound.lines[c].delay := by
  have filled := DelayLine.fillAndMove_delay ring 1 (by decide)
  have low := s.sound.lines[c].delay_le
  rw [if_neg (by omega), Nat.add_sub_cancel, Nat.min_eq_left low] at filled
  rw [State.movedLine_fills unlocked phase]
  exact filled

/-- R77: at a slew it comes one nearer to its target. -/
theorem State.movedLine_fillSlews_delay (unlocked : s.screens[c].sound.locked = false)
    (phase : s.sound.lines[c].phase = 63) (ring : s.sound.lines[c].inRing)
    (target : s.sound.config[outputOf c].delayTarget ≤ 9599) :
    (s.movedLine c).delay =
      if s.sound.lines[c].delay < s.sound.config[outputOf c].delayTarget then s.sound.lines[c].delay + 1
      else if s.sound.config[outputOf c].delayTarget < s.sound.lines[c].delay then s.sound.lines[c].delay - 1
      else s.sound.lines[c].delay := by
  rw [State.movedLine_fillSlews unlocked phase]
  exact DelayLine.fillAndMove_slew ring _ target

end

/-! ## The mixer (R78 to R81) -/

theorem State.duckTarget_eq (s : State) (o : OutputId) :
    s.duckTarget o =
      match s.ann.queues[o].playing with
      | none => 4096
      | some e => if e.mode = .over then s.sound.config[o].duckLevel else 0 := by
  unfold State.duckTarget
  cases s.ann.queues[o].playing with
  | none => rfl
  | some e =>
    dsimp only
    cases e.mode <;> rfl

/-- R80, R81: the mix of one channel, its scales written out. -/
theorem State.mix_eq (s : State) (o : OutputId) (p : Int) :
    s.mix o p =
      (p * s.sound.outputs[o].gain * s.sound.outputs[o].duck + 8388608) / 16777216 +
        (s.announceSample o * 256 * s.sound.config[o].annGain + 2048) / 4096 := by
  norm_num [State.mix, programmeTerm, announceTerm]

/-- R81: a value is held as it is exactly within its ceiling. -/
theorem holdWithin_eq_iff (ceiling : Nat) (y : Int) :
    holdWithin ceiling y = y ↔ -(ceiling : Int) ≤ y ∧ y ≤ ceiling := by
  unfold holdWithin
  omega

/-- R81: how many values of a frame a ceiling holds. -/
def heldCount (ceiling : Int) (l r : Int) : Nat :=
  (if -ceiling ≤ l ∧ l ≤ ceiling then 0 else 1) + (if -ceiling ≤ r ∧ r ≤ ceiling then 0 else 1)

theorem clampsOf_eq (ceiling : Nat) (l r : Int) : clampsOf ceiling l r = heldCount ceiling l r := by
  simp only [clampsOf, heldCount, holdWithin_eq_iff]

/-! ## What an output delivers (R81 to R84) -/

/-- R83: an output is a screen's, or the PA. -/
theorem output_cases (o : OutputId) : o = paOutput ∨ ∃ c, o = outputOf c := by
  revert o
  decide

theorem outputOf_injective {c d : ScreenId} (h : outputOf c = outputOf d) : c = d := Fin.castSucc_injective 4 h

theorem outputOf_ne_pa (c : ScreenId) : outputOf c ≠ paOutput := by
  revert c
  decide

/-- R82: a screen mutes its output for a period. -/
abbrev State.mutes (s : State) (c : ScreenId) (o : OutputId) : Prop :=
  s.screens[c].sound.cut = true ∨ (s.screens[c].seq.shown = .dark ∧ s.sound.config[o].darkRemap = .mute)

section
variable {s : State} {c : ScreenId}

theorem State.delivers_muted (h : s.mutes c (outputOf c)) : s.delivers (outputOf c) = silence := by
  unfold State.delivers
  rw [screenOf_outputOf]
  rcases h with cut | ⟨dark, mute⟩
  · simp only [cut, if_true]
  · simp only [dark, mute, if_true, ite_self]

theorem State.delivers_programme (uncut : s.screens[c].sound.cut = false)
    (h : s.screens[c].seq.shown ≠ .dark ∨ s.sound.config[outputOf c].darkRemap = .programme) :
    s.delivers (outputOf c) = s.mixed (outputOf c) := by
  unfold State.delivers
  rw [screenOf_outputOf]
  simp only [uncut, Bool.false_eq_true, if_false]
  rcases h with lit | programme
  · rw [if_neg lit]
  · simp only [programme, ite_self]

theorem State.delivers_dark (uncut : s.screens[c].sound.cut = false) (dark : s.screens[c].seq.shown = .dark)
    (remap : s.sound.config[outputOf c].darkRemap = .pa) :
    s.delivers (outputOf c) =
      deliverWithin s.sound.config[outputOf c].ceiling (s.delivers paOutput).left (s.delivers paOutput).right := by
  have pa : s.delivers paOutput = s.mixed paOutput := rfl
  rw [pa, State.delivers, screenOf_outputOf]
  simp only [uncut, dark, remap, Bool.false_eq_true, if_false, if_true]

/-- R80: the frame a screen's output mixes is its line's. -/
theorem State.programmeFrameOf_screen : s.programmeFrameOf (outputOf c) = s.sound.lines[c].current := by
  simp only [State.programmeFrameOf, screenOf_outputOf]

/-- R83: the frame the PA mixes. -/
theorem State.programmeFrameOf_pa (h : s.sound.config[paOutput].paSource = some c) :
    s.programmeFrameOf paOutput = s.sound.lines[c].current := by
  simp only [State.programmeFrameOf, screenOf_pa, h]

theorem State.programmeFrameOf_none (h : s.sound.config[paOutput].paSource = none) :
    s.programmeFrameOf paOutput = zeroFrame := by
  simp only [State.programmeFrameOf, screenOf_pa, h]

end

/-- R84: what leaves a level block unjudged. -/
theorem State.voidsBlock_iff (s : State) (o : OutputId) :
    s.voidsBlock o = true ↔ ∃ c : ScreenId, o = outputOf c ∧ s.mutes c o := by
  rcases output_cases o with rfl | ⟨c, rfl⟩
  · exact iff_of_false nofun fun ⟨c, own, _⟩ => outputOf_ne_pa c own.symm
  · have own : s.voidsBlock (outputOf c) = true ↔ s.mutes c (outputOf c) := by
      simp only [State.voidsBlock, screenOf_outputOf, Bool.or_eq_true, Bool.and_eq_true, decide_eq_true_eq]
    exact own.trans ⟨fun h => ⟨c, rfl, h⟩, fun ⟨d, same, h⟩ => outputOf_injective same ▸ h⟩

/-! ## An output after its period (R81, R84) -/

section
variable {s : State} {o : OutputId}

/-- R82: an output that delivers silence counts no clamp. -/
theorem State.afterPeriod_silent (h : s.movePeriod.delivers o = silence) :
    (s.movePeriod.afterPeriod o).left = 0 ∧ (s.movePeriod.afterPeriod o).right = 0 ∧
      (s.movePeriod.afterPeriod o).clamps = min s.sound.outputs[o].clamps 65535 ∧
      (s.movePeriod.afterPeriod o).clipped = s.sound.outputs[o].clipped := by
  simp only [State.afterPeriod, h, State.movePeriod_output]
  exact ⟨rfl, rfl, rfl, Bool.or_false _⟩

/-- R81: the clamps of a period are counted, and set CLIPPED. -/
def OutputState.counts (v w : OutputState) (held : Nat) : Prop :=
  w.clamps = min (v.clamps + held) 65535 ∧ w.clipped = (v.clipped || decide (0 < held))

/-- R81: in its period an output delivers two values within its ceiling, and counts those that the ceiling held. -/
abbrev State.deliversWithin (s : State) (o : OutputId) (l r : Int) : Prop :=
  ((s.movePeriod.afterPeriod o).left = holdWithin s.sound.config[o].ceiling l ∧
      (s.movePeriod.afterPeriod o).right = holdWithin s.sound.config[o].ceiling r) ∧
    s.sound.outputs[o].counts (s.movePeriod.afterPeriod o) (heldCount s.sound.config[o].ceiling l r)

theorem State.afterPeriod_within {l r : Int}
    (h : s.movePeriod.delivers o = deliverWithin s.sound.config[o].ceiling l r) : s.deliversWithin o l r := by
  simp only [State.deliversWithin, OutputState.counts, State.afterPeriod, h, State.movePeriod_output, ← clampsOf_eq]
  exact ⟨⟨rfl, rfl⟩, rfl, rfl⟩

/-- R84: the level block of an output takes the values that its period delivers. -/
theorem State.afterPeriod_peak (s : State) (o : OutputId) :
    (s.movePeriod.afterPeriod o).peak =
      max s.sound.outputs[o].peak
        (max (s.movePeriod.afterPeriod o).left.natAbs (s.movePeriod.afterPeriod o).right.natAbs) := by
  simp only [State.afterPeriod, State.movePeriod_output]
  rfl

/-- R84: it is not judged once a screen mutes the output. -/
theorem State.afterPeriod_blockVoid (s : State) (o : OutputId) :
    (s.movePeriod.afterPeriod o).blockVoid = true ↔
      s.sound.outputs[o].blockVoid = true ∨ ∃ c : ScreenId, o = outputOf c ∧ s.mutes c o := by
  simp only [State.afterPeriod, State.movePeriod_output, Bool.or_eq_true]
  exact or_congr_right (s.movePeriod.voidsBlock_iff o)

/-- R81: the mix of a channel in a period, with the gain and the duck factor that the period leaves. -/
def State.periodMix (s : State) (o : OutputId) (p : Sample24) : Int :=
  (p.toInt * (s.movePeriod.afterPeriod o).gain * (s.movePeriod.afterPeriod o).duck + 8388608) / 16777216 +
    (s.announceSample o * 256 * s.sound.config[o].annGain + 2048) / 4096

/-- R80, R81: an output delivers its own mix of a frame. -/
abbrev State.deliversMix (s : State) (o : OutputId) (f : Frame) : Prop :=
  s.deliversWithin o (s.periodMix o f.left) (s.periodMix o f.right)

theorem State.afterPeriod_mixes {f : Frame} (delivers : s.movePeriod.delivers o = s.movePeriod.mixed o)
    (frame : s.movePeriod.programmeFrameOf o = f) : s.deliversMix o f := by
  have mix (p : Sample24) : s.movePeriod.mix o p.toInt = s.periodMix o p := s.movePeriod.mix_eq o p.toInt
  refine State.afterPeriod_within (delivers.trans ?_)
  rw [State.mixed, frame, mix, mix]
  rfl

end

section
variable {s : State} {c : ScreenId} {o : OutputId}

/-- R80 to R82: a screen's output that is neither cut nor remapped mixes the frame of its line. -/
theorem State.screen_deliversMix (own : o = outputOf c) (uncut : s.screens[c].sound.cut = false)
    (lit : s.screens[c].seq.shown ≠ .dark ∨ s.sound.config[o].darkRemap = .programme) :
    s.deliversMix o (s.movedLine c).current := by
  subst own
  exact State.afterPeriod_mixes (State.delivers_programme (s := s.movePeriod) uncut lit)
    (State.programmeFrameOf_screen.trans (congrArg DelayLine.current (s.movePeriod_line c)))

/-- R82: a dark screen's output follows the PA where it is so configured. -/
theorem State.screen_deliversPa (own : o = outputOf c) (uncut : s.screens[c].sound.cut = false)
    (dark : s.screens[c].seq.shown = .dark) (remap : s.sound.config[o].darkRemap = .pa) :
    s.deliversWithin o (s.movePeriod.afterPeriod paOutput).left (s.movePeriod.afterPeriod paOutput).right := by
  subst own
  exact State.afterPeriod_within (State.delivers_dark (s := s.movePeriod) uncut dark remap)

/-- R83: the PA mixes the frame of its source's line. -/
theorem State.pa_deliversMix (pa : o = paOutput) (source : s.sound.config[o].paSource = some c) :
    s.deliversMix o (s.movedLine c).current := by
  subst pa
  exact State.afterPeriod_mixes rfl ((State.programmeFrameOf_pa (s := s.movePeriod) source).trans
    (congrArg DelayLine.current (s.movePeriod_line c)))

/-- R83: without a source it mixes zeros. -/
theorem State.pa_deliversMix_none (pa : o = paOutput) (source : s.sound.config[o].paSource = none) :
    s.deliversMix o zeroFrame := by
  subst pa
  exact State.afterPeriod_mixes rfl (State.programmeFrameOf_none (s := s.movePeriod) source)

end

end Sys2Proof.Machine

namespace Sys2Proof.Proofs
open Machine

/-- Settles O48: nothing falls due, so the period is its moves, its deliveries and the announcement feeds. -/
theorem samplePeriod : Obligations.SamplePeriod := by
  intro s stores due inside
  have undue (o : OutputId) : s.undue o := ⟨(due o).1, (due o).2.1, (due o).2.2⟩
  have ring (c : ScreenId) : s.sound.lines[c].inRing :=
    ⟨Nat.lt_succ_of_le (inside c).1, Nat.lt_succ_of_le (inside c).2⟩
  obtain ⟨t, made⟩ : ∃ t, s.movePeriod.deliverPeriod.modAnn Composer.advanceFeeds = t := ⟨_, rfl⟩
  have queue (o : OutputId) : t.ann.queues[o] =
      { s.ann.queues[o] with playing := s.ann.queues[o].playing.map s.ann.advanceEntry } :=
    made ▸ s.ann.advanceFeeds_queue o
  have line (c : ScreenId) : t.sound.lines[c] = s.movedLine c := made ▸ s.movePeriod_line c
  have output (o : OutputId) : t.sound.outputs[o] = s.movePeriod.afterPeriod o :=
    made ▸ s.movePeriod.deliverPeriod_output o
  refine ⟨t, congrArg Host.Outcome.next ((State.samplePeriod_undue undue).trans made), by rw [← made]; rfl,
    fun o => ?_, fun c => ?_, fun o => ?_⟩
  · rw [queue]
    exact ⟨rfl, fun idle => by rw [idle]; rfl⟩
  · have delayOf {l : DelayLine} (h : l.inRing) := DelayLine.delay_eq h
    have now := delayOf (ring c)
    have next := delayOf (s.movedLine_inRing c (ring c))
    simp only [line, ← now, ← next]
    refine ⟨fun locked phase => ?_, fun unlocked => State.movedLine_zero unlocked (stores.2 c),
      fun unlocked phase => ⟨?_, State.movedLine_fills_delay unlocked phase (ring c)⟩,
      fun unlocked phase target => ⟨?_, State.movedLine_fillSlews_delay unlocked phase (ring c) target⟩,
      fun locked phase => ?_⟩
    · rw [State.movedLine_plays locked phase, ← DelayLine.advance_one (ring c)]
      rfl
    · rw [State.movedLine_fills unlocked phase]
    · rw [State.movedLine_fillSlews unlocked phase]
    · rw [State.movedLine_slews locked phase]
      exact ⟨rfl, rfl, rfl, DelayLine.slew_delay (ring c) _⟩
  · have moved := s.movePeriod_output o
    have ducked := congrArg (stepToward s.sound.outputs[o].duck · s.sound.config[o].duckRate) (s.duckTarget_eq o)
    have muted (c : ScreenId) (own : o = outputOf c) (h : s.mutes c o) :=
      State.afterPeriod_silent (s := s) (o := o) (own ▸ State.delivers_muted (s := s.movePeriod) (own ▸ h))
    have plays (c : ScreenId) (own : o = outputOf c) (uncut : s.screens[c].sound.cut = false)
        (lit : s.screens[c].seq.shown ≠ .dark ∨ s.sound.config[o].darkRemap = .programme) :
        s.deliversMix o t.sound.lines[c].current :=
      line c ▸ State.screen_deliversMix own uncut lit
    have relays (c : ScreenId) (pa : o = paOutput) (source : s.sound.config[o].paSource = some c) :
        s.deliversMix o t.sound.lines[c].current :=
      line c ▸ State.pa_deliversMix pa source
    rw [output o, output paOutput]
    refine ⟨congrArg OutputState.gain moved, (congrArg OutputState.duck moved).trans ducked,
      congrArg (·.blockPos + 1) moved, fun c own => ⟨fun cut => ?_, fun uncut => ⟨fun dark mute => ?_,
        fun lit => (plays c own uncut lit).1, fun dark remap => (State.screen_deliversPa own uncut dark remap).1⟩⟩,
      fun pa => ⟨fun c source => (relays c pa source).1, fun source => (State.pa_deliversMix_none pa source).1⟩,
      s.afterPeriod_peak o, (congrArg OutputState.silentRun moved).trans rfl,
      (congrArg OutputState.deadAir moved).trans rfl, s.afterPeriod_blockVoid o,
      fun c own => ⟨fun quiet => ?_, fun uncut lit => (plays c own uncut lit).2,
        fun uncut dark remap => (State.screen_deliversPa own uncut dark remap).2⟩,
      fun pa => ⟨fun c source => (relays c pa source).2, fun source => (State.pa_deliversMix_none pa source).2⟩⟩
    · obtain ⟨left, right, clamps, -⟩ := muted c own (.inl cut)
      exact ⟨left, right, clamps⟩
    · obtain ⟨left, right, clamps, -⟩ := muted c own (.inr ⟨dark, mute⟩)
      exact ⟨left, right, clamps⟩
    · obtain ⟨-, -, -, clipped⟩ := muted c own quiet
      exact clipped

end Sys2Proof.Proofs

/-! PROOFS. CLIP, PHRASE and EVENT writes (R94, R99, R110), settling `ClipWrite` and `PhraseAndEventWrite`. -/

namespace Sys2Proof.Machine

/-- The number of a table's entry, as an index of a write. -/
theorem index_toNat {n : Nat} (i : Fin n) (small : n ≤ 65536) : (BitVec.ofNat 16 i.val : Half).toNat = i.val := by
  rw [BitVec.toNat_ofNat]
  exact Nat.mod_eq_of_lt (Nat.lt_of_lt_of_le i.isLt small)

/-! ## CLIP entries (R94) -/

/-- R94: a region meets a live clip in an address that lies in both. -/
theorem Composer.regionMeets_iff (a : Composer) (start length : Nat) :
    a.regionMeets start length = true ↔ ∃ j : ClipId, a.clips[j].state ≠ .empty ∧ ∃ e < start + length, start ≤ e ∧
      a.clips[j].start ≤ e ∧ e < a.clips[j].start + a.clips[j].length := by
  simp only [Composer.regionMeets, List.any_eq_true, Vector.mem_toList_iff, Bool.and_eq_true, decide_eq_true_eq,
    runsMeet_iff]
  constructor
  · rintro ⟨c, listed, live, shared⟩
    obtain ⟨j, small, rfl⟩ := Vector.mem_iff_getElem.1 listed
    exact ⟨⟨j, small⟩, live, shared⟩
  · rintro ⟨j, live, shared⟩
    exact ⟨_, Vector.getElem_mem j.isLt, live, shared⟩

/-- R94: a CLIP write of a clip's number, by the checks in their order. -/
theorem State.writeClip_eq (s : State) (k : ClipId) (e : List Byte) :
    s.writeClip k.val e =
      if 8388607 < triAt e 0 ∨ triAt e 3 = 0 ∨ 2880000 < triAt e 3 ∨ 8388608 < triAt e 0 + triAt e 3 then (s, .range)
      else if s.ann.clips[k].state ≠ .empty then (s, .inUse)
      else if s.ann.regionMeets (triAt e 0) (triAt e 3) then (s, .overlap)
      else
        ((s.modClip k fun c => { c with start := triAt e 0, length := triAt e 3, state := .clearing }).modAnn fun a =>
          { a with fillOrder := a.fillOrder ++ [k] }, .done) := by
  simp only [State.writeClip, fromZero_index]

/-- The CLIP table, code 6, takes the write. -/
theorem State.writeCode_clip (s : State) (k : ClipId) (e : List Byte) :
    State.writeCode 6 (BitVec.ofNat 16 k.val) e s = Written.out (s.writeClip k.val e) := by
  have taken : State.writeCode 6 (BitVec.ofNat 16 k.val) e s =
      Written.out (s.writeClip (BitVec.ofNat 16 k.val : Half).toNat e) := rfl
  rw [taken, index_toNat k (by decide)]

/-! ## PHRASE entries (R99) -/

/-- R99: a GAP time that needs no clamp. -/
def Part.inRange : Part → Prop
  | .clip _ | .number _ => True
  | .gap ms => 1 ≤ ms ∧ ms ≤ 2000

theorem Part.bytes_length (p : Part) : p.bytes.length = 3 := by cases p <;> rfl

theorem partsBytes_length (ps : List Part) : (ps.flatMap Part.bytes).length = 3 * ps.length := by
  simp only [List.length_flatMap, Part.bytes_length, List.map_const', List.sum_replicate, smul_eq_mul, Nat.mul_comm]

theorem byteAt_append (before rest : List Byte) (i : Nat) : byteAt (before ++ rest) (before.length + i) = byteAt rest i := by
  simp only [byteAt, List.getD_append_right _ _ _ _ (Nat.le_add_right _ _), Nat.add_sub_cancel_left]

theorem halfAt_append (before rest : List Byte) (i : Nat) : halfAt (before ++ rest) (before.length + i) = halfAt rest i := by
  simp only [halfAt, byteAt_append, Nat.add_assoc]

/-- A two-byte field reads back what was written. -/
theorem halfAt_le16 {n : Nat} (small : n < 65536) (b : Byte) (rest : List Byte) :
    halfAt (b :: (le16 n ++ rest)) 1 = n := by
  simp only [halfAt, byteAt, le16, List.cons_append, List.getD_cons_succ, List.getD_cons_zero, BitVec.toNat_ofNat]
  omega

/-- R99: a part is read back from its bytes, whatever follows them. -/
theorem partOf_bytes {p : Part} (h : p.inRange) (rest : List Byte) :
    partOf (byteAt (p.bytes ++ rest) 0) (halfAt (p.bytes ++ rest) 1) = some p := by
  cases p with
  | clip k =>
    have kind : byteAt ((Part.clip k).bytes ++ rest) 0 = 0 := rfl
    have number : halfAt ((Part.clip k).bytes ++ rest) 1 = k.val := halfAt_le16 (by omega) _ rest
    simp only [number, kind, partOf, fromZero_index, Option.map_some]
  | number b =>
    have kind : byteAt ((Part.number b).bytes ++ rest) 0 = 1 := rfl
    have number : halfAt ((Part.number b).bytes ++ rest) 1 = b.val := halfAt_le16 (by omega) _ rest
    simp only [number, kind, partOf, fromZero_index, Option.map_some]
  | gap ms =>
    obtain ⟨low, high⟩ : 1 ≤ ms ∧ ms ≤ 2000 := h
    have kind : byteAt ((Part.gap ms).bytes ++ rest) 0 = 2 := rfl
    have number : halfAt ((Part.gap ms).bytes ++ rest) 1 = ms := halfAt_le16 (by omega) _ rest
    have within : clampTo 1 2000 ms = ms := by
      unfold clampTo
      omega
    simp only [number, kind, partOf, within]

/-- The low byte of a number below 256 is all of it. -/
theorem le16_small {n : Nat} (small : n < 256) : le16 n = [BitVec.ofNat 8 n, 0] := by
  rw [le16, Nat.div_eq_of_lt small]
  rfl

/-- R99: parts in range are read back from their bytes. -/
theorem partsOf_bytes (ps : List Part) (h : ∀ p ∈ ps, p.inRange) (before : List Byte) :
    partsOf (before ++ ps.flatMap Part.bytes) ps.length before.length = some ps := by
  induction ps generalizing before with
  | nil => rfl
  | cons p ps ih =>
    have first := partOf_bytes (h p List.mem_cons_self) (ps.flatMap Part.bytes)
    have others := ih (fun q hq => h q (List.mem_cons_of_mem _ hq)) (before ++ p.bytes)
    rw [List.length_append, Part.bytes_length, List.append_assoc] at others
    have kind := byteAt_append before (p.bytes ++ ps.flatMap Part.bytes) 0
    have argument := halfAt_append before (p.bytes ++ ps.flatMap Part.bytes) 1
    rw [Nat.add_zero] at kind
    simp only [List.flatMap_cons, List.length_cons, partsOf, kind, argument, first, others]

/-- R99: an entry of at most 8 parts in range is the phrase of its parts, if it renders to 16 items at most. -/
theorem phraseOf_parts {ps : List Part} (few : ps.length ≤ 8) (h : ∀ p ∈ ps, p.inRange) :
    phraseOf (BitVec.ofNat 8 ps.length :: ps.flatMap Part.bytes) =
      if (ps.map Part.worst).sum ≤ 16 then some ps else none := by
  have count : byteAt (BitVec.ofNat 8 ps.length :: ps.flatMap Part.bytes) 0 = ps.length := by
    simp only [byteAt, List.getD_cons_zero, BitVec.toNat_ofNat]
    omega
  have parts := partsOf_bytes ps h [BitVec.ofNat 8 ps.length]
  rw [List.singleton_append, List.length_singleton] at parts
  simp only [phraseOf, count, if_neg (Nat.not_lt.2 few), parts]
  by_cases fits : (ps.map Part.worst).sum ≤ 16
  · rw [if_pos fits, if_neg (Nat.not_lt.2 fits)]
  · rw [if_neg fits, if_pos (Nat.lt_of_not_le fits)]

/-- R99: an entry of one part. -/
theorem phraseOf_one (kind low high : Byte) :
    phraseOf [1, kind, low, high] =
      ((partOf kind.toNat (twoBytes low high)).map ([·])).bind fun ps =>
        if 16 < (ps.map Part.worst).sum then none else some ps := by
  have parts : partsOf [1, kind, low, high] 1 1 = (partOf kind.toNat (twoBytes low high)).map ([·]) := by
    have code : byteAt [1, kind, low, high] 1 = kind.toNat := rfl
    have argument : halfAt [1, kind, low, high] (1 + 1) = twoBytes low high := rfl
    simp only [partsOf, code, argument]
    cases partOf kind.toNat (twoBytes low high) <;> rfl
  have count : byteAt [1, kind, low, high] 0 = 1 := rfl
  simp only [phraseOf, count, parts]
  cases partOf kind.toNat (twoBytes low high) <;> rfl

/-- R99: an unlisted kind, or a clip or number set that there is not, is no part. -/
theorem partOf_none {kind : Byte} {argument : Nat}
    (h : 2 < kind.toNat ∨ (kind = 0 ∧ 63 < argument) ∨ (kind = 1 ∧ 35 < argument)) : partOf kind.toNat argument = none := by
  rcases h with unlisted | ⟨rfl, beyond⟩ | ⟨rfl, beyond⟩
  · unfold partOf
    split
    · omega
    · omega
    · omega
    · rfl
  · have outside : ¬ argument < 64 := Nat.not_lt.2 beyond
    simp [partOf, fromZero, outside]
  · have outside : ¬ argument < 36 := Nat.not_lt.2 beyond
    simp [partOf, fromZero, outside]

theorem State.writePhrase_range (s : State) (p : PhraseId) {e : List Byte} (h : phraseOf e = none) :
    s.writePhrase p.val e = (s, .range) := by
  simp only [State.writePhrase, fromZero_index, h]

theorem State.writePhrase_stored (s : State) (p : PhraseId) {e : List Byte} {ps : List Part} (h : phraseOf e = some ps) :
    s.writePhrase p.val e = (s.modAnn fun a => { a with phrases := a.phrases.set p ps }, .done) := by
  simp only [State.writePhrase, fromZero_index, h]

/-- The PHRASE table, code 7, takes the write. -/
theorem State.writeCode_phrase (s : State) (p : PhraseId) (e : List Byte) :
    State.writeCode 7 (BitVec.ofNat 16 p.val) e s = Written.out (s.writePhrase p.val e) := by
  have taken : State.writeCode 7 (BitVec.ofNat 16 p.val) e s =
      Written.out (s.writePhrase (BitVec.ofNat 16 p.val : Half).toNat e) := rfl
  rw [taken, index_toNat p (by decide)]

/-- R154: a PHRASE entry has its count of parts and three bytes a part. -/
theorem writeCheck_phrase {count : Byte} {parts : List Byte} (h : parts.length = 3 * count.toNat) :
    writeCheck 7 (count :: parts) = none := by
  have length : (count :: parts).length = 1 + 3 * byteAt (count :: parts) 0 := by
    rw [List.length_cons, h, Nat.add_comm]
    rfl
  have check : writeCheck 7 (count :: parts) =
      if (count :: parts).length = 1 + 3 * byteAt (count :: parts) 0 then none else some .range := rfl
  rw [check, if_pos length]

/-- R99: a PHRASE write of the console whose entry is no phrase. -/
theorem State.phraseWrite_refused {s : State} {m : Sender} (h : s.readyFor 1 m) (p : PhraseId) {count : Byte}
    {parts : List Byte} (length : parts.length = 3 * count.toNat) (none : phraseOf (count :: parts) = none) :
    exec (.phraseWrite m (BitVec.ofNat 16 p.val) (count :: parts)) s = .next
      (s.turnedAway m (writeReply 1 7 (BitVec.ofNat 16 p.val))) := by
  have owner := s.countTaken.writeCode_phrase p (count :: parts)
  rw [State.writePhrase_range _ p none] at owner
  exact congrArg Host.Outcome.next (State.write_refused h (Nat.le_refl 1) (writeCheck_phrase length) owner rfl)

/-- R99: a PHRASE write of the console whose entry is a phrase. -/
theorem State.phraseWrite_stored {s : State} {m : Sender} (h : s.readyFor 1 m) (p : PhraseId) {count : Byte}
    {parts : List Byte} {ps : List Part} (length : parts.length = 3 * count.toNat)
    (phrase : phraseOf (count :: parts) = some ps) :
    exec (.phraseWrite m (BitVec.ofNat 16 p.val) (count :: parts)) s = .next
      (({ s with ann := { s.ann with phrases := s.ann.phrases.set p ps } } : State).answered m
        (writeReply 0 7 (BitVec.ofNat 16 p.val))) := by
  have owner := s.countTaken.writeCode_phrase p (count :: parts)
  rw [State.writePhrase_stored _ p phrase] at owner
  exact congrArg Host.Outcome.next
    (State.write_done h (writeCheck_phrase length) owner (Nat.lt_of_succ_le h.room.queued))

/-! ## EVENT entries (R110) -/

theorem eventPhraseOf_none {b : Byte} (beyond : 63 < b.toNat) (used : b ≠ 255) : eventPhraseOf b.toNat = none := by
  have notNone : ¬ b.toNat = 255 := fun e => used (BitVec.eq_of_toNat_eq e)
  have outside : ¬ b.toNat < 64 := Nat.not_lt.2 beyond
  simp only [eventPhraseOf, if_neg notNone, fromZero, dif_neg outside, Option.map_none]

theorem eventPhraseOf_byte {b : Byte} (h : b.toNat ≤ 63 ∨ b = 255) :
    eventPhraseOf b.toNat = some (if b = 255 then none else some (Fin.ofNat 64 b.toNat)) := by
  by_cases absent : b = 255
  · subst absent
    rfl
  · have low : b.toNat < 64 := Nat.lt_succ_of_le (h.resolve_right absent)
    have notNone : ¬ b.toNat = 255 := by omega
    have id : (⟨b.toNat, low⟩ : PhraseId) = Fin.ofNat 64 b.toNat := Fin.ext (Nat.mod_eq_of_lt low).symm
    simp only [eventPhraseOf, if_neg notNone, fromZero, dif_pos low, Option.map_some, id, if_neg absent]

theorem annModeOf_byte {b : Byte} (h : b.toNat ≤ 1) : annModeOf b.toNat = some (if b = 0 then .over else .replace) := by
  have listed : b = 0 ∨ b = 1 := by
    rcases Nat.le_one_iff_eq_zero_or_eq_one.1 h with zero | one
    · exact .inl (BitVec.eq_of_toNat_eq zero)
    · exact .inr (BitVec.eq_of_toNat_eq one)
  rcases listed with rfl | rfl <;> rfl

theorem annModeOf_none {n : Nat} (h : 1 < n) : annModeOf n = none :=
  Option.not_isSome_iff_eq_none.1 fun listed => Nat.not_le.2 h ((annModeOf_isSome n).1 listed)

/-- R110: an unlisted phrase or mode, or a mask beyond the five outputs, is refused. -/
theorem eventEntryOf_none (draw : Nat) {phrase mask priority mode notice : Byte}
    (h : (63 < phrase.toNat ∧ phrase ≠ 255) ∨ 31 < mask.toNat ∨ 1 < mode.toNat) :
    eventEntryOf draw [phrase, mask, priority, mode, notice] = none := by
  simp only [eventEntryOf, byteAt, List.getD_cons_zero, List.getD_cons_succ]
  rcases h with ⟨beyond, used⟩ | outside | unlisted
  · simp only [eventPhraseOf_none beyond used]
    rfl
  · simp only [if_neg (Nat.not_le.2 outside)]
    cases eventPhraseOf phrase.toNat <;> cases annModeOf mode.toNat <;> rfl
  · simp only [annModeOf_none unlisted]
    cases eventPhraseOf phrase.toNat <;> rfl

/-- R110: the entry stored from listed bytes, its priority clamped. -/
theorem eventEntryOf_some (draw : Nat) {phrase mask mode : Byte} (priority notice : Byte)
    (known : phrase.toNat ≤ 63 ∨ phrase = 255) (outputs : mask.toNat ≤ 31) (listed : mode.toNat ≤ 1) :
    eventEntryOf draw [phrase, mask, priority, mode, notice] =
      some
        { phrase := if phrase = 255 then none else some (Fin.ofNat 64 phrase.toNat), mask := BitVec.ofNat 5 mask.toNat
          priority := min 3 priority.toNat, mode := if mode = 0 then .over else .replace
          notice := looseFlag draw notice } := by
  simp only [eventEntryOf, byteAt, List.getD_cons_zero, List.getD_cons_succ, eventPhraseOf_byte known,
    annModeOf_byte listed, if_pos outputs, clampTo_zero]
  rfl

theorem State.writeEvent_range (s : State) (i : Fin 16) {e : List Byte} (h : eventEntryOf s.freeCount e = none) :
    s.writeEvent i.val e = (s, .range) := by
  simp only [State.writeEvent, fromZero_index, h]

theorem State.writeEvent_stored (s : State) (i : Fin 16) {e : List Byte} {v : EventEntry}
    (h : eventEntryOf s.freeCount e = some v) :
    s.writeEvent i.val e = ((s.modAnn fun a => { a with events := a.events.set i v }).draw, .done) := by
  simp only [State.writeEvent, fromZero_index, h]

/-- The EVENT table, code 8, takes the write. -/
theorem State.writeCode_event (s : State) (i : Fin 16) (e : List Byte) :
    State.writeCode 8 (BitVec.ofNat 16 i.val) e s = Written.out (s.writeEvent i.val e) := by
  have taken : State.writeCode 8 (BitVec.ofNat 16 i.val) e s =
      Written.out (s.writeEvent (BitVec.ofNat 16 i.val : Half).toNat e) := rfl
  rw [taken, index_toNat i (by decide)]

end Sys2Proof.Machine

namespace Sys2Proof.Proofs
open Machine

/-- Settles O26: each check in its order, the overlap being an address that two regions share. -/
theorem clipWrite : Obligations.ClipWrite := by
  intro s m k b0 b1 b2 b3 b4 b5 h index start length fits overlap
  have check : writeCheck 6 [b0, b1, b2, b3, b4, b5] = none := rfl
  have owner := (State.writeCode_clip s.countTaken k [b0, b1, b2, b3, b4, b5]).trans
    (congrArg Written.out (State.writeClip_eq s.countTaken k _))
  have meets : s.countTaken.ann.regionMeets start length = true ↔ overlap := Composer.regionMeets_iff s.ann start length
  have bounds : (8388607 < start ∨ length = 0 ∨ 2880000 < length ∨ 8388608 < start + length) ↔ ¬ fits := by
    simp only [fits]
    omega
  have first : triAt [b0, b1, b2, b3, b4, b5] 0 = start := rfl
  have size : triAt [b0, b1, b2, b3, b4, b5] 3 = length := rfl
  rw [first, size] at owner
  refine ⟨fun outside => congrArg Host.Outcome.next ?_, fun inside live => congrArg Host.Outcome.next ?_,
    fun inside empty shared => congrArg Host.Outcome.next ?_, fun inside empty free => congrArg Host.Outcome.next ?_⟩
  · rw [if_pos (bounds.2 outside)] at owner
    exact State.write_refused h (Nat.le_refl 1) check owner rfl
  · rw [if_neg fun k => bounds.1 k inside, if_pos (by exact live)] at owner
    exact State.write_refused h (Nat.le_refl 1) check owner rfl
  · rw [if_neg fun k => bounds.1 k inside, if_neg (not_not.2 (by exact empty)), if_pos (meets.2 shared)] at owner
    exact State.write_refused h (Nat.le_refl 1) check owner rfl
  · rw [if_neg fun k => bounds.1 k inside, if_neg (not_not.2 (by exact empty)), if_neg fun k => free (meets.1 k)] at owner
    exact State.write_done h check owner (Nat.lt_of_succ_le h.room.queued)

/-- Settles O27: a phrase is read part by part from its bytes, an event byte by byte. -/
theorem phraseAndEventWrite : Obligations.PhraseAndEventWrite := by
  refine ⟨fun s m p parts h few gaps => ?_, fun s m p kind low high h wrong => ?_, fun s m p count parts h many length => ?_,
    fun s m p low high h => ?_, fun s m i phrase mask priority mode notice h => ?_⟩
  · intro index code items
    have bytes : code = Part.bytes := by
      funext q
      cases q with
      | clip k => exact (congrArg (0 :: ·) (le16_small (by omega : k.val < 256))).symm
      | number b => exact (congrArg (1 :: ·) (le16_small (by omega : b.val < 256))).symm
      | gap ms => rfl
    have worst : items = Part.worst := by
      funext q
      cases q <;> rfl
    have inRange : ∀ q ∈ parts, q.inRange := by
      intro q hq
      cases q with
      | clip _ | number _ => trivial
      | gap ms => exact gaps ms hq
    have length : (parts.flatMap Part.bytes).length = 3 * (BitVec.ofNat 8 parts.length : Byte).toNat := by
      rw [partsBytes_length, BitVec.toNat_ofNat]
      omega
    have phrase := phraseOf_parts few inRange
    rw [bytes, worst]
    by_cases fits : (parts.map Part.worst).sum ≤ 16
    · rw [if_pos fits] at phrase ⊢
      exact State.phraseWrite_stored h p length phrase
    · rw [if_neg fits] at phrase ⊢
      exact State.phraseWrite_refused h p length phrase
  · refine State.phraseWrite_refused h p rfl ?_
    rw [phraseOf_one, partOf_none wrong]
    rfl
  · refine State.phraseWrite_refused h p length ?_
    have count : 8 < byteAt (count :: parts) 0 := many
    rw [phraseOf, if_pos count]
  · refine State.phraseWrite_stored h p rfl ?_
    rw [phraseOf_one]
    rfl
  · intro index write
    have check : writeCheck 8 [phrase, mask, priority, mode, notice] = none := rfl
    have owner := s.countTaken.writeCode_event i [phrase, mask, priority, mode, notice]
    refine ⟨fun wrong => congrArg Host.Outcome.next ?_, fun known outputs listed =>
      ⟨looseFlag s.freeCount notice, looseFlag_readsAs _ _, congrArg Host.Outcome.next ?_⟩⟩
    · rw [State.writeEvent_range _ i (eventEntryOf_none _ wrong)] at owner
      exact State.write_refused h (Nat.le_refl 1) check owner rfl
    · rw [State.writeEvent_stored _ i (eventEntryOf_some _ priority notice known outputs listed)] at owner
      exact State.write_done h check owner (Nat.lt_of_succ_le h.room.queued)

end Sys2Proof.Proofs

/-! PROOFS. Loading, sealing and deleting clips (R95 to R97), settling `ClipSealAndDelete` and `ClipLoading`. -/

namespace Sys2Proof.Machine

/-- An id of a table of at most 256 entries, as a byte. -/
theorem fromZero_byte {n : Nat} (i : Fin n) (small : n ≤ 256) :
    fromZero n (BitVec.ofNat 8 i.val : Byte).toNat = some i := by
  have number : (BitVec.ofNat 8 i.val : Byte).toNat = i.val := by
    rw [BitVec.toNat_ofNat]
    exact Nat.mod_eq_of_lt (Nat.lt_of_lt_of_le i.isLt small)
  rw [number, fromZero_index]

theorem fromZero_none {k n : Nat} (h : k ≤ n) : fromZero k n = none := dif_neg (Nat.not_lt.2 h)

/-! ## CLIP_SEAL and CLIP_DELETE (R97) -/

theorem State.doClipSeal_range (s : State) {b : Byte} (h : 63 < b.toNat) : s.doClipSeal b = (s, .range) := by
  simp only [State.doClipSeal, fromZero_none (k := 64) h]

theorem State.doClipSeal_clip (s : State) (k : ClipId) :
    s.doClipSeal (BitVec.ofNat 8 k.val) =
      if s.ann.clips[k].state = .loading then (s.modClip k fun c => { c with state := .ready }, .done)
      else (s, .state) := by
  simp only [State.doClipSeal, fromZero_byte k (by decide)]

theorem State.doClipDelete_range (s : State) {b : Byte} (h : 63 < b.toNat) : s.doClipDelete b = (s, .range) := by
  simp only [State.doClipDelete, fromZero_none (k := 64) h]

/-- R97: a clip with uses stays; another leaves the fill order and is EMPTY. -/
theorem State.doClipDelete_clip (s : State) (k : ClipId) :
    s.doClipDelete (BitVec.ofNat 8 k.val) =
      if s.ann.clips[k].uses = 0 then
        ({ s with ann :=
            { s.ann with
              clips := s.ann.clips.set k { s.ann.clips[k] with state := .empty }
              fillOrder := s.ann.fillOrder.filter fun j => decide (j ≠ k) } }, .done)
      else (s, .inUse) := by
  have others : (fun j : ClipId => j != k) = fun j => decide (j ≠ k) := by
    funext j
    by_cases same : j = k <;> simp [same]
  simp only [State.doClipDelete, fromZero_byte k (by decide : 64 ≤ 256), others, Nat.pos_iff_ne_zero, ite_not]
  rfl

/-! ## CLIP_DATA (R96) -/

/-- R96, R154: a CLIP_DATA cell of the console without samples is refused by its length. -/
theorem State.clipData_empty {s : State} {m : Sender} (h : s.readyFor 1 m) (clip : Byte) (offset : BitVec 24) :
    exec (.clipData m clip offset []) s = .next (s.turnedAway m (writeReply 1 6 (clip.zeroExtend 16))) := by
  have judged := State.refuses_console (s := s.countTaken) (m := m) h.console h.noRestart (some .range)
  have refused := State.takeMgmt_refused (e := ⟨6, some (clip.zeroExtend 16)⟩)
    (owner := fun t => Written.out (t.writeClipData clip offset.toNat [])) judged (Nat.lt_of_succ_le h.room.queued)
  rw [replyCell_write] at refused
  refine congrArg Host.Outcome.next ?_
  rw [State.cellSeen_stranger h.stranger]
  exact refused

/-- R96: a CLIP_DATA cell of the console that the Composer refuses. -/
theorem State.clipData_refused {s : State} {m : Sender} (h : s.readyFor 1 m) {clip : Byte} {offset : BitVec 24}
    {run : List Sample16} (some : run ≠ []) {r : Reply} (refuses : r.refuses = true)
    (owner : s.countTaken.writeClipData clip offset.toNat run = (s.countTaken, r)) :
    exec (.clipData m clip offset run) s = .next (s.turnedAway m (writeReply r.code 6 (clip.zeroExtend 16))) := by
  have fits : (!run.isEmpty) = true := by cases run <;> simp_all
  have taken := State.takeMgmt_passes (e := ⟨6, Option.some (clip.zeroExtend 16)⟩)
    (owner := fun t => Written.out (t.writeClipData clip offset.toNat run)) h (congrArg Written.out owner)
    (Nat.lt_of_succ_le h.room.queued)
  simp only [Written.out, replyCell_write, Management.countAnswer_refuses _ refuses] at taken
  refine congrArg Host.Outcome.next ?_
  rw [State.cellSeen_stranger h.stranger, State.takeClipData, fits]
  exact taken

/-- R96: a CLIP_DATA cell of the console whose samples the Composer takes. -/
theorem State.clipData_done {s u : State} {m : Sender} (h : s.readyFor 1 m) {clip : Byte} {offset : BitVec 24}
    {run : List Sample16} (some : run ≠ [])
    (owner : s.countTaken.writeClipData clip offset.toNat run = (u, .done)) (room : u.cell.queued < 16) :
    exec (.clipData m clip offset run) s = .next
      { u with
        freeCount := u.freeCount + 1
        cell :=
          { u.cell with urgent := u.cell.urgent ++ [mgmtReplyTo m (writeReply 0 6 (clip.zeroExtend 16))] } } := by
  have fits : (!run.isEmpty) = true := by cases run <;> simp_all
  have taken := State.takeMgmt_passes (e := ⟨6, Option.some (clip.zeroExtend 16)⟩)
    (owner := fun t => Written.out (t.writeClipData clip offset.toNat run)) h (congrArg Written.out owner) room
  simp only [Written.out, replyCell_write] at taken
  refine congrArg Host.Outcome.next ?_
  rw [State.cellSeen_stranger h.stranger, State.takeClipData, fits]
  exact taken

/-- R96: a clip outside 0..63 is out of range. -/
theorem State.writeClipData_range (s : State) {clip : Byte} (h : 63 < clip.toNat) (offset : Nat) (run : List Sample16) :
    s.writeClipData clip offset run = (s, .range) := by
  simp only [State.writeClipData, fromZero_none (k := 64) h]

/-- R96: samples for a clip whose region is still being cleared, and for one that takes none. -/
theorem State.writeClipData_clearing {s : State} {k : ClipId} (clearing : s.ann.clips[k].state = .clearing)
    (offset : Nat) {run : List Sample16} (some : run ≠ []) :
    s.writeClipData (BitVec.ofNat 8 k.val) offset run = (s, .busy) := by
  simp only [State.writeClipData, fromZero_byte k (by decide : 64 ≤ 256), if_neg some, clearing]

theorem State.writeClipData_closed {s : State} {k : ClipId}
    (closed : s.ann.clips[k].state = .empty ∨ s.ann.clips[k].state = .ready) (offset : Nat) {run : List Sample16}
    (some : run ≠ []) : s.writeClipData (BitVec.ofNat 8 k.val) offset run = (s, .state) := by
  rcases closed with state | state <;>
    simp only [State.writeClipData, fromZero_byte k (by decide : 64 ≤ 256), if_neg some, state]

/-- R96: samples for a LOADING clip, refused beyond its length. -/
theorem State.writeClipData_loading {s : State} {k : ClipId} (loading : s.ann.clips[k].state = .loading)
    (offset : Nat) {run : List Sample16} (some : run ≠ []) :
    s.writeClipData (BitVec.ofNat 8 k.val) offset run =
      if s.ann.clips[k].length < offset + run.length then (s, .range)
      else (s.modAnn fun a => { a with memory := clipWriteRun a.memory (s.ann.clips[k].start + offset) run }, .done) := by
  simp only [State.writeClipData, fromZero_byte k (by decide : 64 ≤ 256), if_neg some, loading]

/-- A clip's id in the index of a reply. -/
theorem clipIndex (k : ClipId) : (BitVec.ofNat 8 k.val : Byte).zeroExtend 16 = BitVec.ofNat 16 k.val := by
  revert k
  decide

/-! ## The end of a fill (R95) -/

theorem State.completeFill_none {s : State} (h : s.ann.fillOrder = []) : s.completeFill = s := by
  simp only [State.completeFill, h]

/-- R95: the clip at the front of the fill order is LOADING, its region cleared. -/
theorem State.completeFill_next {s : State} {k : ClipId} {rest : List ClipId} (h : s.ann.fillOrder = k :: rest) :
    s.completeFill =
      { s with ann :=
          { s.ann with
            memory := memClear s.ann.memory s.ann.clips[k].start s.ann.clips[k].length, fillOrder := rest
            clips := s.ann.clips.set k { s.ann.clips[k] with state := .loading } } } := by
  simp only [State.completeFill, h]
  rfl

end Sys2Proof.Machine

namespace Sys2Proof.Proofs
open Machine

/-- Settles O38: the id judged first, then the clip's state or its uses. -/
theorem clipSealAndDelete : Obligations.ClipSealAndDelete := by
  intro s m k h clip
  have room : s.cell.queued < 16 := Nat.lt_of_succ_le h.room.queued
  refine ⟨fun b outside => ⟨s.indexLow, s.indexHigh, congrArg Host.Outcome.next ?_, congrArg Host.Outcome.next ?_⟩,
    ⟨s.indexLow, s.indexHigh, congrArg Host.Outcome.next ?_⟩, s.indexLow, s.indexHigh, congrArg Host.Outcome.next ?_⟩
  · exact State.command_refused (c := .clipSeal b) h (Nat.le_refl 1) nofun (State.doClipSeal_range _ outside) rfl
  · exact State.command_refused (c := .clipDelete b) h (Nat.le_refl 1) nofun (State.doClipDelete_range _ outside) rfl
  · have owner : s.countTaken.obey (.clipSeal clip) = _ := s.countTaken.doClipSeal_clip k
    split
    · next loading =>
      rw [if_pos (by exact loading)] at owner
      exact State.command_done (c := .clipSeal clip) h nofun owner room
    · next other =>
      rw [if_neg (by exact other)] at owner
      exact State.command_refused (c := .clipSeal clip) h (Nat.le_refl 1) nofun owner rfl
  · have owner : s.countTaken.obey (.clipDelete clip) = _ := s.countTaken.doClipDelete_clip k
    split
    · next unused =>
      rw [if_pos (by exact unused)] at owner
      exact State.command_done (c := .clipDelete clip) h nofun owner room
    · next used =>
      rw [if_neg (by exact used)] at owner
      exact State.command_refused (c := .clipDelete clip) h (Nat.le_refl 1) nofun owner rfl

/-- Settles O39: samples by the clip's state, and a fill by the fill order; memory by what a read finds. -/
theorem clipLoading : Obligations.ClipLoading := by
  refine ⟨?_, fun s m clip offset run h outside => ?_, fun s => ⟨fun none => ?_, fun k rest next => ?_⟩⟩
  · intro s m k offset run h stores region clip index first send
    have index_eq : clip.zeroExtend 16 = index := clipIndex k
    refine ⟨fun empty => ?_, fun some => ?_⟩
    · subst empty
      rw [← index_eq]
      exact State.clipData_empty h clip offset
    · have refusal {r : Reply} (refuses : r.refuses = true)
          (owner : s.countTaken.writeClipData clip offset.toNat run = (s.countTaken, r)) :
          exec send s = .next (s.turnedAway m (writeReply r.code 6 index)) := by
        rw [← index_eq]
        exact State.clipData_refused h some refuses owner
      cases state : s.ann.clips[k].state with
      | clearing => exact refusal rfl (State.writeClipData_clearing (s := s.countTaken) state _ some)
      | empty => exact refusal rfl (State.writeClipData_closed (s := s.countTaken) (.inl state) _ some)
      | ready => exact refusal rfl (State.writeClipData_closed (s := s.countTaken) (.inr state) _ some)
      | loading =>
        have owner := State.writeClipData_loading (s := s.countTaken) state offset.toNat some
        dsimp only
        split
        · next long =>
          rw [if_pos (by exact long)] at owner
          exact refusal rfl owner
        · next short =>
          rw [if_neg (by exact short)] at owner
          have taken := State.clipData_done h some owner (Nat.lt_of_succ_le h.room.queued)
          have read := clipRead_clipWriteRun run s.ann.memory first stores.1 (by omega)
          rw [← index_eq]
          refine ⟨_, taken, fun j inside => (read _).trans ?_, fun a outside => (read a).trans ?_⟩
          · rw [if_pos (by omega), Nat.add_sub_cancel_left]
          · rw [if_neg (by omega)]
  · by_cases empty : run = []
    · subst empty
      exact State.clipData_empty h clip offset
    · exact State.clipData_refused h empty rfl (State.writeClipData_range _ outside _ _)
  · exact congrArg Host.Outcome.next (State.completeFill_none none)
  · exact ⟨_, congrArg Host.Outcome.next (State.completeFill_next next), fun a => memRead_memClear 0 s.ann.memory _ _ a⟩

end Sys2Proof.Proofs

/-! PROOFS. The command ANNOUNCE, and announcement entries that start and end (R98, R101 to R106), settling `AnnounceCommand`
and `EntryStartAndEnd`. -/

namespace Sys2Proof.Machine

/-! ## Reports of call activity (R109) -/

/-- R109: an order's call is active by the calls in the queues and in the held-call lists. -/
theorem State.callActive_congr {s t : State} (n : Nat)
    (queues : ∀ o : OutputId, t.ann.queues[o].holds n = s.ann.queues[o].holds n)
    (screens : t.screens = s.screens) : t.callActive n = s.callActive n := by
  have stands (o : OutputId) : t.callStands o n = s.callStands o n := by
    unfold State.callStands
    rw [screens]
    exact congrArg (· || _) (queues o)
  simp only [State.callActive, stands]

/-- R109: with the same calls active as before there is nothing to report. -/
theorem State.reportActivity_none {s t : State} (same : ∀ n, t.callActive n = s.callActive n) :
    s.reportActivity t = t := by
  have kept : t.router.orders.map (·.reported s t) = t.router.orders := by
    refine (List.map_congr_left fun o _ => ?_).trans (List.map_id _)
    rw [Order.reported, if_pos (same o.number).symm]
    rfl
  have orders := State.reportActivity_orders s t
  rw [kept] at orders
  have whole : s.reportActivity t = { t with router := { t.router with orders := (s.reportActivity t).router.orders } } := rfl
  rw [whole, orders]

/-! ## Requests (R101 to R103, R105) -/

/-- R102: a request is dealt with for the outputs of its mask, in ascending order. -/
theorem State.request_mask (s : State) (r : Request) {l : List OutputId}
    (outputs : (allOutputs.filter fun o => r.mask.getLsbD o.val) = l) :
    s.request r = l.foldl (fun s o => s.requestOne r o) s := by
  rw [← outputs, List.foldl_filter]
  rfl

theorem maskOf_output (o : OutputId) :
    (allOutputs.filter fun i => (BitVec.ofNat 5 (2 ^ o.val)).getLsbD i.val) = [o] := by
  revert o
  decide

/-- R98: a clip with one more use. -/
def Composer.used (a : Composer) (k : ClipId) : Composer :=
  { a with clips := a.clips.set k { a.clips[k] with uses := a.clips[k].uses + 1 } }

/-- R101: a phrase of one clip that takes no more use renders to nothing. -/
theorem Composer.render_skipped {a : Composer} {p : PhraseId} {k : ClipId} (n : Nat) (part : a.phrases[p] = [.clip k])
    (left : a.clips[k].state ≠ .ready ∨ 255 ≤ a.clips[k].uses) :
    a.render p n = ({ a with skippedItems := bump16 a.skippedItems }, []) := by
  have uses : a.clips[k].takesUse = false := by
    unfold Clip.takesUse
    rcases left with other | full
    · rw [decide_eq_false other, Bool.false_and]
    · rw [decide_eq_false (Nat.not_lt.2 full), Bool.and_false]
  simp only [Composer.render, part, Part.items, List.flatMap_cons, List.flatMap_nil, List.append_nil, List.foldl_cons,
    List.foldl_nil, Composer.takeItem, uses, Bool.false_eq_true, if_false]

/-- R103: an entry that preempts none, placed in a queue where none waits. -/
theorem Composer.place_alone {a : Composer} {o : OutputId} (e : QueueEntry) {x : Option QueueEntry}
    (alone : a.queues[o].waiting = []) (playing : a.queues[o].playing = x) (yields : a.queues[o].preempts e = false) :
    a.place o e =
      { a with
        queues := a.queues.set o { playing := x, waiting := [{ e with join := a.joins }] }
        joins := a.joins + 1 } := by
  have room : a.queues[o].size < 8 := by
    simp only [AnnQueue.size, alone, List.length_nil]
    split <;> omega
  have stays : a.queues[o].preempts { e with join := a.joins } = false := yields
  simp only [Composer.place, room, if_true, Composer.join, stays, alone, joinWaiting, playing, Bool.false_eq_true, if_false]

/-- R105: an entry of priority 3 placed behind a playing one of lower priority takes its place. -/
theorem Composer.place_preempts {a : Composer} {o : OutputId} {e p : QueueEntry} (alone : a.queues[o].waiting = [])
    (playing : a.queues[o].playing = some p) (high : 3 ≤ e.priority) (low : p.priority < 3) :
    a.place o e =
      { a with
        queues := a.queues.set o { playing := some { e with join := a.joins }, waiting := [p.rewind] }
        preemptions := a.preemptions.set o (bump16 a.preemptions[o])
        joins := a.joins + 1 } := by
  have room : a.queues[o].size < 8 := by
    simp only [AnnQueue.size, alone, playing, Option.isSome_some, if_true, List.length_nil]
    omega
  have behind : ¬ e.priority ≤ p.rewind.priority := by
    have same : p.rewind.priority = p.priority := rfl
    omega
  simp only [Composer.place, room, if_true, Composer.join, AnnQueue.preempts, playing, high, low, decide_true,
    Bool.and_self, alone, joinWaiting, AnnQueue.stop, returnWaiting, behind, if_false, AnnQueue.start]

/-- R105: what does not preempt. -/
theorem AnnQueue.preempts_false {q : AnnQueue} {e : QueueEntry}
    (h : ∀ p, q.playing = some p → ¬ (3 ≤ e.priority ∧ p.priority < 3)) : q.preempts e = false := by
  unfold AnnQueue.preempts
  cases playing : q.playing with
  | none => rfl
  | some p => simpa using h p playing

theorem QueueEntry.calls_none {e : QueueEntry} (h : e.order = none) (n : Nat) : e.calls n = false := by
  simp [QueueEntry.calls, h]

/-- One queue replaced by one with the same calls. -/
theorem holds_set {v : Vector AnnQueue 5} {o : OutputId} {q : AnnQueue} {n : Nat} (same : q.holds n = v[o].holds n)
    (i : OutputId) : (v.set o q)[i].holds n = v[i].holds n := by
  simp only [Fin.getElem_fin, Vector.getElem_set]
  split
  · next own =>
    cases Fin.ext own
    exact same
  · rfl

/-- R105: an entry placed behind a playing one either preempts it or does not. -/
theorem AnnQueue.preempts_cases (q : AnnQueue) (e : QueueEntry) :
    q.preempts e = false ∨ ∃ p, q.playing = some p ∧ 3 ≤ e.priority ∧ p.priority < 3 := by
  by_cases h : ∃ p, q.playing = some p ∧ 3 ≤ e.priority ∧ p.priority < 3
  · exact .inr h
  · exact .inl (AnnQueue.preempts_false fun p playing outranks => h ⟨p, playing, outranks⟩)

/-- R109: an entry of no order, placed in a queue where none waits, changes no call. -/
theorem Composer.place_holds {a : Composer} {o : OutputId} {e : QueueEntry} (alone : a.queues[o].waiting = [])
    (free : e.order = none) (n : Nat) (i : OutputId) : (a.place o e).queues[i].holds n = a.queues[i].holds n := by
  have quiet : ({ e with join := a.joins } : QueueEntry).calls n = false := QueueEntry.calls_none free n
  rcases a.queues[o].preempts_cases e with yields | ⟨p, playing, high, low⟩
  · rw [Composer.place_alone e alone rfl yields]
    refine holds_set ?_ i
    simp only [AnnQueue.holds_eq, alone, List.any_cons, List.any_nil, quiet, Bool.or_false]
  · rw [Composer.place_preempts alone playing high low]
    refine holds_set ?_ i
    have rewound : p.rewind.calls n = p.calls n := rfl
    simp only [AnnQueue.holds_eq, alone, playing, Option.any_some, List.any_cons, List.any_nil, quiet, rewound,
      Bool.false_or, Bool.or_false]

/-- The entry of a request, before it joins a queue. -/
def Request.entry (r : Request) (items : List Item) : QueueEntry :=
  { origin := r.origin, priority := r.priority, mode := r.mode, items := items, order := r.order, next := 0, offset := 0
    join := 0 }

/-- R101, R103: a request whose phrase is one READY clip with room in its uses. -/
theorem State.renderAndPlace_clip {s : State} {r : Request} {k : ClipId} (o : OutputId)
    (part : s.ann.phrases[r.phrase] = [.clip k]) (ready : s.ann.clips[k].state = .ready)
    (room : s.ann.clips[k].uses < 255) :
    s.renderAndPlace r o = { s with ann := (s.ann.used k).place o (r.entry [.clip k]) } := by
  simp only [State.renderAndPlace, Composer.render_clip r.number part ready room, List.cons_ne_nil, if_false]
  rfl

/-- R101: a request whose phrase is one clip that takes no more use. -/
theorem State.renderAndPlace_skipped {s : State} {r : Request} {k : ClipId} (o : OutputId)
    (part : s.ann.phrases[r.phrase] = [.clip k])
    (left : s.ann.clips[k].state ≠ .ready ∨ 255 ≤ s.ann.clips[k].uses) :
    s.renderAndPlace r o = s.modAnn fun a =>
      { a with skippedItems := bump16 a.skippedItems, emptyRenders := bump16 a.emptyRenders } := by
  simp only [State.renderAndPlace, Composer.render_skipped r.number part left, if_true]
  rfl

/-- R102: a request of no order for one output is rendered and placed there. -/
theorem State.request_output {s : State} {r : Request} {o : OutputId} (free : r.order = none)
    (mask : r.mask = BitVec.ofNat 5 (2 ^ o.val)) : s.request r = s.renderAndPlace r o := by
  rw [s.request_mask r (l := [o]) (by rw [mask]; exact maskOf_output o)]
  simp only [List.foldl_cons, List.foldl_nil, State.requestOne, free]

/-! ## The command ANNOUNCE (R102) -/

theorem lt_of_fromZero {k n : Nat} {i : Fin k} (h : fromZero k n = some i) : n < k := by
  by_contra outside
  rw [fromZero_none (Nat.not_lt.1 outside)] at h
  cases h

theorem State.doAnnounce_range (s : State) {b0 b1 b3 : Byte} (priority : Byte) (number : Half)
    (h : 63 < b0.toNat ∨ b1 = 0 ∨ 31 < b1.toNat ∨ 1 < b3.toNat) :
    s.doAnnounce b0 b1 priority b3 number = (s, .range) := by
  unfold State.doAnnounce
  split
  · next id mode known listed =>
    have small := lt_of_fromZero known
    have low := (annModeOf_isSome b3.toNat).1 (by rw [listed]; rfl)
    have mask : b1.toNat = 0 ∨ 31 < b1.toNat := by
      rcases h with beyond | zero | many | unlisted
      · omega
      · exact .inl (congrArg BitVec.toNat zero)
      · exact .inr many
      · omega
    rw [if_pos mask]
  · rfl

theorem annModeOf_code (mode : AnnMode) : annModeOf (BitVec.ofNat 8 mode.code : Byte).toNat = some mode := by
  cases mode <;> rfl

/-- R102: the request of a command for one output. -/
def consoleRequest (p : PhraseId) (o : OutputId) (priority : Byte) (mode : AnnMode) (number : Half) : Request :=
  { phrase := p, mask := BitVec.ofNat 5 (2 ^ o.val), priority := min 3 priority.toNat, mode := mode
    origin := .console, number := number.toNat }

theorem State.doAnnounce_output (s : State) (p : PhraseId) (o : OutputId) (priority : Byte) (mode : AnnMode)
    (number : Half) :
    s.doAnnounce (BitVec.ofNat 8 p.val) (BitVec.ofNat 8 (2 ^ o.val)) priority (BitVec.ofNat 8 mode.code) number =
      (s.announce (consoleRequest p o priority mode number), .done) := by
  have mask : ¬ ((BitVec.ofNat 8 (2 ^ o.val) : Byte).toNat = 0 ∨ 31 < (BitVec.ofNat 8 (2 ^ o.val) : Byte).toNat) ∧
      (BitVec.ofNat 8 (2 ^ o.val) : Byte).truncate 5 = BitVec.ofNat 5 (2 ^ o.val) := by
    revert o
    decide
  simp only [State.doAnnounce, fromZero_byte p (by decide), annModeOf_code, if_neg mask.1, mask.2, clampTo_zero]
  rfl

/-- R101: a command whose phrase is one clip that takes no more use is counted, and changes nothing else. -/
theorem State.announce_skipped {s : State} {p : PhraseId} {k : ClipId} (o : OutputId) (priority : Byte) (mode : AnnMode)
    (number : Half) (part : s.ann.phrases[p] = [.clip k])
    (left : s.ann.clips[k].state ≠ .ready ∨ 255 ≤ s.ann.clips[k].uses) :
    s.announce (consoleRequest p o priority mode number) = s.modAnn fun a =>
      { a with skippedItems := bump16 a.skippedItems, emptyRenders := bump16 a.emptyRenders } := by
  rw [State.announce, State.request_output rfl rfl, State.renderAndPlace_skipped o part left]
  exact State.reportActivity_none fun n => State.callActive_congr n (fun _ => rfl) rfl

/-- R101, R103: a command whose phrase is one READY clip, for an output where no entry waits. -/
theorem State.announce_placed {s : State} {p : PhraseId} {k : ClipId} {o : OutputId} (priority : Byte) (mode : AnnMode)
    (number : Half) (part : s.ann.phrases[p] = [.clip k]) (ready : s.ann.clips[k].state = .ready)
    (room : s.ann.clips[k].uses < 255) (alone : s.ann.queues[o].waiting = []) :
    s.announce (consoleRequest p o priority mode number) =
      { s with ann := (s.ann.used k).place o ((consoleRequest p o priority mode number).entry [.clip k]) } := by
  rw [State.announce, State.request_output rfl rfl, State.renderAndPlace_clip o part ready room]
  have holds := Composer.place_holds
    (a := s.ann.used k) (e := (consoleRequest p o priority mode number).entry [.clip k]) alone rfl
  exact State.reportActivity_none fun n => State.callActive_congr n (holds n) rfl

/-! ## Entries that start and end (R104) -/

theorem screenOf_some {o : OutputId} {c : ScreenId} (h : screenOf o = some c) : o = outputOf c := by
  revert o c
  decide

/-- R83, R86: an output that no cut screen has is not cut. -/
theorem State.isCut_false {s : State} {o : OutputId} (uncut : ∀ c : ScreenId, o = outputOf c → s.screens[c].sound.cut = false) :
    s.isCut o = false := by
  unfold State.isCut
  split
  · next c screen => exact uncut c (screenOf_some screen)
  · rfl

/-- R104: nothing starts on an output where an entry plays, none waits, or the sound is cut. -/
theorem State.startEntry_none {s : State} {o : OutputId}
    (h : s.ann.queues[o].playing.isSome ∨ s.ann.queues[o].waiting = [] ∨
      ∃ c : ScreenId, o = outputOf c ∧ s.screens[c].sound.cut = true) : s.startEntry o = s := by
  unfold State.startEntry
  split
  · next free =>
    rw [Bool.and_eq_true, Bool.not_eq_true', Option.isNone_iff_eq_none] at free
    obtain ⟨idle, uncut⟩ := free
    refine (congrArg (s.setQueue o) ?_).trans (s.setQueue_same o)
    rcases h with plays | alone | ⟨c, rfl, cut⟩
    · rw [idle] at plays
      cases plays
    · simp only [AnnQueue.start, alone]
    · rw [State.isCut, screenOf_outputOf] at uncut
      exact absurd (cut.symm.trans uncut) nofun
  · rfl

theorem State.startEntry_starts {s : State} {o : OutputId} (uncut : s.isCut o = false)
    (idle : s.ann.queues[o].playing = none) : s.startEntry o = s.setQueue o s.ann.queues[o].start := by
  simp only [State.startEntry, idle, uncut, Option.isNone_none, Bool.not_false, Bool.and_self, if_true]

/-- The calls of a queue stay when its first waiting entry starts. -/
theorem AnnQueue.start_holds {q : AnnQueue} (idle : q.playing = none) (n : Nat) : q.start.holds n = q.holds n := by
  unfold AnnQueue.start
  split
  · rfl
  · next e ws waits =>
    simp only [AnnQueue.holds_eq, waits, idle, Option.any_none, Option.any_some, List.any_cons, Bool.false_or]

/-- R108: an output whose screen holds no call has none to move. -/
theorem State.entryLeft_none {s : State} {o : OutputId} (free : ∀ c : ScreenId, o = outputOf c → s.screens[c].heldCalls = []) :
    s.entryLeft o = s := by
  unfold State.entryLeft
  split
  · next c screen =>
    rw [State.moveHeld, free c (screenOf_some screen)]
    rfl
  · rfl

/-- An output's queue without its playing entry. -/
def AnnQueue.ended (q : AnnQueue) : AnnQueue := { q with playing := none }

/-- R98, R104: the playing entry, of one clip and no order, ends on an uncut output whose screen holds no call. -/
theorem State.endEntry_clip {s : State} {o : OutputId} {p : QueueEntry} {k : ClipId}
    (playing : s.ann.queues[o].playing = some p) (items : p.items = [.clip k]) (free : p.order = none)
    (quiet : ∀ c : ScreenId, o = outputOf c → s.screens[c].heldCalls = [] ∧ s.screens[c].sound.cut = false) :
    s.endEntry o =
      { s with ann :=
          { s.ann with
            clips := s.ann.clips.set k { s.ann.clips[k] with uses := s.ann.clips[k].uses - 1 }
            queues := s.ann.queues.set o s.ann.queues[o].ended.start } } := by
  let ended : State := (s.setQueue o s.ann.queues[o].ended).modAnn fun a => a.release p.items
  have queue : ended.ann.queues[o] = s.ann.queues[o].ended := by
    simp [ended, State.setQueue, State.modAnn]
  have started : ended.startEntry o = ended.setQueue o s.ann.queues[o].ended.start := by
    rw [State.startEntry_starts (s := ended) (State.isCut_false fun c own => (quiet c own).2) (by rw [queue]; rfl), queue]
  have next : (ended.startEntry o).ann =
      { s.ann with
        clips := s.ann.clips.set k { s.ann.clips[k] with uses := s.ann.clips[k].uses - 1 }
        queues := s.ann.queues.set o s.ann.queues[o].ended.start } := by
    rw [started]
    simp [ended, State.setQueue, State.modAnn, items, Composer.release]
  have left : (ended.startEntry o).entryLeft o = ended.startEntry o := by
    rw [started]
    exact State.entryLeft_none fun c own => (quiet c own).1
  have calls (n : Nat) (i : OutputId) : (ended.startEntry o).ann.queues[i].holds n = s.ann.queues[i].holds n := by
    rw [next]
    refine holds_set ((AnnQueue.start_holds rfl n).trans ?_) i
    simp only [AnnQueue.holds_eq, AnnQueue.ended, playing, Option.any_none, Option.any_some, QueueEntry.calls_none free]
  have silent : s.reportActivity (ended.startEntry o) = ended.startEntry o :=
    State.reportActivity_none fun n => State.callActive_congr n (calls n) (by rw [started]; rfl)
  have whole : s.endEntry o = s.reportActivity ((ended.startEntry o).entryLeft o) := by
    simp only [State.endEntry, playing]
    rfl
  rw [whole, left, silent, started]
  rw [started] at next
  exact congrArg (fun a => { s with ann := a }) next

end Sys2Proof.Machine

namespace Sys2Proof.Proofs
open Machine

/-- Settles O40: the codes judged first, then the clip's state and uses, then the entry that plays. -/
theorem announceCommand : Obligations.AnnounceCommand := by
  intro s m p k o priority mode number h phrase modeByte mask entry
  have queued : s.cell.queued < 16 := Nat.lt_of_succ_le h.room.queued
  let announce : Command := .announce phrase mask priority modeByte number
  have owner : s.countTaken.obey announce =
      (s.countTaken.announce (consoleRequest p o priority mode number), .done) :=
    s.countTaken.doAnnounce_output p o priority mode number
  refine ⟨fun b0 b1 b3 wrong => ⟨s.indexLow, s.indexHigh, congrArg Host.Outcome.next ?_⟩, fun part =>
    ⟨fun left => ⟨s.indexLow, s.indexHigh, congrArg Host.Outcome.next ?_⟩, fun ready room alone =>
      ⟨s.indexLow, s.indexHigh, congrArg Host.Outcome.next ?_⟩⟩⟩
  · exact State.command_refused (c := .announce b0 b1 priority b3 number) h (Nat.le_refl 1) nofun
      (State.doAnnounce_range _ priority number wrong) rfl
  · rw [State.announce_skipped (s := s.countTaken) o priority mode number part left] at owner
    exact State.command_done (c := announce) h nofun owner queued
  · rw [State.announce_placed (s := s.countTaken) priority mode number part ready room alone] at owner
    cases playing : s.ann.queues[o].playing with
    | none =>
      have placed := Composer.place_empty (a := s.countTaken.ann.used k)
        ((consoleRequest p o priority mode number).entry [.clip k]) ⟨playing, alone⟩
      rw [placed] at owner
      simp only [State.modAnn, playing]
      exact State.command_done (c := announce) h nofun owner queued
    | some e =>
      by_cases outranks : 3 ≤ priority.toNat ∧ e.priority < 3
      · have high : 3 ≤ min 3 priority.toNat := by omega
        have placed := Composer.place_preempts (a := s.countTaken.ann.used k)
          (e := (consoleRequest p o priority mode number).entry [.clip k]) alone playing high outranks.2
        rw [placed] at owner
        simp only [State.modAnn, playing, if_pos outranks]
        exact State.command_done (c := announce) h nofun owner queued
      · have yields : s.ann.queues[o].preempts ((consoleRequest p o priority mode number).entry [.clip k]) = false :=
          AnnQueue.preempts_false fun q same high => by
            rw [playing] at same
            cases same
            have : (3 ≤ min 3 priority.toNat) ∧ e.priority < 3 := high
            omega
        have placed := Composer.place_alone (a := s.countTaken.ann.used k) _ alone playing yields
        rw [placed] at owner
        simp only [State.modAnn, playing, if_neg outranks]
        exact State.command_done (c := announce) h nofun owner queued

/-- Settles O41: an entry starts where the output is free, and its end starts the next. -/
theorem entryStartAndEnd : Obligations.EntryStartAndEnd := by
  intro s o
  refine ⟨fun blocked => congrArg Host.Outcome.next (State.startEntry_none blocked), fun uncut e es idle waits =>
    congrArg Host.Outcome.next ?_, fun idle => congrArg Host.Outcome.next ?_, fun p k playing items free quiet =>
    congrArg Host.Outcome.next ?_⟩
  · rw [State.startEntry_starts (State.isCut_false uncut) idle, AnnQueue.start, waits]
    rfl
  · simp only [State.endEntry, idle]
  · rw [State.endEntry_clip playing items free quiet, AnnQueue.ended, AnnQueue.start]
    cases s.ann.queues[o].waiting <;> rfl

end Sys2Proof.Proofs

/-! PROOFS. Field counts and lanes (R115, R116, R120, R124, R125, R128), settling `SetCount` and `LaneBeatAndTimers`. -/

namespace Sys2Proof.Machine

/-! ## What the console is told (R158) -/

theorem State.tells.nil {s t : State} (normal : t.cell.normal = s.cell.normal) (notices : t.mgmt.notices = s.mgmt.notices) :
    s.tells t [] := ⟨[], .nil, normal.trans (List.append_nil _).symm, notices⟩

/-- R158: what the console is told on the way to `t` and then from `t` to `u`. -/
theorem State.tells.trans {s t u : State} {es fs : List Told} (h : s.tells t es) (k : t.tells u fs)
    (console : t.mgmt.site.console = s.mgmt.site.console) (events : t.ann.events = s.ann.events) :
    s.tells u (es ++ fs) := by
  obtain ⟨cells, each, queue, count⟩ := h
  obtain ⟨more, others, behind, total⟩ := k
  have same : t.isNotice = s.isNotice := by
    unfold State.isNotice
    rw [console]
  rw [same, events] at others
  refine ⟨cells ++ more, ?_, by rw [behind, queue, List.append_assoc], ?_⟩
  · rw [List.filter_append]
    exact List.rel_append each others
  · rw [total, count]
    by_cases first : cells = []
    · rw [if_pos first, first, List.nil_append]
    · by_cases last : more = []
      · rw [last, List.append_nil, if_pos rfl]
      · have both : cells ++ more ≠ [] := fun e => first (List.append_eq_nil_iff.1 e).1
        rw [if_neg first, if_neg last, if_neg both, List.length_append]
        omega

/-! ## Field counts that change (07) -/

/-- The field counts of the screens. -/
def State.counts (s : State) (c : ScreenId) : FieldCounts := s.screens[c].field

/-- From `s` to `t` the field counts become `f` and the gates `g`; the console is told of `es`, with at most `n` cells. -/
structure Recounted (s t : State) (g : GateCounter) (f : ScreenId → FieldCounts) (n : Nat) (es : List Told) : Prop where
  gate : t.gate = g
  counts : t.counts = f
  screens : ∀ c : ScreenId, t.screens[c] = { s.screens[c] with field := t.counts c }
  traffic : ({ s with gate := g } : State).sameButTraffic t
  urgent : t.cell.urgent = s.cell.urgent
  queued : t.cell.queued ≤ s.cell.queued + n
  mgmt : t.mgmt = { s.mgmt with notices := t.mgmt.notices }
  events : t.ann.events = s.ann.events
  told : s.cell.queued + n ≤ 16 → s.tells t es

theorem Recounted.trans {s t u : State} {a b : GateCounter} {f g : ScreenId → FieldCounts} {n m : Nat} {es fs : List Told}
    (h : Recounted s t a f n es) (k : Recounted t u b g m fs) : Recounted s u b g (n + m) (es ++ fs) := by
  have hq := h.queued
  have kq := k.queued
  refine ⟨k.gate, k.counts, fun c => ?_, ?_, k.urgent.trans h.urgent, by omega, ?_, k.events.trans h.events, fun room => ?_⟩
  · rw [k.screens c, h.screens c]
  · have first := h.traffic
    have last := k.traffic
    unfold State.sameButTraffic at *
    rw [last, first]
  · rw [k.mgmt, h.mgmt]
  · exact (h.told (by omega)).trans (k.told (by omega)) (by rw [h.mgmt]) h.events

theorem State.counts_set {s t : State} {c : ScreenId} {v : FieldCounts} (own : t.screens[c].field = v)
    (others : ∀ d : ScreenId, d ≠ c → t.screens[d].field = s.screens[d].field) :
    t.counts = Function.update s.counts c v := by
  funext d
  by_cases same : d = c
  · subst same
    rw [Function.update_self]
    exact own
  · rw [Function.update_of_ne same]
    exact others d same

theorem Recounted.modField (s : State) (c : ScreenId) (f : FieldCounts → FieldCounts) :
    Recounted s (s.modField c f) s.gate (Function.update s.counts c (f (s.counts c))) 0 [] := by
  have own := s.modScreen_self c fun v => { v with field := f v.field }
  have other {d : ScreenId} (hd : d ≠ c) := s.modScreen_other c (fun v => { v with field := f v.field }) hd
  refine ⟨rfl, State.counts_set (congrArg (·.field) own) fun d hd => congrArg (·.field) (other hd), fun d => ?_, rfl, rfl,
    Nat.le_refl _, rfl, rfl, fun _ => .nil rfl rfl⟩
  by_cases same : d = c
  · subst same
    exact own.trans (congrArg (fun x => { s.screens[d] with field := x }) (congrArg (·.field) own).symm)
  · exact (other same).trans (congrArg (fun x => { s.screens[d] with field := x }) (congrArg (·.field) (other same)).symm)

theorem Raised.recounted {s t : State} {n : Nat} {es : List Told} (h : Raised s t) (queued : t.cell.queued ≤ s.cell.queued + n)
    (told : s.cell.queued + n ≤ 16 → s.tells t es) : Recounted s t s.gate s.counts n es := by
  refine ⟨h.kept.gate, ?_, fun c => ?_, ?_, h.urgent, queued, by rw [h.rest], by rw [h.kept.ann.rest], told⟩
  · unfold State.counts
    rw [h.screens]
  · unfold State.counts
    rw [h.screens]
  · rw [h.rest]
    rfl

/-- R158: an event tells the console and changes no count. -/
theorem Recounted.raise (s : State) (e : Event) (subject snapshot : Nat) (clockOf : Option ScreenId) :
    Recounted s (s.raise e subject snapshot clockOf) s.gate s.counts 1
      [⟨e.code, subject, snapshot, clockOf.map fun c => s.screens[c].seq.clock⟩] :=
  (s.raise_raised e subject snapshot clockOf).recounted (s.raise_queued e subject snapshot clockOf)
    fun room => State.raise_tells room e subject snapshot clockOf

theorem Recounted.refl (s : State) : Recounted s s s.gate s.counts 0 [] :=
  (Raised.refl s).recounted (Nat.le_refl _) fun _ => .nil rfl rfl

theorem Recounted.weaken {s t : State} {g : GateCounter} {f : ScreenId → FieldCounts} {n m : Nat} {es : List Told}
    (h : Recounted s t g f n es) (le : n ≤ m) : Recounted s t g f m es :=
  { h with queued := h.queued.trans (by omega), told := fun room => h.told (by omega) }

/-- A count set and told of. -/
theorem Recounted.setTold (s : State) (c : ScreenId) (f : FieldCounts → FieldCounts) (e : Event) (snapshot : Nat) :
    Recounted s ((s.modField c f).raise e (numberOf c) snapshot (some c)) s.gate (Function.update s.counts c (f (s.counts c))) 1
      [⟨e.code, numberOf c, snapshot, some s.screens[c].seq.clock⟩] := by
  have set := Recounted.modField s c f
  have raised := set.trans (Recounted.raise (s.modField c f) e (numberOf c) snapshot (some c))
  rw [set.counts, Option.map_some, set.screens c] at raised
  exact raised

/-- FIELD_FULL (0) of a screen whose full flag rises, and the events of a near-full flag that moves (Table 9-2). -/
def fullTold (f g : FieldCounts) (c : ScreenId) (clock : Nat) : List Told :=
  if f.full = false ∧ g.full = true then [⟨0, c.val + 1, g.occupancy, some clock⟩] else []

def nearTold (f g : FieldCounts) (c : ScreenId) (clock : Nat) : List Told :=
  if f.nearFull = false ∧ g.nearFull = true then [⟨1, c.val + 1, g.occupancy, some clock⟩]
  else if f.nearFull = true ∧ g.nearFull = false then [⟨2, c.val + 1, g.occupancy, some clock⟩]
  else []

theorem State.fieldTold_eq (s t : State) (c : ScreenId) :
    s.fieldTold t c =
      nearTold (s.counts c) (t.counts c) c s.screens[c].seq.clock ++
        fullTold (s.counts c) (t.counts c) c s.screens[c].seq.clock := rfl

theorem fullTold_same {f g : FieldCounts} (same : g.full = f.full) (c : ScreenId) (clock : Nat) :
    fullTold f g c clock = [] := by
  unfold fullTold
  rw [same]
  cases f.full <;> rfl

theorem nearTold_same {f g : FieldCounts} (same : g.nearFull = f.nearFull) (c : ScreenId) (clock : Nat) :
    nearTold f g c clock = [] := by
  unfold nearTold
  rw [same]
  cases f.nearFull <;> rfl

theorem fullTold_rises {f g : FieldCounts} (old : f.full = false) (new : g.full = true) (c : ScreenId) (clock : Nat) :
    fullTold f g c clock = [⟨0, c.val + 1, g.occupancy, some clock⟩] := if_pos ⟨old, new⟩

theorem fullTold_falls {f g : FieldCounts} (new : g.full = false) (c : ScreenId) (clock : Nat) : fullTold f g c clock = [] :=
  if_neg fun h => Bool.noConfusion (new.symm.trans h.2)

theorem nearTold_rises {f g : FieldCounts} (old : f.nearFull = false) (new : g.nearFull = true) (c : ScreenId)
    (clock : Nat) : nearTold f g c clock = [⟨1, c.val + 1, g.occupancy, some clock⟩] := if_pos ⟨old, new⟩

theorem nearTold_falls {f g : FieldCounts} (old : f.nearFull = true) (new : g.nearFull = false) (c : ScreenId)
    (clock : Nat) : nearTold f g c clock = [⟨2, c.val + 1, g.occupancy, some clock⟩] :=
  (if_neg fun h => Bool.noConfusion (old.symm.trans h.1)).trans (if_pos ⟨old, new⟩)

theorem Recounted.same (s : State) (c : ScreenId) {v : FieldCounts} (same : v = s.counts c) :
    Recounted s s s.gate (Function.update s.counts c v) 1 [] := by
  rw [same, Function.update_eq_self]
  exact (Recounted.refl s).weaken (Nat.zero_le 1)

/-- R124: counts with the full flag judged for them. -/
def FieldCounts.fullJudged (f : FieldCounts) (g : ScreenConfig) : FieldCounts :=
  { f with full := decide ((g.capacity : Int) - f.occupancy - g.reserved - f.pending ≤ 0) }

/-- R124: the full flag judged, and FIELD_FULL told when it rises. -/
theorem State.judgeFull_recounted (s : State) (c : ScreenId) :
    Recounted s (s.judgeFull c) s.gate (Function.update s.counts c ((s.counts c).fullJudged s.screens[c].config)) 1
      (fullTold (s.counts c) ((s.counts c).fullJudged s.screens[c].config) c s.screens[c].seq.clock) := by
  have judged : (s.counts c).fullJudged s.screens[c].config = { s.counts c with full := decide (s.availability c ≤ 0) } := rfl
  rw [judged]
  unfold State.judgeFull
  split
  · next h =>
    have free : (s.counts c).full = false := (Bool.not_eq_true' _).mp h.2
    have full := decide_eq_true h.1
    rw [fullTold_rises free full, full]
    exact .setTold s c (fun f => { f with full := true }) .fieldFull _
  · next rises =>
    split
    · next h =>
      have free : decide (s.availability c ≤ 0) = false := decide_eq_false (by omega)
      rw [fullTold_falls free, free]
      exact (Recounted.modField s c fun f => { f with full := false }).weaken (Nat.zero_le 1)
    · next falls =>
      have same : decide (s.availability c ≤ 0) = (s.counts c).full := by
        cases flag : (s.counts c).full with
        | false => exact decide_eq_false fun h => rises ⟨h, by rw [show s.screens[c].field.full = false from flag]; rfl⟩
        | true => exact decide_eq_true (Int.not_lt.1 fun h => falls ⟨h, flag⟩)
      rw [same, fullTold_same rfl]
      exact .same s c rfl

/-- R125: counts with the near-full flag judged for them, where the window of the marks is on. -/
def FieldCounts.nearJudged (f : FieldCounts) (g : ScreenConfig) : FieldCounts :=
  { f with
    nearFull :=
      if g.high = 0 ∧ g.low = 0 then f.nearFull
      else if g.high ≤ f.occupancy then true
      else if f.occupancy ≤ g.low then false
      else f.nearFull }

theorem ScreenConfig.windowOn_iff (g : ScreenConfig) : g.windowOn = true ↔ ¬ (g.high = 0 ∧ g.low = 0) := by
  simp only [ScreenConfig.windowOn, Bool.not_eq_true', Bool.and_eq_false_iff, decide_eq_false_iff_not, not_and_or]

/-- R125: the near-full flag judged for marks in order, and its move told. -/
theorem State.judgeNearFull_recounted (s : State) (c : ScreenId) (marks : s.screens[c].config.marksStand) :
    Recounted s (s.judgeNearFull c) s.gate (Function.update s.counts c ((s.counts c).nearJudged s.screens[c].config)) 1
      (nearTold (s.counts c) ((s.counts c).nearJudged s.screens[c].config) c s.screens[c].seq.clock) := by
  unfold State.judgeNearFull
  by_cases off : s.screens[c].config.high = 0 ∧ s.screens[c].config.low = 0
  · have closed : ¬ s.screens[c].config.windowOn = true := fun on => (ScreenConfig.windowOn_iff _).1 on off
    have same : (s.counts c).nearJudged s.screens[c].config = s.counts c := by
      unfold FieldCounts.nearJudged
      rw [if_pos off]
    rw [same, nearTold_same rfl]
    rw [if_neg fun h => closed h.1, if_neg fun h => closed h.1]
    exact .same s c rfl
  · have on := (ScreenConfig.windowOn_iff _).2 off
    have order := marks.resolve_right off
    have record : s.screens[c].field = s.counts c := rfl
    simp only [on, true_and, record, FieldCounts.nearJudged, if_neg off]
    by_cases above : s.screens[c].config.high ≤ (s.counts c).occupancy
    · have notBelow : ¬ (s.counts c).occupancy ≤ s.screens[c].config.low := by omega
      simp only [above, notBelow, if_true, false_and, if_false, true_and]
      cases flag : (s.counts c).nearFull with
      | false =>
        rw [nearTold_rises flag rfl]
        exact .setTold s c (fun f => { f with nearFull := true }) .fieldNearFull _
      | true =>
        rw [nearTold_same flag.symm]
        exact .same s c (by rw [← flag])
    · simp only [above, false_and, if_false]
      by_cases below : (s.counts c).occupancy ≤ s.screens[c].config.low
      · simp only [below, true_and, if_true]
        cases flag : (s.counts c).nearFull with
        | false =>
          rw [nearTold_same flag.symm]
          exact .same s c (by rw [← flag])
        | true =>
          rw [nearTold_falls flag rfl]
          exact .setTold s c (fun f => { f with nearFull := false }) .fieldReopen _
      · simp only [below, false_and, if_false]
        rw [nearTold_same rfl]
        exact .same s c rfl

/-- R116: COUNT_UNCERTAIN (3) of a screen whose uncertain flag was clear. -/
def flagTold (f : FieldCounts) (c : ScreenId) (clock : Nat) : List Told :=
  if f.uncertain = true then [] else [⟨3, c.val + 1, f.occupancy, some clock⟩]

/-- R116: the uncertain flag set, and COUNT_UNCERTAIN told when it was clear. -/
theorem State.flagUncertain_recounted (s : State) (c : ScreenId) :
    Recounted s (s.flagUncertain c) s.gate (Function.update s.counts c { s.counts c with uncertain := true }) 1
      (flagTold (s.counts c) c s.screens[c].seq.clock) := by
  unfold State.flagUncertain flagTold
  by_cases flag : (s.counts c).uncertain = true
  · rw [if_pos (by exact flag), if_pos flag]
    exact .same s c (by rw [← flag])
  · rw [if_neg (by exact flag), if_neg flag]
    exact .setTold s c (fun f => { f with uncertain := true }) .countUncertain _

/-! ## Changes after each other -/

section Chains

variable {s t : State} {g : GateCounter} {f : ScreenId → FieldCounts} {n : Nat} {es : List Told}

/-- A gate counter with one lane changed. -/
def GateCounter.setLane (g : GateCounter) (l : LaneId) (v : Lane → Lane) : GateCounter :=
  { g with lanes := g.lanes.set l (v g.lanes[l]) }

theorem Recounted.modLane (h : Recounted s t g f n es) (l : LaneId) (v : Lane → Lane) :
    Recounted s (t.modLane l v) (g.setLane l v) f n es := by
  have gate : (t.modLane l v).gate = t.gate.setLane l v := rfl
  refine ⟨by rw [gate, h.gate], h.counts, h.screens, ?_, h.urgent, h.queued, h.mgmt, h.events, fun room =>
    (h.told room).of_same rfl rfl⟩
  have traffic := h.traffic
  unfold State.sameButTraffic at traffic ⊢
  rw [traffic]
  rfl

theorem Recounted.change (h : Recounted s t g f n es) (c : ScreenId) (v : FieldCounts → FieldCounts) :
    Recounted s (t.modField c v) g (Function.update f c (v (f c))) n es := by
  have both := h.trans (.modField t c v)
  rw [h.gate, h.counts, List.append_nil] at both
  exact both

theorem Recounted.raised (h : Recounted s t g f n es) (e : Event) (subject snapshot : Nat) :
    Recounted s (t.raise e subject snapshot none) g f (n + 1) (es ++ [⟨e.code, subject, snapshot, none⟩]) := by
  have both := h.trans (.raise t e subject snapshot none)
  rw [h.gate, h.counts] at both
  exact both

theorem Recounted.judgeNear (h : Recounted s t g f n es) (c : ScreenId) (marks : s.screens[c].config.marksStand) :
    Recounted s (t.judgeNearFull c) g (Function.update f c ((f c).nearJudged s.screens[c].config)) (n + 1)
      (es ++ nearTold (f c) ((f c).nearJudged s.screens[c].config) c s.screens[c].seq.clock) := by
  have both := h.trans (t.judgeNearFull_recounted c (by rw [h.screens c]; exact marks))
  rw [h.gate, h.screens c, h.counts] at both
  exact both

theorem Recounted.judgeFull (h : Recounted s t g f n es) (c : ScreenId) :
    Recounted s (t.judgeFull c) g (Function.update f c ((f c).fullJudged s.screens[c].config)) (n + 1)
      (es ++ fullTold (f c) ((f c).fullJudged s.screens[c].config) c s.screens[c].seq.clock) := by
  have both := h.trans (t.judgeFull_recounted c)
  rw [h.gate, h.screens c, h.counts] at both
  exact both

theorem Recounted.flagUncertain (h : Recounted s t g f n es) (c : ScreenId) :
    Recounted s (t.flagUncertain c) g (Function.update f c { f c with uncertain := true }) (n + 1)
      (es ++ flagTold (f c) c s.screens[c].seq.clock) := by
  have both := h.trans (t.flagUncertain_recounted c)
  rw [h.gate, h.screens c, h.counts] at both
  exact both

end Chains

/-! ## SET_COUNT (R128) -/

/-- R128: the counts that SET_COUNT gives, before the flags are judged. -/
def FieldCounts.setTo (f : FieldCounts) (count tall : Half) : FieldCounts :=
  { f with occupancy := min 4095 count.toNat, tall := min (min 4095 count.toNat) tall.toNat, uncertain := false }

theorem State.doSetCount_none (s : State) {b : Byte} (h : b = 0 ∨ 4 < b.toNat) (count tall : Half) :
    s.doSetCount b count tall = (s, .range) := s.screenCommand_none h _

theorem State.doSetCount_screen (s : State) (c : ScreenId) (count tall : Half) :
    s.doSetCount (BitVec.ofNat 8 (c.val + 1)) count tall =
      ((s.modField c fun f => f.setTo count tall).judgeFlags c, .done) := by
  simp only [State.doSetCount, State.screenCommand_screen, clampTo_zero]
  rfl

/-- R124, R125, R128: what SET_COUNT makes of a screen's counts, and what it tells. -/
theorem State.setCount_recounted (s : State) (c : ScreenId) (count tall : Half) (marks : s.screens[c].config.marksStand) :
    let f := ((s.counts c).setTo count tall).flagged s.screens[c].config
    Recounted s ((s.modField c fun f => f.setTo count tall).judgeFlags c) s.gate (Function.update s.counts c f) 2
      (nearTold (s.counts c) f c s.screens[c].seq.clock ++ fullTold (s.counts c) f c s.screens[c].seq.clock) := by
  have judged := (((Recounted.refl s).change c fun f => f.setTo count tall).judgeNear c marks).judgeFull c
  simp only [Function.update_self, Function.update_idem] at judged
  exact judged

/-! ## Lanes (R115, R116, R120) -/

/-- R113, R124: the counts of a screen whose pending admission of a vehicle is cleared, the full flag judged. -/
def FieldCounts.cleared (f : FieldCounts) (g : ScreenConfig) (v : Vehicle) : FieldCounts := (f.unpend v).fullJudged g

theorem State.passExpires_none {s : State} {l : LaneId} (h : s.gate.lanes[l].pending = none) : s.passExpires l = s := by
  simp only [State.passExpires, h]

/-- R120: the end of a pass timer. -/
theorem State.passExpires_recounted {s : State} {l : LaneId} {p : PendingAdmission}
    (h : s.gate.lanes[l].pending = some p) :
    let f := { (s.counts p.screen).cleared s.screens[p.screen].config p.vehicle with
      expiries := bump16 (s.counts p.screen).expiries }
    Recounted s (s.passExpires l) (s.modLane l fun n => { n with pending := none }).gate
      (Function.update s.counts p.screen f) 1 (fullTold (s.counts p.screen) f p.screen s.screens[p.screen].seq.clock) := by
  have judged := ((((Recounted.refl s).modLane l fun n => { n with pending := none }).change p.screen fun f =>
    f.unpend p.vehicle).change p.screen fun f => { f with expiries := bump16 f.expiries }).judgeFull p.screen
  simp only [Function.update_self, Function.update_idem] at judged
  simp only [State.passExpires, h, State.clearPending]
  exact judged

theorem State.silenceExpires_none {s : State} {l : LaneId} (h : s.gate.lanes[l].silenceTimer = none) :
    s.silenceExpires l = s := by
  simp only [State.silenceExpires, h]

/-- R116: a lane that falls silent. -/
def Lane.silenced (n : Lane) : Lane := { n with state := .silent, silenceTimer := none }

/-- R116: the end of a silence timer with no admission pending. -/
theorem State.silenceExpires_idle {s : State} {l : LaneId} (runs : s.gate.lanes[l].silenceTimer.isSome)
    (h : s.gate.lanes[l].pending = none) :
    let home := s.gate.lanes[l].home
    Recounted s (s.silenceExpires l) (s.gate.setLane l Lane.silenced)
      (Function.update s.counts home { s.counts home with uncertain := true }) 2
      (⟨4, l.val + 1, s.gate.lanes[l].station, none⟩ :: flagTold (s.counts home) home s.screens[home].seq.clock) := by
  intro home
  obtain ⟨v, timer⟩ := Option.isSome_iff_exists.1 runs
  have flagged := (((Recounted.refl s).modLane l Lane.silenced).raised .laneSilent (numberOf l)
    s.gate.lanes[l].station).flagUncertain home
  simp only [State.silenceExpires, timer, h]
  exact flagged

/-- R113, R116, R124: the end of a silence timer clears a pending admission, whose screen's full flag is judged, and flags
the home field. -/
theorem State.silenceExpires_pending {s : State} {l : LaneId} {p : PendingAdmission}
    (runs : s.gate.lanes[l].silenceTimer.isSome) (h : s.gate.lanes[l].pending = some p) :
    let home := s.gate.lanes[l].home
    let cleared := (s.counts p.screen).cleared s.screens[p.screen].config p.vehicle
    let others := Function.update s.counts p.screen cleared
    let gate := (s.gate.setLane l Lane.silenced).setLane l fun n => { n with pending := none }
    let told := ⟨4, l.val + 1, s.gate.lanes[l].station, none⟩ ::
      (fullTold (s.counts p.screen) cleared p.screen s.screens[p.screen].seq.clock ++
        flagTold (others home) home s.screens[home].seq.clock)
    let flagged := Function.update others home { others home with uncertain := true }
    (p.screen = home → Recounted s (s.silenceExpires l) gate flagged 3 told) ∧
      (p.screen ≠ home →
        Recounted s (s.silenceExpires l) gate
          (Function.update flagged p.screen { flagged p.screen with uncertain := true }) 4
          (told ++ flagTold (flagged p.screen) p.screen s.screens[p.screen].seq.clock)) := by
  intro home cleared others gate told flagged
  obtain ⟨v, timer⟩ := Option.isSome_iff_exists.1 runs
  have judged := ((((Recounted.refl s).modLane l Lane.silenced).raised .laneSilent (numberOf l)
    s.gate.lanes[l].station).modLane l fun n => { n with pending := none }).change p.screen fun f => f.unpend p.vehicle
  have flags := (judged.judgeFull p.screen).flagUncertain home
  simp only [Function.update_self, Function.update_idem] at flags
  simp only [State.silenceExpires, timer, h]
  refine ⟨fun same => ?_, fun apart => ?_⟩
  · rw [if_pos same]
    exact flags
  · rw [if_neg apart]
    exact flags.flagUncertain p.screen

/-- R113, R116, R124: the counts of a screen whose pending admission falls with its lane. -/
def FieldCounts.fallen (f : FieldCounts) (g : ScreenConfig) (v : Vehicle) : FieldCounts :=
  { f.cleared g v with uncertain := true }

/-- A lane that falls silent with its pending admission. -/
def Lane.emptied (n : Lane) : Lane := { n with state := .silent, silenceTimer := none, pending := none }

theorem GateCounter.setLane_emptied (g : GateCounter) (l : LaneId) :
    ((g.setLane l Lane.silenced).setLane l fun n => { n with pending := none }) = g.setLane l Lane.emptied := by
  simp [GateCounter.setLane, Lane.silenced, Lane.emptied]

/-- R116: a pending admission of the lane's home field. -/
theorem State.silenceExpires_home {s : State} {l : LaneId} {p : PendingAdmission}
    (runs : s.gate.lanes[l].silenceTimer.isSome) (h : s.gate.lanes[l].pending = some p)
    (same : p.screen = s.gate.lanes[l].home) :
    let fallen := (s.counts p.screen).fallen s.screens[p.screen].config p.vehicle
    Recounted s (s.silenceExpires l) (s.gate.setLane l Lane.emptied) (Function.update s.counts p.screen fallen) 4
      (⟨4, l.val + 1, s.gate.lanes[l].station, none⟩ ::
        (fullTold (s.counts p.screen) fallen p.screen s.screens[p.screen].seq.clock ++
          flagTold (s.counts p.screen) p.screen s.screens[p.screen].seq.clock)) := by
  have silent := (State.silenceExpires_pending runs h).1 same
  simp only [← same] at silent
  rw [GateCounter.setLane_emptied] at silent
  simp only [Function.update_self, Function.update_idem] at silent
  exact silent.weaken (by decide)

/-- R116: a pending admission of another field. -/
theorem State.silenceExpires_away {s : State} {l : LaneId} {p : PendingAdmission}
    (runs : s.gate.lanes[l].silenceTimer.isSome) (h : s.gate.lanes[l].pending = some p)
    (apart : p.screen ≠ s.gate.lanes[l].home) :
    let home := s.gate.lanes[l].home
    let fallen := (s.counts p.screen).fallen s.screens[p.screen].config p.vehicle
    Recounted s (s.silenceExpires l) (s.gate.setLane l Lane.emptied)
      (Function.update (Function.update s.counts home { s.counts home with uncertain := true }) p.screen fallen) 4
      (⟨4, l.val + 1, s.gate.lanes[l].station, none⟩ ::
        (fullTold (s.counts p.screen) fallen p.screen s.screens[p.screen].seq.clock ++
          flagTold (s.counts home) home s.screens[home].seq.clock ++
          flagTold (s.counts p.screen) p.screen s.screens[p.screen].seq.clock)) := by
  have silent := (State.silenceExpires_pending runs h).2 apart
  rw [GateCounter.setLane_emptied] at silent
  simp only [Function.update_of_ne apart.symm, Function.update_of_ne apart, Function.update_self,
    Function.update_comm apart, Function.update_idem] at silent
  exact silent

theorem Recounted.field {s t : State} {g : GateCounter} {f : ScreenId → FieldCounts} {n : Nat} {es : List Told}
    (h : Recounted s t g f n es) (c : ScreenId) : t.screens[c].field = f c := congrFun h.counts c

theorem Recounted.seq {s t : State} {g : GateCounter} {f : ScreenId → FieldCounts} {n : Nat} {es : List Told}
    (h : Recounted s t g f n es) (c : ScreenId) : t.screens[c].seq = s.screens[c].seq := by rw [h.screens c]

theorem Recounted.other {s t : State} {g : GateCounter} {f : ScreenId → FieldCounts} {n : Nat} {es : List Told}
    (h : Recounted s t g f n es) {c : ScreenId} (same : f c = s.counts c) : t.screens[c] = s.screens[c] := by
  rw [h.screens c, h.counts, same]
  rfl

theorem Recounted.sameTraffic {s t : State} {g : GateCounter} {f : ScreenId → FieldCounts} {n : Nat} {es : List Told}
    (h : Recounted s t g f n es) : ({ s with gate := t.gate } : State).sameButTraffic t := by
  rw [h.gate]
  exact h.traffic

/-- The events of a field whose near-full flag stands. -/
theorem Recounted.fieldTold {s t : State} {g : GateCounter} {f : ScreenId → FieldCounts} {n : Nat} {es : List Told}
    (h : Recounted s t g f n es) {c : ScreenId} (near : (f c).nearFull = (s.counts c).nearFull) :
    s.fieldTold t c = fullTold (s.counts c) (f c) c s.screens[c].seq.clock := by
  rw [State.fieldTold_eq, h.counts, nearTold_same near, List.nil_append]

end Sys2Proof.Machine

namespace Sys2Proof.Proofs
open Machine

/-- Settles O42: a screen outside 1..4 is refused; else the counts are set and their flags judged. -/
theorem setCount : Obligations.SetCount := by
  intro s m c count tall h screen g f o
  have room : s.cell.queued + 3 ≤ 16 := h.room.queued
  refine ⟨fun b outside => ⟨s.indexLow, s.indexHigh, congrArg Host.Outcome.next ?_⟩, fun marks => ?_⟩
  · exact State.command_refused (c := .setCount b count tall) h (by decide) nofun
      (State.doSetCount_none _ outside count tall) rfl
  · have owner : s.countTaken.obey (.setCount screen count tall) = _ := s.countTaken.doSetCount_screen c count tall
    have judged := s.countTaken.setCount_recounted c count tall marks
    have queued := judged.queued
    have done := State.command_done (c := .setCount screen count tall) h nofun owner (by
      have : s.countTaken.cell.queued = s.cell.queued := rfl
      omega)
    have own := judged.screens c
    rw [judged.counts, Function.update_self] at own
    refine ⟨_, s.indexLow, s.indexHigh, congrArg Host.Outcome.next done, congrArg (·.field) own, congrArg (·.config) own,
      congrArg (·.seq) own, fun d other => ?_, congrArg (· ++ _) judged.urgent, ?_, ?_⟩
    · have same := judged.screens d
      rw [judged.counts, Function.update_of_ne other] at same
      exact same
    · have traffic := judged.traffic
      unfold State.sameButTraffic at traffic ⊢
      rw [traffic]
      rfl
    · have told : s.tells _ _ := judged.told (Nat.le_of_succ_le room)
      have flagged := congrFun judged.counts c
      rw [Function.update_self] at flagged
      refine State.tells.of_same (t := (s.countTaken.modField c fun f => f.setTo count tall).judgeFlags c) ?_ rfl rfl
      have moved : s.fieldTold ((s.countTaken.modField c fun f => f.setTo count tall).judgeFlags c) c = _ :=
        State.fieldTold_eq s _ c
      rw [flagged] at moved
      exact (congrArg (s.tells _) moved).mpr told

/-- Settles O53: a beat, a pass timer and a silence timer, each with the counts it changes and the events it tells. -/
theorem laneBeatAndTimers : Obligations.LaneBeatAndTimers := by
  refine ⟨fun s source => ⟨fun stranger => congrArg Host.Outcome.next (State.cellSeen_stranger stranger), fun l from_ =>
    congrArg Host.Outcome.next (State.cellSeen_lane from_)⟩, ?_⟩
  intro s l lane unpended
  refine ⟨fun idle => congrArg Host.Outcome.next (State.passExpires_none idle), fun p pending => ?_,
    fun stopped => congrArg Host.Outcome.next (State.silenceExpires_none stopped), fun runs idle => ?_,
    fun p runs pending => ?_⟩
  · have passed := State.passExpires_recounted pending
    have own := passed.field p.screen
    have told := passed.fieldTold (c := p.screen) (by rw [Function.update_self]; rfl)
    rw [Function.update_self] at own told
    refine ⟨_, rfl, passed.gate, own, passed.seq _, fun d other => passed.other (Function.update_of_ne other _ _),
      passed.sameTraffic, fun room => ?_⟩
    rw [told]
    exact passed.told room.queued
  · have silent := State.silenceExpires_idle runs idle
    have own := silent.field lane.home
    rw [Function.update_self] at own
    exact ⟨_, rfl, silent.gate, own, silent.seq _, fun d other => silent.other (Function.update_of_ne other _ _),
      silent.sameTraffic, fun room => silent.told room.queued⟩
  · by_cases same : p.screen = lane.home
    · have silent := State.silenceExpires_home runs pending same
      have own := silent.field p.screen
      have told := silent.fieldTold (c := p.screen) (by rw [Function.update_self]; rfl)
      rw [Function.update_self] at own told
      refine ⟨_, rfl, silent.gate, own, fun apart => absurd same apart, fun d => ⟨silent.seq d, fun other _ =>
        silent.other (Function.update_of_ne other _ _)⟩, silent.sameTraffic, fun room => ?_⟩
      rw [told, if_pos same, List.append_nil, ← same]
      exact silent.told room.queued
    · have silent := State.silenceExpires_away runs pending same
      have own := silent.field p.screen
      have told := silent.fieldTold (c := p.screen) (by rw [Function.update_self]; rfl)
      have home := silent.field lane.home
      rw [Function.update_self] at own told
      rw [Function.update_of_ne (Ne.symm same), Function.update_self] at home
      refine ⟨_, rfl, silent.gate, own, fun _ => home, fun d => ⟨silent.seq d, fun other away =>
        silent.other ((Function.update_of_ne other _ _).trans (Function.update_of_ne away _ _))⟩, silent.sameTraffic,
        fun room => ?_⟩
      rw [told, if_neg same]
      exact silent.told room.queued

end Sys2Proof.Proofs

/-! PROOFS. CANCEL_ORDER (R148, R149), refuting `CancelOrder`: the reply can push out a TICKET, and the notice of its
station preempts a playing call of the order. -/

namespace Sys2Proof.Machine

/-! ## A call of the cancelled order comes back from preemption -/

/-- The SENT ticket of order 1, and a ticket of order 2 that waits for its place at the same station. -/
def crowdedTicket (order : Nat) (state : TicketState) : Ticket :=
  { order := order, kitchen := 0, lines := [], state := state, rush := false, returned := false, attempts := 0
    lateTimer := none }

def crowdedOrder : Order :=
  { number := 1, screen := none, origin := 0, placeTag := 0, state := .opened, rush := false, late := false, lines := []
    tickets := [0], callCount := 0, recallLeft := none, callActive := false }

/-- A call for an order 1: it plays on through the withdrawal of that order's calls (R109). -/
def playingCall : QueueEntry :=
  { origin := .orderCall, priority := 1, mode := .over, items := [.gap 1], order := some 1, next := 0, offset := 0, join := 0 }

/-- Fourteen NORMAL cells wait, so that the void of ticket 0 and the send of ticket 1 fill the transmit queue; STATION_ABSENT
(13) announces a phrase of priority 3 on output 1, where a call for an order 1 plays. -/
def crowded : State :=
  { State.reset with
    mgmt := { State.reset.mgmt with site := { State.reset.mgmt.site with console := 1 } }
    router :=
      { State.reset.router with
        orders := [crowdedOrder]
        tickets := (State.reset.router.tickets.set 0 (some (crowdedTicket 1 .sent))).set 1 (some (crowdedTicket 2 .backlog))
        kitchens := State.reset.router.kitchens.set 0
          { loopStation := 10, limit := 1, state := .present, sent := 1, backlog := [1] } }
    ann :=
      { State.reset.ann with
        phrases := State.reset.ann.phrases.set 0 [.gap 1]
        events := State.reset.ann.events.set 13 { phrase := some 0, mask := 1, priority := 3 }
        queues := State.reset.ann.queues.set 0 { playing := some playingCall } }
    cell := { State.reset.cell with normal := List.replicate 14 { kind := .notice, dest := 1, payload := [] } } }

/-- A waiting call of an order stands in an output's queue. -/
def State.callWaits (s : State) (number : Nat) (o : OutputId) : Bool := s.ann.queues[o].waiting.any (·.calls number)

theorem State.callWaits_iff (s : State) (number : Nat) (o : OutputId) :
    s.callWaits number o = true ↔ ∃ e ∈ s.ann.queues[o].waiting, e.order = some number := by
  simp only [State.callWaits, List.any_eq_true, QueueEntry.calls, beq_iff_eq]

theorem crowded_readyFor : crowded.readyFor 1 ⟨1, 0⟩ :=
  ⟨by decide +kernel, by decide +kernel, ⟨by decide +kernel, by decide +kernel⟩, by unfold State.hasRoom; decide +kernel⟩

/-- R41, R140, R105: the void and the TICKET of ticket 1 fill the queue, the reply takes the TICKET's place, its resends are
dropped at the full queue, and STATION_ABSENT's announcement preempts the playing call. -/
theorem crowded_callWaits : (crowded.takeCommand ⟨1, 0⟩ (.cancelOrder 1)).callWaits 1 0 = true := by
  decide +kernel

end Sys2Proof.Machine

namespace Sys2Proof.Proofs
open Machine

/-- Refutes O44: the reply of a CANCEL_ORDER can push out a TICKET that its dispatch has just sent; the station turns ABSENT,
and an announcement of priority 3 for it returns a playing call of the order's number among the waiting entries. -/
theorem not_cancelOrder : ¬ Obligations.CancelOrder := by
  intro h
  have cancels := (h crowded ⟨1, 0⟩ 1 crowded_readyFor).2 crowdedOrder (by decide +kernel)
  obtain ⟨t, cancelled, -, -, uncalled, -⟩ := cancels
  have seen : crowded.cellSeen 1 = crowded := State.cellSeen_stranger crowded_readyFor.stranger
  have next : (crowded.cellSeen 1).takeCommand ⟨1, 0⟩ (.cancelOrder 1) = t := Host.Outcome.next.inj cancelled
  rw [seen] at next
  obtain ⟨e, waits, calls⟩ := (State.callWaits_iff _ 1 0).1 crowded_callWaits
  rw [next] at waits
  exact uncalled 0 e waits calls

end Sys2Proof.Proofs

/-! PROOFS. The calls of an order and its ORDER_STATE to the board (R102, R107, R109, R142, R146). -/

namespace Sys2Proof.Machine

/-! ## ORDER_STATE to the board (R146) -/

/-- R146, 09 section 9.7: the ORDER_STATE of an order. -/
def State.boardCell (s : State) (o : Order) (b : BoardState) : OwnCell :=
  { kind := .orderState, dest := s.mgmt.site.board
    payload := le16 o.number ++ le8 (screenNumber o.screen) ++ le8 b.code ++ le8 o.callCount ++ flagByte o.late }

theorem State.tellBoard_none {s : State} (none : s.mgmt.site.board = 0) (o : Order) (b : BoardState) : s.tellBoard o b = s :=
  if_pos none

theorem State.tellBoard_room {s : State} (board : s.mgmt.site.board ≠ 0) (room : s.cell.queued < 16) (o : Order)
    (b : BoardState) :
    s.tellBoard o b = { s with cell := { s.cell with normal := s.cell.normal ++ [s.boardCell o b] } } := by
  have queued : s.handNormal (s.boardCell o b) = _ := State.handNormal_room room rfl
  unfold State.boardCell at queued
  unfold State.tellBoard State.boardCell
  simp only [if_neg board, queued]

/-- R146: what an ORDER_STATE may change. -/
theorem State.tellBoard_rest (s : State) (o : Order) (b : BoardState) :
    s.tellBoard o b =
      { s with
        cell := (s.tellBoard o b).cell
        router := { s.router with boardDropped := (s.tellBoard o b).router.boardDropped } } := by
  unfold State.tellBoard
  split
  · rfl
  · split
    · next t queued =>
      obtain ⟨rfl, -⟩ := Prod.mk.inj queued
      rfl
    · next t dropped =>
      obtain ⟨rfl, -⟩ := Prod.mk.inj dropped
      rfl

/-! ## Calls (R102, R107, R109, R142) -/

/-- R102: the request of an order's call, dealt with for its outputs; the call is counted. -/
def State.askedCall (s : State) (o : Order) : State :=
  (s.modOrder o.number fun v => { v with callCount := v.callCount + 1 }).request
    (s.callRequest o.number (s.callMask o.screen))

/-- R142: order `o` called, up to its ORDER_STATE. -/
def State.recalled (s : State) (o : Order) : State :=
  ((s.modOrder o.number fun v => { v with callCount := v.callCount + 1 }).reportActivity (s.askedCall o)).modOrder o.number
    fun v => { v with recallLeft := some (s.askedCall o).mgmt.site.recallInterval
                      callActive := (s.askedCall o).callActive o.number }

theorem State.callOrder_eq (s : State) (o : Order) :
    s.callOrder o = (s.recalled o).tellBoard { o with callCount := o.callCount + 1 } .ready := rfl

theorem State.askedCall_rest (s : State) (o : Order) :
    s.askedCall o =
      { s with
        ann := (s.askedCall o).ann, screens := (s.askedCall o).screens
        router := { s.router with orders := (s.askedCall o).router.orders } } :=
  (State.request_announced (s.modOrder o.number fun v => { v with callCount := v.callCount + 1 })
    (s.callRequest o.number (s.callMask o.screen))).rest

theorem State.recalled_rest (s : State) (o : Order) :
    s.recalled o =
      { s with
        ann := (s.askedCall o).ann, screens := (s.askedCall o).screens
        router := { s.router with orders := (s.recalled o).router.orders } } := by
  have whole : s.recalled o =
    { s.askedCall o with router := { (s.askedCall o).router with orders := (s.recalled o).router.orders } } := rfl
  rw [whole, s.askedCall_rest o]

/-- R142: what a call may change. -/
theorem State.callOrder_rest (s : State) (o : Order) :
    s.callOrder o =
      { s with
        ann := (s.askedCall o).ann, screens := (s.askedCall o).screens, cell := (s.callOrder o).cell
        router :=
          { s.router with
            orders := (s.recalled o).router.orders, boardDropped := (s.callOrder o).router.boardDropped } } := by
  have told := (s.recalled o).tellBoard_rest { o with callCount := o.callCount + 1 } .ready
  rw [← State.callOrder_eq, s.recalled_rest o] at told
  exact told

/-- R142: what a call makes of its order. -/
theorem State.callOrder_order {s : State} {n : Nat} {v o : Order} (found : s.order? n = some v) (number : o.number = n) :
    (s.callOrder o).order? n =
      some { v with callCount := v.callCount + 1, recallLeft := some s.mgmt.site.recallInterval
                    callActive := (s.askedCall o).callActive n } := by
  let counted := s.modOrder o.number fun v => { v with callCount := v.callCount + 1 }
  let reported := counted.reportActivity (s.askedCall o)
  have same : v.number = o.number := (State.order?_number found).trans number.symm
  have site : (s.askedCall o).mgmt = s.mgmt := by rw [s.askedCall_rest o]
  have orders : (s.askedCall o).router.orders = counted.router.orders := by
    rw [State.askedCall, State.request_router]
  have first : counted.order? n = (s.order? n).map _ := State.order?_map rfl (fun w => by split <;> rfl) n
  have second : reported.order? n = (counted.order? n).map _ :=
    State.order?_map (by rw [← orders]; exact State.reportActivity_orders counted (s.askedCall o))
      (Order.reported_number counted (s.askedCall o)) n
  have third : (s.recalled o).order? n = (reported.order? n).map _ := State.order?_map rfl (fun w => by split <;> rfl) n
  have last : (s.callOrder o).order? n = (s.recalled o).order? n := by
    unfold State.order?
    rw [s.callOrder_rest o]
  rw [last, third, second, first, found, Option.map_some, Option.map_some, Option.map_some, if_pos same, if_pos, site]
  · unfold Order.reported
    split <;> rw [number]
  · exact (Order.reported_number _ _ _).trans same

/-! ## The outputs of a call (R102, R142) -/

theorem State.callMask_walkUp (s : State) : (allOutputs.filter fun i => (s.callMask none).getLsbD i.val) = [4] := by
  have mask : s.callMask none = 16 := rfl
  rw [mask]
  decide

theorem State.callMask_screen (s : State) (c : ScreenId) :
    (allOutputs.filter fun i => (s.callMask (some c)).getLsbD i.val) =
      if s.mgmt.site.paCall = true then [outputOf c, 4] else [outputOf c] := by
  unfold State.callMask
  revert c
  cases s.mgmt.site.paCall <;> decide

/-- R102: a call stands on an output whose queue is empty by being held. -/
theorem State.callStands_screen {s : State} {c : ScreenId} (empty : s.ann.queues[outputOf c].empty) (n : Nat) :
    s.callStands (outputOf c) n = s.screens[c].heldCalls.contains n := by
  obtain ⟨idle, alone⟩ := empty
  simp only [State.callStands, AnnQueue.entries, idle, alone, Option.toList_none, List.append_nil, List.any_nil,
    screenOf_outputOf, Bool.false_or]

theorem State.callStands_pa {s : State} (empty : s.ann.queues[(4 : OutputId)].empty) (n : Nat) :
    s.callStands 4 n = false := by
  obtain ⟨idle, alone⟩ := empty
  have walkUp : screenOf 4 = none := by decide
  simp only [State.callStands, AnnQueue.entries, idle, alone, Option.toList_none, List.append_nil, List.any_nil, walkUp,
    Bool.or_self]

/-- R101, R103: the call of an order, of one READY clip, placed in an empty queue. -/
theorem State.renderAndPlace_call {s : State} {k : ClipId} {o : OutputId} (n : Nat) (mask : BitVec 5)
    (part : s.ann.phrases[s.mgmt.site.callPhrase] = [.clip k]) (ready : s.ann.clips[k].state = .ready)
    (room : s.ann.clips[k].uses < 255) (empty : s.ann.queues[o].empty) :
    s.renderAndPlace (s.callRequest n mask) o = { s with ann := s.ann.withCall k n o } := by
  obtain ⟨idle, alone⟩ := empty
  have yields : (s.ann.used k).queues[o].preempts ((s.callRequest n mask).entry [.clip k]) = false :=
    AnnQueue.preempts_false fun p playing => absurd (idle.symm.trans playing) nofun
  rw [State.renderAndPlace_clip o part ready room, Composer.place_alone (a := s.ann.used k) _ alone idle yields]
  rfl

/-- R102: the PA takes the call of an order when its queue is empty. -/
theorem State.requestOne_pa {s : State} {k : ClipId} (n : Nat) (mask : BitVec 5)
    (part : s.ann.phrases[s.mgmt.site.callPhrase] = [.clip k]) (ready : s.ann.clips[k].state = .ready)
    (room : s.ann.clips[k].uses < 255) (empty : s.ann.queues[(4 : OutputId)].empty) :
    s.requestOne (s.callRequest n mask) 4 = { s with ann := s.ann.withCall k n 4 } := by
  have walkUp : screenOf 4 = none := by decide
  have fresh := State.callStands_pa empty n
  simp only [State.requestOne, State.callRequest, fresh, walkUp, Bool.false_eq_true, if_false]
  exact s.renderAndPlace_call n mask part ready room empty

/-- R102: a call that its screen holds is suppressed there. -/
theorem State.requestOne_held {s : State} {c : ScreenId} {n : Nat} (mask : BitVec 5)
    (empty : s.ann.queues[outputOf c].empty) (held : n ∈ s.screens[c].heldCalls) :
    s.requestOne (s.callRequest n mask) (outputOf c) =
      { s with ann := { s.ann with
          suppressed := s.ann.suppressed.set (outputOf c) (bump16 s.ann.suppressed[outputOf c]) } } := by
  have stands := (State.callStands_screen empty n).trans (List.contains_iff_mem.2 held)
  simp only [State.requestOne, State.callRequest, stands, if_true]
  rfl

/-- R107: a new call of a screen in a FEATURE that holds calls is held. -/
theorem State.requestOne_holds {s : State} {c : ScreenId} {n : Nat} (mask : BitVec 5)
    (empty : s.ann.queues[outputOf c].empty) (fresh : n ∉ s.screens[c].heldCalls) (holds : s.holdsCalls c = true) :
    s.requestOne (s.callRequest n mask) (outputOf c) = s.setHeldCalls c (s.screens[c].heldCalls ++ [n]) := by
  have stands : s.callStands (outputOf c) n = false := by
    rw [State.callStands_screen empty]
    simpa using fresh
  simp only [State.requestOne, State.callRequest, stands, screenOf_outputOf, holds, Bool.false_eq_true, if_false, if_true]

/-- R102: a new call of a screen that holds none is placed. -/
theorem State.requestOne_places {s : State} {c : ScreenId} {k : ClipId} {n : Nat} (mask : BitVec 5)
    (part : s.ann.phrases[s.mgmt.site.callPhrase] = [.clip k]) (ready : s.ann.clips[k].state = .ready)
    (room : s.ann.clips[k].uses < 255)
    (empty : s.ann.queues[outputOf c].empty) (fresh : n ∉ s.screens[c].heldCalls) (plays : s.holdsCalls c = false) :
    s.requestOne (s.callRequest n mask) (outputOf c) = { s with ann := s.ann.withCall k n (outputOf c) } := by
  have stands : s.callStands (outputOf c) n = false := by
    rw [State.callStands_screen empty]
    simpa using fresh
  simp only [State.requestOne, State.callRequest, stands, screenOf_outputOf, plays, Bool.false_eq_true, if_false]
  exact s.renderAndPlace_call n mask part ready room empty

/-! ## Calls that are active (R109) -/

theorem mem_allOutputs (o : OutputId) : o ∈ allOutputs := by
  revert o
  decide

theorem State.callActive_of_stands {s : State} {o : OutputId} {n : Nat} (stands : s.callStands o n = true) :
    s.callActive n = true :=
  List.any_eq_true.2 ⟨o, mem_allOutputs o, stands⟩

theorem State.callActive_placed {s : State} {a : Composer} {k : ClipId} {o : OutputId} {n : Nat}
    (placed : s.ann = a.withCall k n o) : s.callActive n = true := by
  refine State.callActive_of_stands (o := o) ?_
  unfold State.callStands
  rw [placed]
  simp [Composer.withCall, AnnQueue.entries, QueueEntry.calls]

theorem State.callActive_held {s : State} {c : ScreenId} {n : Nat} (held : n ∈ s.screens[c].heldCalls) :
    s.callActive n = true := by
  refine State.callActive_of_stands (o := outputOf c) ?_
  rw [State.callStands, screenOf_outputOf, Bool.or_eq_true]
  exact .inr (List.contains_iff_mem.2 held)

/-! ## The Composer takes an order's call (R102, R107, R109) -/

/-- R102: the call of a walk-up's order. -/
theorem State.request_walkUp {s : State} {k : ClipId} (n : Nat)
    (part : s.ann.phrases[s.mgmt.site.callPhrase] = [.clip k]) (ready : s.ann.clips[k].state = .ready)
    (room : s.ann.clips[k].uses < 255) (empty : s.ann.queues[(4 : OutputId)].empty) :
    s.request (s.callRequest n (s.callMask none)) = { s with ann := s.ann.withCall k n 4 } := by
  rw [s.request_mask _ s.callMask_walkUp]
  exact s.requestOne_pa n _ part ready room empty

/-- R142: the call of a screen's order, dealt with for its output; the PA has it too where the PA-call flag is on. -/
theorem State.request_screen {s first : State} {c : ScreenId} {k : ClipId} {n : Nat}
    (one : s.requestOne (s.callRequest n (s.callMask (some c))) (outputOf c) = first) (site : first.mgmt = s.mgmt)
    (part : first.ann.phrases[first.mgmt.site.callPhrase] = [.clip k]) (ready : first.ann.clips[k].state = .ready)
    (room : first.ann.clips[k].uses < 255)
    (empty : s.mgmt.site.paCall = true → first.ann.queues[(4 : OutputId)].empty) :
    s.request (s.callRequest n (s.callMask (some c))) =
      { first with ann := if s.mgmt.site.paCall = true then first.ann.withCall k n 4 else first.ann } := by
  rw [s.request_mask _ (s.callMask_screen c)]
  split
  · next called =>
    have request (mask : BitVec 5) : s.callRequest n mask = first.callRequest n mask := by
      unfold State.callRequest
      rw [site]
    rw [List.foldl_cons, one, List.foldl_cons, List.foldl_nil, request]
    exact first.requestOne_pa n _ part ready room (empty called)
  · rw [List.foldl_cons, one, List.foldl_nil]

/-- The clip of a call with one more use. -/
theorem Composer.withCall_clip (a : Composer) (k : ClipId) (n : Nat) (o : OutputId) :
    (a.withCall k n o).clips[k] = { a.clips[k] with uses := a.clips[k].uses + 1 } := by
  simp [Composer.withCall]

/-- The PA's queue beside a call on a screen's output. -/
theorem Composer.withCall_pa (a : Composer) (k : ClipId) (n : Nat) (c : ScreenId) :
    (a.withCall k n (outputOf c)).queues[(4 : OutputId)] = a.queues[(4 : OutputId)] := by
  have ne : (outputOf c).val ≠ 4 := fun e => outputOf_ne_pa c (Fin.ext e)
  simp [Composer.withCall, ne]

/-- R102, R107, R109, R142: the request of an order's call, taken. -/
theorem State.request_called (s : State) (o : Order) :
    s.called (s.request (s.callRequest o.number (s.callMask o.screen))) o
      ((s.request (s.callRequest o.number (s.callMask o.screen))).callActive o.number) := by
  intro k part ready room
  have place : s.ann.clips[k].uses < 255 := by omega
  refine ⟨fun walkUp empty => ?_, fun c screen empty pa => ?_⟩
  · rw [walkUp, State.request_walkUp o.number part ready place empty]
    exact ⟨State.callActive_placed rfl, rfl, rfl⟩
  · intro v withPa holds
    rw [screen]
    by_cases held : o.number ∈ v.heldCalls
    · have taken := State.request_screen (State.requestOne_held _ empty held) rfl part ready place pa
      rw [taken]
      exact ⟨State.callActive_held held, fun _ => ⟨rfl, rfl⟩, absurd held, absurd held⟩
    by_cases silent : holds
    · have quiet : s.holdsCalls c = true := by
        rw [State.holdsCalls, decide_eq_true silent.1, decide_eq_true silent.2, Bool.and_self]
      have taken := State.request_screen (State.requestOne_holds _ empty held quiet) rfl part ready place pa
      rw [taken]
      have own := s.modScreen_self c fun x => { x with heldCalls := v.heldCalls ++ [o.number] }
      have joined : o.number ∈ (s.setHeldCalls c (v.heldCalls ++ [o.number])).screens[c].heldCalls := by
        rw [State.setHeldCalls, own]
        exact List.mem_append_right _ (List.mem_singleton_self _)
      exact ⟨State.callActive_held joined, fun h => absurd h held, fun _ _ => ⟨rfl, rfl⟩, fun _ h => absurd silent h⟩
    · have plays : s.holdsCalls c = false := by
        rw [State.holdsCalls, Bool.and_eq_false_iff, decide_eq_false_iff_not, decide_eq_false_iff_not]
        exact not_and_or.1 silent
      have clip := s.ann.withCall_clip k o.number (outputOf c)
      have taken := State.request_screen (State.requestOne_places _ part ready place empty held plays) rfl part
        (by rw [clip]; exact ready) (by rw [clip]; exact Nat.succ_lt_succ room) fun called => by
          rw [Composer.withCall_pa]
          exact pa called
      rw [taken]
      refine ⟨?_, fun h => absurd h held, fun _ h => absurd h silent, fun _ _ => ⟨rfl, rfl⟩⟩
      by_cases called : s.mgmt.site.paCall = true
      · exact State.callActive_placed (if_pos called)
      · exact State.callActive_placed (if_neg called)

/-- R142: a call as the Composer takes it. -/
theorem State.callOrder_called (s : State) (o : Order) :
    s.called (s.callOrder o) o ((s.askedCall o).callActive o.number) := by
  have asked : s.called (s.askedCall o) o ((s.askedCall o).callActive o.number) :=
    (s.modOrder o.number fun v => { v with callCount := v.callCount + 1 }).request_called o
  rw [s.callOrder_rest o]
  exact asked

/-- R142: a call moves no screen's show and changes no field. -/
theorem State.callOrder_screens (s : State) (o : Order) (c : ScreenId) :
    (s.callOrder o).screens[c] = { s.screens[c] with heldCalls := (s.callOrder o).screens[c].heldCalls } := by
  have kept : Kept _ (s.askedCall o) :=
    (State.request_announced (s.modOrder o.number fun v => { v with callCount := v.callCount + 1 })
      (s.callRequest o.number (s.callMask o.screen))).kept
  have screens : (s.callOrder o).screens = (s.askedCall o).screens := by rw [s.callOrder_rest o]
  rw [screens]
  exact kept.screens c

/-- R146: a call told to no board. -/
theorem State.callOrder_unboarded {s : State} (none : s.mgmt.site.board = 0) (o : Order) : (s.callOrder o).cell = s.cell := by
  have site : (s.recalled o).mgmt = s.mgmt := by rw [s.recalled_rest o]
  rw [State.callOrder_eq, State.tellBoard_none (by rw [site]; exact none), s.recalled_rest o]

/-- R146: a call told to the board. -/
theorem State.callOrder_boarded {s : State} (board : s.mgmt.site.board ≠ 0) (room : s.cell.queued < 16) (o : Order) :
    (s.callOrder o).cell.normal = s.cell.normal ++ [s.boardCell { o with callCount := o.callCount + 1 } .ready] := by
  have site : (s.recalled o).mgmt = s.mgmt := by rw [s.recalled_rest o]
  have cell : (s.recalled o).cell = s.cell := by rw [s.recalled_rest o]
  rw [State.callOrder_eq, State.tellBoard_room (by rw [site]; exact board) (by rw [cell]; exact room), cell]
  unfold State.boardCell
  rw [site]

end Sys2Proof.Machine

/-! PROOFS. Dispatch and bumps (R133, R138, R139, R141), settling `BeatAndBump`. -/

namespace Sys2Proof.Machine

/-! ## Dispatch (R138) -/

theorem Kitchen.dispatches_iff (v : Kitchen) : v.dispatches = true ↔ v.state = .present ∧ v.sent < v.limit := by
  rw [Kitchen.dispatches, Bool.and_eq_true, decide_eq_true_eq, decide_eq_true_eq]

theorem State.dispatchUpTo_none {s : State} {k : KitchenId} (h : s.sendsNone k) (n : Nat) : State.dispatchUpTo k n s = s := by
  cases n with
  | zero => rfl
  | succ n =>
    unfold State.dispatchUpTo
    split
    · rfl
    · next x rest waits =>
      refine if_neg fun dispatches => ?_
      obtain ⟨present, free⟩ := (Kitchen.dispatches_iff _).1 dispatches
      rcases h with empty | away | full
      · rw [waits] at empty
        cases empty
      · exact away present
      · exact absurd free (Nat.not_lt.2 full)

theorem State.dispatch_none {s : State} {k : KitchenId} (h : s.sendsNone k) : s.dispatch k = s := State.dispatchUpTo_none h _

/-- R138, R139: the head of a backlog sent, its TICKET queued. -/
theorem State.sendHead_room {s : State} {k : KitchenId} {x : TicketId} {v : Ticket} {rest : List TicketId}
    (waits : s.router.kitchens[k].backlog = x :: rest) (ticket : s.router.tickets[x] = some v) (here : v.kitchen = k)
    (room : s.cell.queued < 16) : s.sendHead k x rest = s.withSent k x v := by
  subst here
  obtain rfl : rest = s.router.kitchens[v.kitchen].backlog.tail := by rw [waits, List.tail_cons]
  let sent : Ticket :=
    { v with state := .sent, attempts := 0, returned := false, lateTimer := some s.router.kitchens[v.kitchen].lateLimit }
  let s' := (s.setTicket x (some sent)).modKitchen v.kitchen fun st =>
    { st with backlog := s.router.kitchens[v.kitchen].backlog.tail, sent := st.sent + 1 }
  let raised := s'.modRouter fun r => { r with serials := r.serials.set x (r.serials[x] + 1) }
  have station : raised.router.kitchens[v.kitchen].loopStation = s.router.kitchens[v.kitchen].loopStation := by
    simp [raised, s', State.modKitchen, State.modRouter, State.setTicket]
  have serial : raised.router.serials[x] = s.router.serials[x] + 1 := by
    simp [raised, s', State.modKitchen, State.modRouter, State.setTicket]
  have cell : raised.ticketCell x sent = s.nextTicket v.kitchen x v := by
    unfold State.ticketCell State.nextTicket
    rw [station, serial]
    rfl
  have handed : s'.handTicket x sent = (s.withSent v.kitchen x v, .queued) := by
    have queued : raised.handNormal (raised.ticketCell x sent) = _ := State.handNormal_room room rfl
    rw [State.handTicket, queued, cell]
    rfl
  simp only [State.sendHead, ticket]
  split
  · next t queued => exact congrArg Prod.fst (queued.symm.trans handed)
  · next t dropped => exact absurd (congrArg Prod.snd (dropped.symm.trans handed)) nofun

theorem State.withSent_sendsNone {s : State} {k : KitchenId} {x : TicketId} {v : Ticket} (h : s.sendsOne k x v) :
    (s.withSent k x v).sendsNone k := by
  obtain ⟨rest, waits, last⟩ := h.backlog
  have station : (s.withSent k x v).router.kitchens[k] =
      { s.router.kitchens[k] with sent := s.router.kitchens[k].sent + 1, backlog := s.router.kitchens[k].backlog.tail } := by
    simp [State.withSent]
  rw [State.sendsNone, station, waits]
  exact last.imp_right .inr

/-- R138: a dispatch that sends one ticket. -/
theorem State.dispatch_one {s : State} {k : KitchenId} {x : TicketId} {v : Ticket} (h : s.sendsOne k x v)
    (room : s.cell.queued < 16) : s.dispatch k = s.withSent k x v := by
  obtain ⟨rest, waits, -⟩ := h.backlog
  have goes := (Kitchen.dispatches_iff _).2 ⟨h.present, h.room⟩
  rw [State.dispatch, waits, List.length_cons, State.dispatchUpTo]
  simp only [waits, goes, if_true]
  rw [State.sendHead_room waits h.ticket h.kitchen room, State.dispatchUpTo_none (State.withSent_sendsNone h)]

/-! ## Bumps (R141) -/

/-- R141: ticket `x` is SENT at station `k`. -/
def State.sentAt (s : State) (k : KitchenId) (x : TicketId) : Prop :=
  ∃ v, s.router.tickets[x] = some v ∧ v.kitchen = k ∧ v.state = .sent

theorem State.sentTicket_none {s : State} {o : Order} {k : KitchenId} (away : ∀ x ∈ o.tickets, ¬ s.sentAt k x) :
    s.sentTicket o k = none := by
  refine List.find?_eq_none.2 fun x member sent => away x member ?_
  revert sent
  split
  · next v found =>
    rw [Bool.and_eq_true, decide_eq_true_eq, decide_eq_true_eq]
    exact fun ⟨here, sent⟩ => ⟨v, found, here, sent⟩
  · nofun

theorem State.sentTicket_first {s : State} {o : Order} {k : KitchenId} {x : TicketId} {ahead behind : List TicketId}
    (tickets : o.tickets = ahead ++ x :: behind) (others : ∀ y ∈ ahead, ¬ s.sentAt k y) (sent : s.sentAt k x) :
    s.sentTicket o k = some x := by
  obtain ⟨v, found, here, state⟩ := sent
  refine List.find?_eq_some_iff_append.2 ⟨?_, ahead, behind, tickets, fun y member => ?_⟩
  · rw [found]
    simp only [here, state, decide_true, Bool.and_self]
  · have none := List.find?_eq_none.1 (State.sentTicket_none (o := { o with tickets := ahead }) others) y member
    exact Bool.not_eq_true' _ ▸ (Bool.not_eq_true _ ▸ none)

theorem State.allBumped_iff (s : State) (o : Order) :
    s.allBumped o = true ↔ o.tickets ≠ [] ∧ ∀ x ∈ o.tickets, ∃ v, s.ticket x = some v ∧ v.state = .bumped := by
  rw [State.allBumped, Bool.and_eq_true, Bool.not_eq_true', List.isEmpty_eq_false_iff, List.all_eq_true]
  refine and_congr_right fun _ => forall₂_congr fun x _ => ?_
  unfold State.ticket
  cases s.router.tickets[x] with
  | none => exact ⟨nofun, nofun⟩
  | some v => simp

theorem fromOne_kitchen (k : KitchenId) : fromOne 8 (BitVec.ofNat 8 (k.val + 1) : Byte).toNat = some k := by
  revert k
  decide

theorem State.fromKitchen.own {s : State} {source : Byte} {k : KitchenId} (h : s.fromKitchen source k) :
    s.router.kitchens[k].loopStation ≠ 0 ∧ s.router.kitchens[k].loopStation = source.toNat := by
  have used : source.toNat ≠ 0 := fun zero => h.used (BitVec.eq_of_toNat_eq zero)
  exact ⟨fun zero => used (h.kitchen.symm.trans zero), h.kitchen⟩

/-- R141: a BUMP of a sender that is no kitchen station. -/
theorem State.takeBump_stranger {s : State} {source : Byte} (h : s.stranger source) (number : Half) (kitchen : Byte) :
    s.takeBump source number kitchen = s.modRouter fun r => { r with unmatchedBumps := bump16 r.unmatchedBumps } := by
  unfold State.takeBump
  split
  · rfl
  · next k _ => exact if_neg fun own => h.noKitchen k own.2

/-- R141: a BUMP of a station that has no SENT ticket of the order. -/
theorem State.takeBump_stray {s : State} {source : Byte} {k : KitchenId} {number : Half} (h : s.fromKitchen source k)
    (away : ∀ o, s.order? number.toNat = some o → ∀ x ∈ o.tickets, ¬ s.sentAt k x) :
    s.takeBump source number (BitVec.ofNat 8 (k.val + 1)) =
      s.modRouter fun r => { r with strayBumps := bump16 r.strayBumps } := by
  simp only [State.takeBump, fromOne_kitchen, if_pos h.own]
  cases found : s.order? number.toNat with
  | none => rfl
  | some o => simp only [State.sentTicket_none (away o found)]

/-- R141: a BUMP of a station for its SENT ticket. -/
theorem State.takeBump_ticket {s : State} {source : Byte} {k : KitchenId} {number : Half} {o : Order} {x : TicketId}
    (h : s.fromKitchen source k) (found : s.order? number.toNat = some o) (sent : s.sentTicket o k = some x) :
    s.takeBump source number (BitVec.ofNat 8 (k.val + 1)) = s.bumpTicket o k x := by
  simp only [State.takeBump, fromOne_kitchen, if_pos h.own, found, sent]

/-- R141: a bump up to its dispatch. -/
def State.bumped (s : State) (k : KitchenId) (x : TicketId) : State :=
  (s.modTicket x fun v => { v with state := .bumped, lateTimer := none }).modKitchen k fun st => { st with sent := st.sent - 1 }

/-- R138: the dispatch of a station sends nothing, or the head of its backlog, which is none of the tickets `l`. -/
def State.sendsTo (s next : State) (k : KitchenId) (l : List TicketId) : Prop :=
  (s.sendsNone k ∧ next = s) ∨ ∃ y w, s.sendsOne k y w ∧ y ∉ l ∧ s.hasRoom 1 ∧ next = s.withSent k y w

theorem State.sendsTo.dispatch {s next : State} {k : KitchenId} {l : List TicketId} (h : s.sendsTo next k l) :
    s.dispatch k = next := by
  rcases h with ⟨nothing, rfl⟩ | ⟨y, w, one, -, room, rfl⟩
  · exact State.dispatch_none nothing
  · exact State.dispatch_one one room

theorem State.sendsTo.ticket {s next : State} {k : KitchenId} {l : List TicketId} (h : s.sendsTo next k l) {y : TicketId}
    (member : y ∈ l) : next.ticket y = s.ticket y := by
  rcases h with ⟨-, rfl⟩ | ⟨z, w, -, other, -, rfl⟩
  · rfl
  · have ne : z.val ≠ y.val := fun e => other (Fin.ext e ▸ member)
    simp [State.ticket, State.withSent, ne]

/-- What a dispatch of one ticket at most leaves. -/
theorem State.sendsTo.rest {s next : State} {k : KitchenId} {l : List TicketId} (h : s.sendsTo next k l) :
    next = { s with
      router :=
        { s.router with
          kitchens := next.router.kitchens, tickets := next.router.tickets, serials := next.router.serials }
      cell := { s.cell with normal := next.cell.normal } } := by
  rcases h with ⟨-, rfl⟩ | ⟨z, w, -, -, -, rfl⟩ <;> rfl

/-- R141: a bump whose order has a ticket that is not BUMPED. -/
theorem State.bumpTicket_open {s next : State} {o : Order} {k : KitchenId} {x : TicketId}
    (goes : (s.bumped k x).sendsTo next k o.tickets) (waits : next.allBumped o = false) : s.bumpTicket o k x = next := by
  have bumped : (s.bumped k x).dispatch k = next := goes.dispatch
  unfold State.bumped at bumped
  simp only [State.bumpTicket, bumped, waits, Bool.false_eq_true, if_false]

/-- R141, R142: a bump of an order's last ticket. -/
theorem State.bumpTicket_ready {s next : State} {o : Order} {k : KitchenId} {x : TicketId}
    (goes : (s.bumped k x).sendsTo next k o.tickets) (all : next.allBumped o = true) :
    s.bumpTicket o k x = (next.modOrder o.number fun v => { v with state := .ready }).callOrder o := by
  have bumped : (s.bumped k x).dispatch k = next := goes.dispatch
  unfold State.bumped at bumped
  simp only [State.bumpTicket, bumped, all, if_true]

/-- R141: with the SENT ticket `x` bumped, an order's tickets are all BUMPED when the others are. -/
theorem State.bumped_all {s next : State} {o : Order} {k : KitchenId} {x : TicketId} {v : Ticket}
    {ahead behind : List TicketId} (tickets : o.tickets = ahead ++ x :: behind) (found : s.ticket x = some v)
    (single : x ∉ ahead ++ behind) (goes : (s.bumped k x).sendsTo next k o.tickets) :
    next.allBumped o = true ↔ ∀ y ∈ ahead ++ behind, ∃ w, s.ticket y = some w ∧ w.state = .bumped := by
  have members (y : TicketId) : y ∈ o.tickets ↔ y = x ∨ y ∈ ahead ++ behind := by
    rw [tickets]
    simp only [List.mem_append, List.mem_cons]
    tauto
  have own : next.ticket x = some { v with state := .bumped, lateTimer := none } := by
    rw [goes.ticket ((members x).2 (.inl rfl))]
    have set := s.modTicket_self x fun v => { v with state := .bumped, lateTimer := none }
    rw [found] at set
    exact set
  have other {y : TicketId} (hy : y ∈ ahead ++ behind) : next.ticket y = s.ticket y := by
    rw [goes.ticket ((members y).2 (.inr hy))]
    exact s.modTicket_other x _ fun e => single (e ▸ hy)
  rw [State.allBumped_iff]
  constructor
  · intro ⟨_, all⟩ y hy
    rw [← other hy]
    exact all y ((members y).2 (.inr hy))
  · intro rest
    refine ⟨List.ne_nil_of_mem ((members x).2 (.inl rfl)), fun y hy => ?_⟩
    rcases (members y).1 hy with rfl | hy
    · exact ⟨_, own, rfl⟩
    · rw [other hy]
      exact rest y hy

/-- R142: an order that becomes READY is called. -/
theorem State.readyCall_order {s : State} {n : Nat} {o : Order} (found : s.order? n = some o) :
    ((s.modOrder o.number fun v => { v with state := .ready }).callOrder o).order? n =
      some { o with
        state := .ready, callCount := o.callCount + 1, recallLeft := some s.mgmt.site.recallInterval
        callActive := ((s.modOrder o.number fun v => { v with state := .ready }).askedCall o).callActive o.number } := by
  have number := State.order?_number found
  have ready : (s.modOrder o.number fun v => { v with state := .ready }).order? n = (s.order? n).map _ :=
    State.order?_map rfl (fun w => by split <;> rfl) n
  rw [found, Option.map_some, if_pos rfl] at ready
  have called := State.callOrder_order ready number
  rw [number]
  rw [number] at called
  exact called

end Sys2Proof.Machine

namespace Sys2Proof.Proofs
open Machine

/-- Settles O55: what a station is sent when it comes back and when it bumps, and the call of a finished order. -/
theorem beatAndBump : Obligations.BeatAndBump := by
  refine ⟨fun s source => ⟨fun stranger => congrArg Host.Outcome.next (State.cellSeen_stranger stranger), fun k own => ?_⟩,
    fun s source kitchen number stranger => ?_, fun s source number k own present => ?_⟩
  · have seen := State.cellSeen_kitchen own
    refine ⟨fun present => ?_, fun away nothing => ?_, fun x v away => ?_⟩
    · rw [if_pos present] at seen
      exact congrArg Host.Outcome.next seen
    · have idle : (s.modKitchen k fun st => { st with state := .present }).sendsNone k := by
        unfold State.sendsNone
        simpa [State.modKitchen, State.modRouter] using nothing
      rw [if_neg away, State.dispatch_none idle] at seen
      exact congrArg Host.Outcome.next seen
    · intro back one room
      rw [if_neg away, State.dispatch_one one room] at seen
      exact congrArg Host.Outcome.next seen
  · have seen := congrArg (State.takeBump · source number kitchen) (State.cellSeen_stranger stranger)
    exact congrArg Host.Outcome.next (seen.trans (State.takeBump_stranger stranger number kitchen))
  · have seen := State.cellSeen_kitchen own
    rw [if_pos present] at seen
    have run {t : State} (h : s.takeBump source number (BitVec.ofNat 8 (k.val + 1)) = t) :
        exec (.bump source number (BitVec.ofNat 8 (k.val + 1))) s = .next t :=
      congrArg Host.Outcome.next ((congrArg (State.takeBump · source number _) seen).trans h)
    refine ⟨fun away => run (State.takeBump_stray own away), ?_⟩
    intro o x v ahead behind next found tickets others ticket here sent single bumped goes
    have step := State.takeBump_ticket own found (State.sentTicket_first tickets others ⟨v, ticket, here, sent⟩)
    have goes : (s.bumped k x).sendsTo next k o.tickets := goes
    have all := State.bumped_all tickets ticket single goes
    refine ⟨fun ⟨y, hy, waits⟩ => run (step.trans (State.bumpTicket_open goes ?_)), fun done => ?_⟩
    · refine Bool.eq_false_iff.2 fun finished => ?_
      obtain ⟨w, ticketOf, state⟩ := all.1 finished y hy
      exact waits w ticketOf state
    · let ready := next.modOrder o.number fun v => { v with state := .ready }
      have rest := ready.callOrder_rest o
      have kept := goes.rest
      have site : next.mgmt = s.mgmt := by rw [kept]; rfl
      have screens : next.screens = s.screens := by rw [kept]; rfl
      have orders : next.order? number.toNat = some o := by
        unfold State.order?
        rw [kept]
        exact found
      have order := State.readyCall_order orders
      rw [site] at order
      refine ⟨ready.callOrder o, _, run (step.trans (State.bumpTicket_ready goes (all.2 done))), order,
        ready.callOrder_called o, by rw [rest]; rfl, by rw [rest]; rfl, by rw [rest]; rfl, fun c => ?_, fun board room => ?_,
        fun unboarded => ?_⟩
      · have own := ready.callOrder_screens o c
        have same : ready.screens = s.screens := screens
        rw [own, same]
        exact ⟨rfl, rfl⟩
      · have told := State.callOrder_boarded (s := ready) (by rw [← site] at board; exact board) room o
        have board : ready.mgmt = s.mgmt := site
        rw [State.boardCell, board] at told
        exact told
      · exact State.callOrder_unboarded (s := ready) (by rw [← site] at unboarded; exact unboarded) o

end Sys2Proof.Proofs

/-! PROOFS. Recall countdowns, late tickets, pickups and what they withdraw (R109, R134, R143 to R147), settling
`RecallLatePickup`. -/

namespace Sys2Proof.Machine

/-! ## Orders freed (R134) -/

theorem State.freeOrder_rest (s : State) (o : Order) :
    s.freeOrder o =
      { s with router :=
          { s.router with orders := (s.freeOrder o).router.orders, tickets := (s.freeOrder o).router.tickets } } := by
  have freed (l : List TicketId) (t : State) : l.foldl (fun s x => s.setTicket x none) t =
      { t with router := { t.router with tickets := (l.foldl (fun s x => s.setTicket x none) t).router.tickets } } := by
    induction l generalizing t with
    | nil => rfl
    | cons x l ih =>
      rw [List.foldl_cons, ih]
      rfl
  unfold State.freeOrder
  rw [freed]
  rfl

/-- R134: an order freed takes its tickets along. -/
theorem State.freeOrder_gone (s : State) {o : Order} {x : TicketId} (h : x ∈ o.tickets) : (s.freeOrder o).ticket x = none := by
  have own (t : State) (y : TicketId) : (t.setTicket y none).ticket y = none := by
    simp [State.ticket, State.setTicket, State.modRouter]
  have other (t : State) (y z : TicketId) (ne : z ≠ y) : (t.setTicket y none).ticket z = t.ticket z := by
    have away : y.val ≠ z.val := fun e => ne (Fin.ext e.symm)
    simp [State.ticket, State.setTicket, State.modRouter, away]
  have freed (l : List TicketId) (t : State) (hx : t.ticket x = none ∨ x ∈ l) :
      (l.foldl (fun s y => s.setTicket y none) t).ticket x = none := by
    induction l generalizing t with
    | nil => simpa using hx
    | cons y l ih =>
      refine ih _ ?_
      by_cases same : x = y
      · exact .inl (same ▸ own t x)
      · rw [other t y x same]
        exact hx.imp_right fun member => (List.mem_cons.1 member).resolve_left same
  exact freed o.tickets s (.inr h)

theorem State.freeOrder_numbers (s : State) (o : Order) : ∀ v ∈ (s.freeOrder o).router.orders, v.number ≠ o.number := by
  intro v member
  rw [s.freeOrder_orders o] at member
  simpa using (List.mem_filter.1 member).2

/-! ## Recall countdowns (R143, R144) -/

theorem Order.recallRuns_iff (o : Order) :
    o.recallRuns = true ↔ o.state = .ready ∧ o.recallLeft.isSome ∧ o.callActive = false := by
  rw [Order.recallRuns, Bool.and_eq_true, Bool.and_eq_true, decide_eq_true_eq, Bool.not_eq_true', and_assoc]

theorem State.recallExpires_none {s : State} {n : Nat} (h : s.order? n = none) : s.recallExpires n = s := by
  simp only [State.recallExpires, h]

theorem State.recallExpires_still {s : State} {n : Nat} {o : Order} (found : s.order? n = some o)
    (rests : ¬ (o.state = .ready ∧ o.recallLeft.isSome ∧ o.callActive = false)) : s.recallExpires n = s := by
  rw [← Order.recallRuns_iff] at rests
  simp only [State.recallExpires, found, rests, Bool.false_eq_true, if_false]

theorem State.recallExpires_again {s : State} {n : Nat} {o : Order} (found : s.order? n = some o)
    (runs : o.state = .ready ∧ o.recallLeft.isSome ∧ o.callActive = false) (more : o.callCount < s.mgmt.site.maxCalls) :
    s.recallExpires n = s.callOrder o := by
  simp only [State.recallExpires, found, (Order.recallRuns_iff o).2 runs, if_true, if_pos more]

theorem State.recallExpires_last {s : State} {n : Nat} {o : Order} (found : s.order? n = some o)
    (runs : o.state = .ready ∧ o.recallLeft.isSome ∧ o.callActive = false) (last : s.mgmt.site.maxCalls ≤ o.callCount) :
    s.recallExpires n = s.abandon o := by
  simp only [State.recallExpires, found, (Order.recallRuns_iff o).2 runs, if_true, if_neg (Nat.not_lt.2 last)]

/-- R144: an order abandoned, up to its ORDER_STATE. -/
def State.abandonTold (s : State) (o : Order) : State :=
  (s.modRouter fun r => { r with abandoned := bump16 r.abandoned }).raise .orderAbandoned o.number o.callCount o.screen

/-- R144: what abandoning an order leaves. -/
theorem State.abandon_rest (s : State) (o : Order) :
    (s.abandon o).router.abandoned = bump16 s.router.abandoned ∧ (s.abandon o).router.kitchens = s.router.kitchens ∧
      (s.abandon o).gate = s.gate := by
  have raised : Raised _ (s.abandonTold o) := State.raise_raised _ _ _ _ _
  have whole : s.abandon o = ((s.abandonTold o).tellBoard o .abandoned).freeOrder o := rfl
  rw [whole, State.freeOrder_rest, State.tellBoard_rest, raised.rest]
  exact ⟨rfl, rfl, rfl⟩

/-- R144, R158: an order abandoned is told as ORDER_ABANDONED (14). -/
theorem State.abandon_tells {s : State} {o : Order} (unboarded : s.mgmt.site.board = 0) (room : s.cell.queued < 16) :
    s.tells (s.abandon o) [⟨14, o.number, o.callCount, o.screen.map fun c => s.screens[c].seq.clock⟩] := by
  have told : s.tells (s.abandonTold o) _ :=
    State.raise_tells (s := s.modRouter fun r => { r with abandoned := bump16 r.abandoned }) room .orderAbandoned o.number
      o.callCount o.screen
  have raised : Raised _ (s.abandonTold o) := State.raise_raised _ _ _ _ _
  have site : (s.abandonTold o).mgmt.site = s.mgmt.site := by
    rw [raised.rest]
    rfl
  have whole : s.abandon o = ((s.abandonTold o).tellBoard o .abandoned).freeOrder o := rfl
  rw [whole, State.tellBoard_none (by rw [site]; exact unboarded)]
  refine told.of_same ?_ ?_ <;> rw [State.freeOrder_rest]

/-! ## Late tickets (R145) -/

/-- R109, R110: what an event makes of the orders: each may report the end of its call. -/
theorem State.raise_orders (s : State) (e : Event) (n v : Nat) (c : Option ScreenId) :
    ∃ u : State, (s.raise e n v c).router.orders = s.router.orders.map (·.reported s u) := by
  have noticed : (s.raise e n v c).router.orders = (s.eventRequest e n).router.orders := by
    unfold State.raise State.sendNotice
    split
    · rw [State.handNormal_rest _ _ rfl]
      rfl
    · rfl
  have same : s.router.orders = s.router.orders.map (·.reported s s) := by
    refine ((List.map_congr_left fun o _ => ?_).trans (List.map_id _)).symm
    rw [Order.reported, if_pos rfl]
    rfl
  rw [noticed]
  unfold State.eventRequest
  split
  · exact ⟨s, same⟩
  · split
    · exact ⟨s, same⟩
    · exact ⟨_, s.announce_orders _⟩

theorem Order.reported_eq (before after : State) (o : Order) :
    ∃ active, o.reported before after = { o with callActive := active } := by
  unfold Order.reported
  split
  · exact ⟨_, rfl⟩
  · exact ⟨_, rfl⟩

theorem State.lateOf_none {s : State} {n : Nat} (h : s.order? n = none) (k : KitchenId) : s.lateOf n k = s := by
  simp only [State.lateOf, h]

/-- R145: the late timer of a station that has no SENT ticket of the order, or whose ticket has none. -/
theorem State.lateOf_still {s : State} {n : Nat} {k : KitchenId} {o : Order} {x : TicketId} {v : Ticket}
    (found : s.order? n = some o) (tickets : o.tickets = [x]) (ticket : s.router.tickets[x] = some v)
    (rests : v.state ≠ .sent ∨ v.lateTimer = none) : s.lateOf n k = s := by
  have done : ¬ (v.state = .sent ∧ v.lateTimer.isSome) := by
    rintro ⟨sent, runs⟩
    rcases rests with other | stopped
    · exact other sent
    · rw [stopped] at runs
      cases runs
  simp only [State.lateOf, found]
  split
  · rfl
  · next y first =>
    have member : y ∈ o.tickets := List.mem_of_find?_eq_some first
    rw [tickets] at member
    rw [List.mem_singleton.1 member]
    simp only [State.lateExpires, ticket, if_neg done]

/-- R145: a late ticket, as its order stands. -/
theorem State.lateOf_sent {s : State} {n : Nat} {k : KitchenId} {o : Order} {x : TicketId} {v : Ticket}
    (found : s.order? n = some o) (tickets : o.tickets = [x]) (ticket : s.router.tickets[x] = some v) (here : v.kitchen = k)
    (own : v.order = n) (sent : v.state = .sent) (runs : v.lateTimer.isSome) :
    let ended := s.modTicket x fun w => { w with lateTimer := none }
    s.lateOf n k =
      if o.late then ended
      else (ended.modOrder o.number fun w => { w with late := true }).raise .orderLate o.number (numberOf k) o.screen := by
  intro ended
  have first : s.sentTicket o k = some x := State.sentTicket_first (ahead := []) tickets nofun ⟨v, ticket, here, sent⟩
  simp only [State.lateOf, found, first, State.lateExpires, ticket, sent, runs, own, here, and_self, if_true]
  rfl

/-! ## Calls withdrawn (R108, R109) -/

theorem State.withdrawFrom_announced (n : Nat) (s : State) (o : OutputId) : Announced s (State.withdrawFrom n s o) :=
  ⟨s.withdrawFrom_kept n o, rfl⟩

theorem State.withdrawCalls_announced (s : State) (n : Nat) : Announced s (s.withdrawCalls n) :=
  (((Announced.foldl _ (fun t c => .heldCalls t c _) allScreens s).trans
    (.foldl _ (State.withdrawFrom_announced n) allOutputs _)).trans
    (.foldl _ State.entryLeft_announced _ _)).trans (State.reportActivity_announced _ _)

/-- Every waiting entry of `b`'s queues is one of `a`'s, or of the order `m`. -/
def Composer.waitsFrom (a b : Composer) (m : Option Nat) : Prop :=
  ∀ (o : OutputId), ∀ x ∈ b.queues[o].waiting, x.order = m ∨ x ∈ a.queues[o].waiting

theorem Composer.waitsFrom.of_queues {a b : Composer} (m : Option Nat) (same : b.queues = a.queues) : a.waitsFrom b m :=
  fun o x hx => .inr (by rwa [same] at hx)

/-- R103: an entry that cannot preempt joins, with no other entry that did not wait. -/
theorem Composer.join_waits {a : Composer} {o : OutputId} {q : AnnQueue} {e : QueueEntry} (low : e.priority < 3)
    (waits : ∀ x ∈ q.waiting, x ∈ a.queues[o].waiting) : a.waitsFrom (a.join o q e) e.order := by
  have yields : q.preempts e = false := AnnQueue.preempts_false fun p _ h => Nat.not_le.2 low h.1
  intro i x hx
  simp only [Composer.join, yields, Bool.false_eq_true, if_false, Fin.getElem_fin, Vector.getElem_set] at hx
  split at hx
  · next own =>
    cases Fin.ext own
    rcases List.mem_cons.1 ((joinWaiting_perm e q.waiting).mem_iff.1 hx) with rfl | waiting
    · exact .inl rfl
    · exact .inr (waits x waiting)
  · exact .inr hx

theorem Composer.discard_queues (a : Composer) (o : OutputId) (e : QueueEntry) : (a.discard o e).queues = a.queues :=
  Composer.release_queues a e.items

theorem Composer.place_waits {a : Composer} (o : OutputId) {e : QueueEntry} (low : e.priority < 3) :
    a.waitsFrom (a.place o e) e.order := by
  let joining : QueueEntry := { e with join := a.joins }
  let counted : Composer := { a with joins := a.joins + 1 }
  have joined (b : Composer) (q : AnnQueue) (same : b.queues = a.queues) (waits : ∀ x ∈ q.waiting, x ∈ a.queues[o].waiting) :
      a.waitsFrom (b.join o q joining) e.order := by
    have added := Composer.join_waits (a := b) (o := o) (q := q) (e := joining) low (by rw [same]; exact waits)
    unfold Composer.waitsFrom at added ⊢
    rw [same] at added
    exact added
  unfold Composer.place
  simp only
  split
  · exact joined counted _ rfl fun _ => id
  · split
    · exact .of_queues _ (Composer.discard_queues counted o joining)
    · next v _ =>
      split
      · exact joined _ _ (Composer.discard_queues counted o v) fun _ => List.mem_of_mem_erase
      · exact .of_queues _ (Composer.discard_queues counted o joining)

/-- No call of the order waits in a queue, and no screen holds one. -/
structure State.uncalled (s : State) (n : Nat) : Prop where
  waits : ∀ o : OutputId, ∀ e ∈ s.ann.queues[o].waiting, e.order ≠ some n
  held : ∀ c : ScreenId, n ∉ s.screens[c].heldCalls

/-- R101, R103: a call of another order, placed. -/
theorem State.uncalled.placed {s : State} {n m : Nat} (h : s.uncalled n) (other : m ≠ n) (mask : BitVec 5) (o : OutputId) :
    (s.renderAndPlace (s.callRequest m mask) o).uncalled n := by
  refine ⟨fun i e he => ?_, fun c => by rw [State.renderAndPlace_screens]; exact h.held c⟩
  have same := s.ann.render_queues (s.callRequest m mask).phrase (s.callRequest m mask).number
  unfold State.renderAndPlace at he
  simp only at he
  split at he
  · exact h.waits i e (by rw [← same]; exact he)
  · rcases Composer.place_waits o (show 1 < 3 by decide) i e he with order | waits
    · rw [order]
      exact fun eq => other (Option.some.inj eq)
    · exact h.waits i e (by rw [← same]; exact waits)

theorem State.uncalled.heldFewer {s : State} {n : Nat} (h : s.uncalled n) (c : ScreenId) {l : List Nat}
    (fewer : ∀ m ∈ l, m ∈ s.screens[c].heldCalls) : (s.setHeldCalls c l).uncalled n := by
  refine ⟨h.waits, fun d held => ?_⟩
  by_cases own : d = c
  · subst own
    have self : (s.setHeldCalls d l).screens[d] = { s.screens[d] with heldCalls := l } := s.modScreen_self d _
    rw [self] at held
    exact h.held d (fewer n held)
  · rw [s.setHeldCalls_other c l own] at held
    exact h.held d held

/-- R108: held calls of other orders that move in. -/
theorem State.uncalled.moved {s : State} {n : Nat} (h : s.uncalled n) (c : ScreenId) (fuel : Nat) :
    (State.moveCalls c fuel s).uncalled n := by
  induction fuel generalizing s with
  | zero => exact h
  | succ fuel ih =>
    unfold State.moveCalls
    split
    · exact h
    · next m rest list =>
      have other : m ≠ n := fun eq => h.held c (by rw [list, ← eq]; exact List.mem_cons_self)
      split
      · exact ih ((h.heldFewer c fun k hk => by rw [list]; exact List.mem_cons_of_mem m hk).placed other 0 _)
      · exact h

theorem State.uncalled.entryLeft {s : State} {n : Nat} (h : s.uncalled n) (o : OutputId) : (s.entryLeft o).uncalled n := by
  unfold State.entryLeft
  split
  · next c _ => exact h.moved c _
  · exact h

theorem Composer.releases_queues (a : Composer) (l : List QueueEntry) :
    (l.foldl (fun a e => a.release e.items) a).queues = a.queues := by
  induction l generalizing a with
  | nil => rfl
  | cons e l ih => rw [List.foldl_cons, ih, Composer.release_queues]

/-- R109: one output's queue without the waiting calls of an order. -/
theorem State.withdrawFrom_queues (n : Nat) (s : State) (o : OutputId) :
    (State.withdrawFrom n s o).ann.queues =
      s.ann.queues.set o
        { s.ann.queues[o] with waiting := s.ann.queues[o].waiting.filter fun e => !e.calls n } :=
  Composer.releases_queues _ _

/-- R109: the calls of an order, withdrawn. -/
theorem State.withdrawCalls_uncalled (s : State) (n : Nat) : (s.withdrawCalls n).uncalled n := by
  let unheld := allScreens.foldl (fun t c => t.setHeldCalls c (t.screens[c].heldCalls.filter (· != n))) s
  let drawn := allOutputs.foldl (State.withdrawFrom n) unheld
  have held (c : ScreenId) : drawn.screens[c].heldCalls = s.screens[c].heldCalls.filter (· != n) := by
    have kept : drawn.screens = unheld.screens := foldl_same (P := State.screens) (fun _ _ => rfl) allOutputs unheld
    rw [kept]
    refine (foldl_pointwise (P := fun t (c : ScreenId) => t.screens[c].heldCalls) (g := fun _ l => l.filter (· != n))
      (fun t c => ?_) (fun t c d ne => ?_) (by decide) s c).1 (mem_allScreens c)
    · exact congrArg Screen.heldCalls (t.modScreen_self c _)
    · exact congrArg Screen.heldCalls (t.setHeldCalls_other c _ ne)
  have waiting (o : OutputId) : drawn.ann.queues[o].waiting = unheld.ann.queues[o].waiting.filter fun e => !e.calls n := by
    refine (foldl_pointwise (P := fun t (o : OutputId) => t.ann.queues[o].waiting)
      (g := fun _ l => l.filter fun e => !e.calls n) (fun t o => ?_) (fun t o i ne => ?_) (by decide) unheld
      o).1 (mem_allOutputs o)
    · rw [State.withdrawFrom_queues]
      simp
    · have away : o.val ≠ i.val := fun e => ne (Fin.ext e.symm)
      rw [State.withdrawFrom_queues]
      simp [away]
  have base : drawn.uncalled n := by
    refine ⟨fun o e he => ?_, fun c => ?_⟩
    · rw [waiting] at he
      simpa [QueueEntry.calls] using (List.mem_filter.1 he).2
    · rw [held]
      simp
  have left (l : List OutputId) (t : State) (h : t.uncalled n) : (l.foldl State.entryLeft t).uncalled n := by
    induction l generalizing t with
    | nil => exact h
    | cons o l ih => exact ih _ (h.entryLeft o)
  have moved := left (allOutputs.filter fun o => s.ann.queues[o].waiting.any (·.calls n)) drawn base
  exact ⟨moved.waits, moved.held⟩

/-! ## Pickups (R147) -/

theorem State.takePickup_ignored {s : State} {source : Byte} (h : s.mgmt.site.counter = 0 ∨ s.mgmt.site.counter ≠ source.toNat)
    (number : Half) :
    s.takePickup source number = s.modRouter fun r => { r with ignoredPickups := bump16 r.ignoredPickups } :=
  if_neg fun own => h.elim own.1 fun other => other own.2

theorem State.takePickup_unknown {s : State} {source : Byte} {number : Half} (used : s.mgmt.site.counter ≠ 0)
    (own : s.mgmt.site.counter = source.toNat) (absent : s.order? number.toNat = none) :
    s.takePickup source number = s.modRouter fun r => { r with strayPickups := bump16 r.strayPickups } := by
  simp only [State.takePickup, if_pos (And.intro used own), absent]

theorem State.takePickup_early {s : State} {source : Byte} {number : Half} {o : Order} (used : s.mgmt.site.counter ≠ 0)
    (own : s.mgmt.site.counter = source.toNat) (found : s.order? number.toNat = some o) (early : o.state ≠ .ready) :
    s.takePickup source number = s.modRouter fun r => { r with strayPickups := bump16 r.strayPickups } := by
  simp only [State.takePickup, if_pos (And.intro used own), found, if_neg early]

theorem State.takePickup_ready {s : State} {source : Byte} {number : Half} {o : Order} (used : s.mgmt.site.counter ≠ 0)
    (own : s.mgmt.site.counter = source.toNat) (found : s.order? number.toNat = some o) (ready : o.state = .ready) :
    s.takePickup source number = ((s.withdrawCalls o.number).tellBoard o .picked).freeOrder o := by
  simp only [State.takePickup, if_pos (And.intro used own), found, if_pos ready]

end Sys2Proof.Machine

namespace Sys2Proof.Proofs
open Machine

/-- Settles O56: what a countdown's end, a late ticket and a pickup make of their order, its calls and the board. -/
theorem recallLatePickup : Obligations.RecallLatePickup := by
  intro s number
  refine ⟨fun absent => ⟨congrArg Host.Outcome.next (State.recallExpires_none absent), fun k =>
    congrArg Host.Outcome.next (State.lateOf_none absent k)⟩, fun o found => ?_,
    fun o x v k found tickets ticket here own => ?_, fun source stranger => ?_⟩
  · have n := State.order?_number found
    refine ⟨fun rests => congrArg Host.Outcome.next (State.recallExpires_still found rests), fun runs more => ?_,
      fun runs last => ?_⟩
    · have rest := s.callOrder_rest o
      refine ⟨s.callOrder o, _, congrArg Host.Outcome.next (State.recallExpires_again found runs more),
        State.callOrder_order found n, ?_, fun board room => State.callOrder_boarded board room o, fun unboarded =>
        State.callOrder_unboarded unboarded o, by rw [rest], by rw [rest], by rw [rest]⟩
      rw [← n]
      exact s.callOrder_called o
    · obtain ⟨count, kitchens, gate⟩ := s.abandon_rest o
      have freed : s.abandon o = ((s.abandonTold o).tellBoard o .abandoned).freeOrder o := rfl
      refine ⟨s.abandon o, congrArg Host.Outcome.next (State.recallExpires_last found runs last), ?_, count, fun x hx =>
        State.freeOrder_gone _ hx, kitchens, gate, fun unboarded room => State.abandon_tells unboarded room⟩
      rw [freed, ← n]
      exact State.freeOrder_numbers _ o
  · refine ⟨fun rests => congrArg Host.Outcome.next (State.lateOf_still found tickets ticket rests), ?_⟩
    intro sent runs ended
    have n := State.order?_number found
    have step : s.lateOf number.toNat k = _ := State.lateOf_sent found tickets ticket here own sent runs
    refine ⟨fun late => congrArg Host.Outcome.next (step.trans (if_pos late)), fun early => ?_⟩
    rw [if_neg (by rw [early]; nofun)] at step
    let marked := ended.modOrder o.number fun w => { w with late := true }
    have raised := marked.raise_raised .orderLate o.number (numberOf k) o.screen
    obtain ⟨u, orders⟩ := marked.raise_orders .orderLate o.number (numberOf k) o.screen
    obtain ⟨active, reported⟩ := Order.reported_eq marked u { o with late := true }
    have first : marked.order? number.toNat = (s.order? number.toNat).map _ :=
      State.order?_map rfl (fun w => by split <;> rfl) _
    rw [found, Option.map_some, if_pos rfl] at first
    have order := State.order?_map orders (Order.reported_number marked u) number.toNat
    rw [first, Option.map_some, reported] at order
    refine ⟨_, active, congrArg Host.Outcome.next step, order, ?_, ?_, raised.screens, fun room => ?_⟩
    · rw [raised.rest]
      rfl
    · rw [raised.rest]
      rfl
    · exact State.raise_tells (s := marked) room .orderLate o.number (numberOf k) o.screen
  · have taken {t : State} (h : s.takePickup source number = t) : exec (.pickup source number) s = .next t :=
      congrArg Host.Outcome.next ((congrArg (State.takePickup · source number) (State.cellSeen_stranger stranger)).trans h)
    refine ⟨fun other => taken (State.takePickup_ignored other number), fun used own => ⟨fun absent =>
      taken (State.takePickup_unknown used own absent), fun o found => ⟨fun early =>
      taken (State.takePickup_early used own found early), fun ready => ?_⟩⟩⟩
    have n := State.order?_number found
    have withdrawn := (s.withdrawCalls_announced o.number).rest
    have uncalled := s.withdrawCalls_uncalled o.number
    have whole := State.takePickup_ready used own found ready
    have freed := ((s.withdrawCalls o.number).tellBoard o .picked).freeOrder_rest o
    have told := (s.withdrawCalls o.number).tellBoard_rest o .picked
    refine ⟨_, taken whole, ?_, fun x hx => State.freeOrder_gone _ hx, ?_, ?_, ?_, ?_, ?_, fun board room => ?_⟩
    · rw [← n]
      exact State.freeOrder_numbers _ o
    · rw [freed, told, withdrawn]
    · rw [freed, told, ← n]
      exact uncalled.waits
    · rw [freed, told, withdrawn]
    · rw [freed, told, withdrawn]
    · rw [freed, told, withdrawn]
    · have site : (s.withdrawCalls o.number).mgmt = s.mgmt := by rw [withdrawn]
      have cell := s.withdrawCalls_cell o.number
      have queued := State.tellBoard_room (s := s.withdrawCalls o.number) (by rw [site]; exact board)
        (by rw [cell]; exact room) o .picked
      rw [freed, queued, State.boardCell, site, cell]
      rfl

end Sys2Proof.Proofs

/-! PROOFS. SET_ADMISSION and SET_ORDERING (R127, R150, R157), settling `SetAdmissionAndOrdering`. -/

namespace Sys2Proof.Machine

theorem admissionOf_unlisted {b : Byte} (h : 1 < b.toNat) : admissionOf b.toNat = none := by
  refine Option.not_isSome_iff_eq_none.1 fun listed => ?_
  have := (admissionOf_isSome _).1 listed
  omega

theorem orderingOf_unlisted {b : Byte} (h : 2 < b.toNat) : orderingOf b.toNat = none := by
  refine Option.not_isSome_iff_eq_none.1 fun listed => ?_
  have := (orderingOf_isSome _).1 listed
  omega

theorem admissionOf_byte (a : Admission) : admissionOf (BitVec.ofNat 8 a.code : Byte).toNat = some a := by cases a <;> rfl

theorem orderingOf_byte (o : OrderingState) : orderingOf (BitVec.ofNat 8 o.code : Byte).toNat = some o := by cases o <;> rfl

/-! ## SET_ADMISSION (R127) -/

theorem State.doSetAdmission_unlisted (s : State) (screen : Byte) {state : Byte} (h : 1 < state.toNat) :
    s.doSetAdmission screen state = (s, .range) := by
  simp only [State.doSetAdmission, admissionOf_unlisted h]

/-- R157: a screen outside 1..4 is refused whatever the state asked for. -/
theorem State.doSetAdmission_none (s : State) {screen : Byte} (h : screen = 0 ∨ 4 < screen.toNat) (state : Byte) :
    s.doSetAdmission screen state = (s, .range) := by
  unfold State.doSetAdmission
  cases admissionOf state.toNat with
  | none => rfl
  | some a => exact s.screenCommand_none h _

/-- R127: a DARK screen's admission does not open. -/
theorem State.doSetAdmission_screen (s : State) (c : ScreenId) (a : Admission) :
    s.doSetAdmission (BitVec.ofNat 8 (c.val + 1)) (BitVec.ofNat 8 a.code) =
      if a = .opened ∧ s.screens[c].seq.shown = .dark then (s, .state)
      else (s.modField c fun f => { f with admission := a }, .done) := by
  simp only [State.doSetAdmission, admissionOf_byte, State.screenCommand_screen]

/-! ## SET_ORDERING (R150) -/

theorem State.doSetOrdering_unlisted (s : State) (screen : Byte) {state : Byte} (h : 2 < state.toNat) :
    s.doSetOrdering screen state = (s, .range) := by
  simp only [State.doSetOrdering, orderingOf_unlisted h]

/-- R157: a screen outside 1..4 is refused whatever the state asked for. -/
theorem State.doSetOrdering_none (s : State) {screen : Byte} (h : screen = 0 ∨ 4 < screen.toNat) (state : Byte) :
    s.doSetOrdering screen state = (s, .range) := by
  unfold State.doSetOrdering
  cases orderingOf state.toNat with
  | none => rfl
  | some o => exact s.screenCommand_none h _

/-- R150: a DARK screen's ordering stays CLOSED. -/
theorem State.doSetOrdering_screen (s : State) (c : ScreenId) (o : OrderingState) :
    s.doSetOrdering (BitVec.ofNat 8 (c.val + 1)) (BitVec.ofNat 8 o.code) =
      if o ≠ .closed ∧ s.screens[c].seq.shown = .dark then (s, .state) else (s.setOrderingState c o, .done) := by
  simp only [State.doSetOrdering, orderingOf_byte, State.screenCommand_screen]

/-- A command of the console that its owner refuses on a condition, and does otherwise with no cell sent. -/
theorem State.command_decided {s u : State} {n : Nat} {m : Sender} {c : Command} {r : Reply} {p : Prop} [Decidable p]
    (h : s.readyFor n m) (room : 1 ≤ n) (hc : c ≠ .restartWarm) (hr : r.refuses = true)
    (ho : s.countTaken.obey c = if p then (s.countTaken, r) else (u.countTaken, .done)) (cell : u.cell = s.cell) :
    (s.cellSeen m.source).takeCommand m c =
      if p then s.turnedAway m (commandReply r.code c.code s.indexLow s.indexHigh)
      else u.answered m (commandReply 0 c.code s.indexLow s.indexHigh) := by
  split
  · next refused =>
    rw [if_pos refused] at ho
    exact State.command_refused h room hc ho hr
  · next passes =>
    rw [if_neg passes] at ho
    have queued : u.countTaken.cell.queued < 16 := by
      have := h.room.queued
      have same : u.countTaken.cell.queued = s.cell.queued := congrArg CellProcessor.queued cell
      omega
    exact State.command_done h hc ho queued

end Sys2Proof.Machine

namespace Sys2Proof.Proofs
open Machine

/-- Settles O43: both commands refuse a screen or a state that is not listed, and to open a DARK screen. -/
theorem setAdmissionAndOrdering : Obligations.SetAdmissionAndOrdering := by
  intro s m c h screen dark
  have refused {command : Command} {r : Reply} (hc : command ≠ .restartWarm)
      (owner : s.countTaken.obey command = (s.countTaken, r)) (hr : r.refuses = true) :=
    State.command_refused h (Nat.le_refl 1) hc owner hr
  refine ⟨fun b state outside => ⟨s.indexLow, s.indexHigh, congrArg Host.Outcome.next ?_, congrArg Host.Outcome.next ?_⟩,
    fun state => ⟨fun unlisted => ⟨s.indexLow, s.indexHigh, congrArg Host.Outcome.next ?_⟩, fun unlisted =>
    ⟨s.indexLow, s.indexHigh, congrArg Host.Outcome.next ?_⟩⟩, fun a =>
    ⟨s.indexLow, s.indexHigh, congrArg Host.Outcome.next ?_⟩, fun o =>
    ⟨s.indexLow, s.indexHigh, congrArg Host.Outcome.next ?_⟩⟩
  · exact refused (command := .setAdmission b state) nofun (State.doSetAdmission_none _ outside state) rfl
  · exact refused (command := .setOrdering b state) nofun (State.doSetOrdering_none _ outside state) rfl
  · exact refused (command := .setAdmission screen state) nofun (State.doSetAdmission_unlisted _ screen unlisted) rfl
  · exact refused (command := .setOrdering screen state) nofun (State.doSetOrdering_unlisted _ screen unlisted) rfl
  · exact State.command_decided (c := .setAdmission screen (BitVec.ofNat 8 a.code))
      (u := s.modField c fun f => { f with admission := a }) h (Nat.le_refl 1) nofun (r := .state) rfl
      (s.countTaken.doSetAdmission_screen c a) rfl
  · exact State.command_decided (c := .setOrdering screen (BitVec.ofNat 8 o.code)) (u := s.setOrderingState c o) h
      (Nat.le_refl 1) nofun (r := .state) rfl (s.countTaken.doSetOrdering_screen c o) rfl

end Sys2Proof.Proofs

/-! PROOFS. A LANE write (R114), settling `LaneWrite`. -/

namespace Sys2Proof.Machine

/-! ## The entry checked and clamped (R114) -/

theorem laneRoleOf_byte {b : Byte} (h : b.toNat ≤ 1) : laneRoleOf b.toNat = some (if b = 0 then .entry else .exit) := by
  have two : b = 0 ∨ b = 1 := by bv_omega
  rcases two with rfl | rfl <;> rfl

theorem laneRoleOf_le {n : Nat} {role : LaneRole} (h : laneRoleOf n = some role) : n ≤ 1 := by
  unfold laneRoleOf at h
  split at h
  · decide
  · decide
  · cases h

theorem fromOne_range {k n : Nat} {i : Fin k} (h : fromOne k n = some i) : 1 ≤ n ∧ n ≤ k := by
  unfold fromOne at h
  split at h
  · assumption
  · cases h

theorem fromOne_ofNat {n : Nat} (low : 1 ≤ n) (high : n ≤ 4) : fromOne 4 n = some (Fin.ofNat 4 (n - 1)) := by
  have number : fromOne 4 n = some ⟨n - 1, by omega⟩ := dif_pos ⟨low, high⟩
  rw [number]
  exact congrArg some (Fin.ext (Nat.mod_eq_of_lt (by omega)).symm)

/-- R114: an entry in its fields' ranges is stored clamped. -/
theorem laneConfigOf_bytes {station role home : Byte} (silence pass : Byte) (known : station.toNat ≤ 120)
    (listed : role.toNat ≤ 1) (low : 1 ≤ home.toNat) (high : home.toNat ≤ 4) :
    laneConfigOf [station, role, home, silence, pass] =
      some
        { station := station.toNat, role := if role = 0 then .entry else .exit, home := Fin.ofNat 4 (home.toNat - 1)
          silenceLimit := min 30 silence.toNat, passTimeout := max 10 (min 120 pass.toNat) } := by
  simp [laneConfigOf, byteAt, stationOf_some known, laneRoleOf_byte listed, fromOne_ofNat low high, clampTo]

/-- R114: an entry that is stored has its values in their fields' ranges. -/
theorem laneConfigOf_fits {e : List Byte} {g : LaneConfig} (h : laneConfigOf e = some g) :
    byteAt e 0 ≤ 120 ∧ byteAt e 1 ≤ 1 ∧ 1 ≤ byteAt e 2 ∧ byteAt e 2 ≤ 4 := by
  simp only [laneConfigOf, Option.bind_eq_bind, Option.bind_eq_some_iff, Option.pure_def] at h
  obtain ⟨_, station, _, role, _, home, -⟩ := h
  exact ⟨stationOf_le station, laneRoleOf_le role, fromOne_range home⟩

/-! ## The write applied -/

/-- R114: another lane has the station. -/
def State.laneTaken (s : State) (l : LaneId) (station : Nat) : Prop :=
  station ≠ 0 ∧ ∃ j, j ≠ l ∧ s.gate.lanes[j].station = station

theorem State.laneTaken_iff (s : State) (l : LaneId) (station : Nat) :
    (station ≠ 0 ∧ (allLanes.any fun j => decide (j ≠ l) && decide (s.gate.lanes[j].station = station)) = true) ↔
      s.laneTaken l station := by
  simp only [State.laneTaken, List.any_eq_true, mem_allLanes, true_and, Bool.and_eq_true, decide_eq_true_eq]

theorem fromOne_lane (l : LaneId) : fromOne 8 (l.val + 1) = some l := by
  revert l
  decide

theorem State.writeLane_range (s : State) (l : LaneId) {e : List Byte} (h : laneConfigOf e = none) :
    s.writeLane (l.val + 1) e = (s, .range) := by
  simp only [State.writeLane, fromOne_lane, h]

theorem State.writeLane_overlap (s : State) {l : LaneId} {e : List Byte} {g : LaneConfig} (h : laneConfigOf e = some g)
    (taken : s.laneTaken l g.station) : s.writeLane (l.val + 1) e = (s, .overlap) := by
  simp only [State.writeLane, fromOne_lane, h]
  exact if_pos ((s.laneTaken_iff l _).2 taken)

/-- R114: a write that passes its first checks is refused while an admission is pending, and else applied. -/
theorem State.writeLane_free (s : State) {l : LaneId} {e : List Byte} {g : LaneConfig} (h : laneConfigOf e = some g)
    (free : ¬ s.laneTaken l g.station) :
    s.writeLane (l.val + 1) e =
      if s.gate.lanes[l].pending.isSome then (s, .inUse) else (s.modLane l fun n => n.configured g, .done) := by
  simp only [State.writeLane, fromOne_lane, h]
  exact if_neg fun taken => free ((s.laneTaken_iff l _).1 taken)

/-- The LANE table, code 9, takes the write. -/
theorem State.writeCode_lane (s : State) (l : LaneId) (e : List Byte) :
    State.writeCode 9 (BitVec.ofNat 16 (l.val + 1)) e s = Written.out (s.writeLane (l.val + 1) e) := by
  have number : (BitVec.ofNat 16 (l.val + 1) : Half).toNat = l.val + 1 := by
    revert l
    decide
  exact congrArg (fun i => Written.out (s.writeLane i e)) number

end Sys2Proof.Machine

namespace Sys2Proof.Proofs
open Machine

/-- Settles O28: the checks of R114 in their order, and the lane started afresh where all pass. -/
theorem laneWrite : Obligations.LaneWrite := by
  intro s m l station role home silence pass h index write fits taken
  have refused {r : Reply} (owner : s.countTaken.writeLane (l.val + 1) [station, role, home, silence, pass] =
      (s.countTaken, r)) (hr : r.refuses = true) : exec write s = .next (s.turnedAway m (writeReply r.code 9 index)) :=
    congrArg Host.Outcome.next (State.write_refused h (Nat.le_refl 1) rfl
      ((s.countTaken.writeCode_lane l _).trans (congrArg Written.out owner)) hr)
  have stored : fits → _ := fun ⟨known, listed, low, high⟩ => laneConfigOf_bytes silence pass known listed low high
  have number : station ≠ 0 ↔ station.toNat ≠ 0 := not_congr BitVec.toNat_inj.symm
  have other : taken ↔ s.countTaken.laneTaken l station.toNat := and_congr_left' number
  refine ⟨fun outside => ?_, fun ok overlap => ?_, fun ok free pending => ?_, fun ok free idle =>
    congrArg Host.Outcome.next ?_⟩
  · have none : laneConfigOf [station, role, home, silence, pass] = none :=
      Option.eq_none_iff_forall_not_mem.2 fun g some => outside (laneConfigOf_fits some)
    exact refused (s.countTaken.writeLane_range l none) rfl
  · exact refused (s.countTaken.writeLane_overlap (stored ok) (other.1 overlap)) rfl
  · have owner := s.countTaken.writeLane_free (stored ok) (mt other.2 free)
    exact refused (owner.trans (if_pos pending)) rfl
  · have idle : ¬ s.countTaken.gate.lanes[l].pending.isSome := by
      have same : s.countTaken.gate = s.gate := rfl
      rw [same, idle]
      nofun
    have owner := (s.countTaken.writeLane_free (stored ok) (mt other.2 free)).trans (if_neg idle)
    have room : s.cell.queued < 16 := h.room.queued
    exact State.write_done h rfl ((s.countTaken.writeCode_lane l _).trans (congrArg Written.out owner)) room

end Sys2Proof.Proofs

/-! PROOFS. Asking for admission (R115, R117 to R119, R124), settling `AdmitAsk`. -/

namespace Sys2Proof.Machine

/-! ## Lanes and vehicles (R113, R115) -/

theorem vehicleOf_code (v : Vehicle) : vehicleOf v.code = some v := by cases v <;> rfl

theorem vehicleOf_unlisted {n : Nat} (h : 1 < n) : vehicleOf n = none := by
  unfold vehicleOf
  split
  · omega
  · omega
  · rfl

theorem State.laneOf_stranger {s : State} {source : Byte} (h : s.stranger source) : s.laneOf source.toNat = none := by
  simp only [State.laneOf, List.find?_eq_none]
  intro l _
  simpa using fun _ => h.noLane l

theorem State.modLane_self (s : State) (l : LaneId) (f : Lane → Lane) :
    (s.modLane l f).gate.lanes[l] = f s.gate.lanes[l] := by simp

theorem GateCounter.setLane_setLane (g : GateCounter) (l : LaneId) (v w : Lane → Lane) :
    (g.setLane l v).setLane l w = g.setLane l fun n => w (v n) := by simp [GateCounter.setLane]

/-- R115: a lane heard keeps its station. -/
theorem State.fromLane.heard {s : State} {source : Byte} {l : LaneId} (h : s.fromLane source l) :
    (s.modLane l Lane.heard).fromLane source l := by
  refine ⟨h.used, ?_, fun j other => ?_, h.noKitchen⟩
  · rw [s.modLane_self]
    exact h.lane
  · have apart : ¬ l.val = j.val := fun same => other (Fin.ext same.symm)
    have kept : (s.modLane l Lane.heard).gate.lanes[j] = s.gate.lanes[j] := by simp [apart]
    rw [kept]
    exact h.only j other

/-! ## The choice of a screen (R118) -/

theorem State.admits_iff (s : State) (c : ScreenId) :
    s.admits c = true ↔ s.screens[c].config.enabled = true ∧ s.screens[c].field.admission = .opened := by
  rw [State.admits, Bool.and_eq_true, decide_eq_true_eq]

theorem State.hasPlace_iff (s : State) (c : ScreenId) (v : Vehicle) :
    s.hasPlace c v = true ↔ 0 < s.availability c ∧ (v = .tall →
      s.screens[c].field.tall + s.screens[c].field.tallPending < s.screens[c].config.tallQuota) := by
  rw [State.hasPlace, Bool.and_eq_true, Bool.or_eq_true, decide_eq_true_eq, decide_eq_true_eq, decide_eq_true_eq]
  cases v <;> simp

/-- R118: the better of the best screen so far and another. -/
def State.roomier (s : State) (best : Option ScreenId) (c : ScreenId) : Option ScreenId :=
  match best with
  | none => some c
  | some b => if s.availability b < s.availability c then some c else some b

/-- R117, R118: the screens that a vehicle may be given, in ascending order. -/
def State.candidates (s : State) (v : Vehicle) : List ScreenId := allScreens.filter fun c => s.admits c && s.hasPlace c v

theorem State.roomiest_eq (s : State) (v : Vehicle) : s.roomiest v = (s.candidates v).foldl s.roomier none := rfl

theorem State.mem_candidates (s : State) (v : Vehicle) (c : ScreenId) :
    c ∈ s.candidates v ↔ s.admits c = true ∧ s.hasPlace c v = true := by
  rw [State.candidates, List.mem_filter, Bool.and_eq_true, and_iff_right (mem_allScreens c)]

theorem State.candidates_ascend (s : State) (v : Vehicle) : (s.candidates v).Pairwise (· < ·) :=
  List.Pairwise.filter _ (by decide)

theorem State.roomiest_none {s : State} {v : Vehicle} (h : ∀ c, s.admits c = true → s.hasPlace c v = false) :
    s.roomiest v = none := by
  have empty : s.candidates v = [] := by
    refine List.eq_nil_iff_forall_not_mem.2 fun c candidate => ?_
    obtain ⟨admits, place⟩ := (s.mem_candidates v c).1 candidate
    exact Bool.noConfusion (place.symm.trans (h c admits))
  rw [s.roomiest_eq, empty]
  rfl

/-- A screen that no later one exceeds stays the best. -/
theorem State.roomier_stays {s : State} {c : ScreenId} {l : List ScreenId}
    (h : ∀ d ∈ l, s.availability d ≤ s.availability c) : l.foldl s.roomier (some c) = some c := by
  induction l with
  | nil => rfl
  | cons d l ih =>
    have kept : s.roomier (some c) d = some c := if_neg (Int.not_lt.2 (h d List.mem_cons_self))
    rw [List.foldl_cons, kept]
    exact ih fun e he => h e (List.mem_cons_of_mem d he)

/-- R118: `c` is the best of the screens of a list: it has more places than another, or as many and the lower number. -/
def State.bestOf (s : State) (c : ScreenId) (l : List ScreenId) : Prop :=
  ∀ d ∈ l, d ≠ c → s.availability d < s.availability c ∨ (s.availability d = s.availability c ∧ c < d)

/-- R118: in an ascending list the best screen is found, whatever lesser screen was the best so far. -/
theorem State.roomier_finds {s : State} {c : ScreenId} {l : List ScreenId} (best : s.bestOf c l) (within : c ∈ l)
    (ascend : l.Pairwise (· < ·)) {sofar : Option ScreenId} (lesser : ∀ b ∈ sofar, s.availability b < s.availability c) :
    l.foldl s.roomier sofar = some c := by
  induction l generalizing sofar with
  | nil => cases within
  | cons d l ih =>
    have later : s.bestOf c l := fun e he => best e (List.mem_cons_of_mem d he)
    rw [List.foldl_cons]
    by_cases here : d = c
    · subst here
      have taken : s.roomier sofar d = some d := by
        cases sofar with
        | none => rfl
        | some b => exact if_pos (lesser b rfl)
      rw [taken]
      refine State.roomier_stays fun e he => ?_
      by_cases same : e = d
      · rw [same]
      · rcases later e he same with less | ⟨equal, -⟩
        · exact Int.le_of_lt less
        · exact Int.le_of_eq equal
    · have behind : c ∈ l := (List.mem_cons.1 within).resolve_left (Ne.symm here)
      obtain ⟨first, rest⟩ := List.pairwise_cons.1 ascend
      have less : s.availability d < s.availability c := by
        rcases best d List.mem_cons_self here with less | ⟨-, after⟩
        · exact less
        · exact absurd (first c behind) (lt_asymm after)
      refine ih later behind rest fun b hb => ?_
      cases sofar with
      | none =>
        cases hb
        exact less
      | some a =>
        have either : s.roomier (some a) d = some d ∨ s.roomier (some a) d = some a := ite_eq_or_eq _ _ _
        rcases either with taken | taken
        · rw [taken] at hb
          cases hb
          exact less
        · rw [taken] at hb
          exact lesser b hb

theorem State.roomiest_best {s : State} {v : Vehicle} {c : ScreenId} (admits : s.admits c = true)
    (place : s.hasPlace c v = true) (best : s.bestOf c (s.candidates v)) : s.roomiest v = some c :=
  State.roomier_finds best ((s.mem_candidates v c).2 ⟨admits, place⟩) (s.candidates_ascend v) nofun

/-! ## The verdict (R117) -/

/-- An ENTRY lane with no pending admission asks. -/
structure State.asksFree (s : State) (source : Byte) (l : LaneId) : Prop where
  sender : s.fromLane source l
  entry : s.gate.lanes[l].role = .entry
  free : s.gate.lanes[l].pending = none

theorem State.judgeAsk_stranger {s : State} {source : Byte} (h : s.stranger source) (screen vehicle : Byte) :
    s.judgeAsk source screen vehicle = .unknownLane := by
  simp only [State.judgeAsk, State.laneOf_stranger h]

theorem State.judgeAsk_exit {s : State} {source : Byte} {l : LaneId} (h : s.fromLane source l)
    (role : s.gate.lanes[l].role = .exit) (screen vehicle : Byte) : s.judgeAsk source screen vehicle = .unknownLane := by
  simp only [State.judgeAsk, State.laneOf_fromLane h, role, if_true]

theorem State.judgeAsk_busy {s : State} {source : Byte} {l : LaneId} (h : s.fromLane source l)
    (role : s.gate.lanes[l].role = .entry) (pending : s.gate.lanes[l].pending.isSome) (screen vehicle : Byte) :
    s.judgeAsk source screen vehicle = .laneBusy := by
  simp only [State.judgeAsk, State.laneOf_fromLane h, role, pending, reduceCtorEq, if_false, if_true]

section Asks

variable {s : State} {source screen vehicle : Byte} {l : LaneId} {v : Vehicle}

theorem State.judgeAsk_bad (h : s.asksFree source l) (bad : 4 < screen.toNat ∨ 1 < vehicle.toNat) :
    s.judgeAsk source screen vehicle = .badAsk := by
  simp only [State.judgeAsk, State.laneOf_fromLane h.sender, h.entry, h.free, reduceCtorEq, if_false, Option.isSome_none,
    Bool.false_eq_true]
  by_cases outside : 4 < screen.toNat
  · rw [if_pos outside]
  · rw [if_neg outside, vehicleOf_unlisted (bad.resolve_left outside)]

/-- R117: an ask for one screen. -/
theorem State.judgeAsk_named (h : s.asksFree source l) (known : vehicleOf vehicle.toNat = some v) {c : ScreenId}
    (named : screen.toNat = c.val + 1) :
    s.judgeAsk source screen vehicle =
      if s.admits c = true then if s.hasPlace c v = true then .grant c l v else .full else .closed := by
  have within : ¬ 4 < c.val + 1 := by omega
  simp only [State.judgeAsk, State.laneOf_fromLane h.sender, h.entry, h.free, reduceCtorEq, if_false, Option.isSome_none,
    Bool.false_eq_true, named, within, known, fromOne_index]
  cases s.admits c <;> cases s.hasPlace c v <;> rfl

/-- R117, R118: an ask for any screen. -/
theorem State.judgeAsk_any (h : s.asksFree source l) (known : vehicleOf vehicle.toNat = some v) :
    s.judgeAsk source 0 vehicle =
      (s.roomiest v).elim (if allScreens.any s.admits then .full else .closed) (.grant · l v) := by
  have unnamed : fromOne 4 (0 : Byte).toNat = none := rfl
  have within : ¬ 4 < (0 : Byte).toNat := by decide
  simp only [State.judgeAsk, State.laneOf_fromLane h.sender, h.entry, h.free, reduceCtorEq, if_false, Option.isSome_none,
    Bool.false_eq_true, within, known, unnamed]
  cases s.roomiest v <;> rfl

theorem State.judgeAsk_closed (h : s.asksFree source l) (known : vehicleOf vehicle.toNat = some v)
    (closed : ∀ c, ¬ s.admits c = true) : s.judgeAsk source 0 vehicle = .closed := by
  have none : s.roomiest v = none := State.roomiest_none fun c admits => absurd admits (closed c)
  have shut : ¬ allScreens.any s.admits = true := fun admitting => by
    obtain ⟨c, -, admits⟩ := List.any_eq_true.1 admitting
    exact closed c admits
  rw [State.judgeAsk_any h known, none, Option.elim_none, if_neg shut]

theorem State.judgeAsk_full (h : s.asksFree source l) (known : vehicleOf vehicle.toNat = some v) {c : ScreenId}
    (admits : s.admits c = true) (full : ∀ d, s.admits d = true → s.hasPlace d v = false) :
    s.judgeAsk source 0 vehicle = .full := by
  have admitting : allScreens.any s.admits = true := List.any_eq_true.2 ⟨c, mem_allScreens c, admits⟩
  rw [State.judgeAsk_any h known, State.roomiest_none full, Option.elim_none, if_pos admitting]

/-- R117, R118: the screen named, or the best of those that can be given. -/
theorem State.judgeAsk_chosen (h : s.asksFree source l) (known : vehicleOf vehicle.toNat = some v) {c : ScreenId}
    (admits : s.admits c = true) (place : s.hasPlace c v = true)
    (chosen : screen.toNat = c.val + 1 ∨ (screen = 0 ∧ s.bestOf c (s.candidates v))) :
    s.judgeAsk source screen vehicle = .grant c l v := by
  rcases chosen with named | ⟨rfl, best⟩
  · rw [State.judgeAsk_named h known named, if_pos admits, if_pos place]
  · rw [State.judgeAsk_any h known, State.roomiest_best admits place best, Option.elim_some]

end Asks

/-! ## The answer (R119) -/

/-- R119: `s` with the ADMIT_REPLY of a verdict at the back of the URGENT class. -/
def State.admitAnswered (s : State) (m : Sender) (screen : Byte) (v : AskVerdict) : State :=
  { s with cell := { s.cell with urgent := s.cell.urgent ++ [s.admitReply m screen v] } }

theorem State.admitAnswered_queued (s : State) (m : Sender) (screen : Byte) (v : AskVerdict) :
    (s.admitAnswered m screen v).cell.queued = s.cell.queued + 1 := by
  simp only [State.admitAnswered, CellProcessor.queued, List.length_append, List.length_singleton]
  omega

theorem State.takeAdmitAsk_refused {s : State} {m : Sender} {screen vehicle : Byte} {v : AskVerdict}
    (room : s.cell.queued < 16) (judged : s.judgeAsk m.source screen vehicle = v) (refused : ∀ c l w, v ≠ .grant c l w) :
    s.takeAdmitAsk m screen vehicle = s.admitAnswered m screen v := by
  have handed := State.handUrgent_room (o := s.admitReply m screen v) room rfl
  simp only [State.takeAdmitAsk, judged, handed]
  cases v with
  | grant c l w => exact absurd rfl (refused c l w)
  | unknownLane | laneBusy | badAsk | closed | full => rfl

theorem State.takeAdmitAsk_granted {s : State} {m : Sender} {screen vehicle : Byte} {c : ScreenId} {l : LaneId} {v : Vehicle}
    (room : s.cell.queued < 16) (judged : s.judgeAsk m.source screen vehicle = .grant c l v) :
    s.takeAdmitAsk m screen vehicle = (s.admitAnswered m screen (.grant c l v)).grant c l v := by
  have handed := State.handUrgent_room (o := s.admitReply m screen (.grant c l v)) room rfl
  simp only [State.takeAdmitAsk, judged, handed]
  rfl

/-- R119, 09 section 9.7: the bytes of a GRANT. -/
theorem State.admitReply_grant (s : State) (m : Sender) (screen : Byte) (c : ScreenId) (l : LaneId) {v : Vehicle}
    {vehicle : Byte} (code : v.code = vehicle.toNat) :
    s.admitReply m screen (.grant c l v) =
      { kind := .admitReply, dest := m.source.toNat, echo := some m.tag
        payload := [0] ++ le8 (c.val + 1) ++ le8 s.sound.config[outputOf c].tuneChannel ++ [vehicle] ++
          le16 (s.availability c - 1).toNat } := by
  have byte : le8 v.code = [vehicle] := by
    rw [code, le8]
    exact congrArg (fun b => [b]) (BitVec.ofNat_toNat 8 vehicle |>.trans (BitVec.setWidth_eq vehicle))
  simp only [State.admitReply, byte]
  rfl

/-- R113, R119: a lane with its pending admission made. -/
def Lane.admitted (n : Lane) (c : ScreenId) (v : Vehicle) : Lane :=
  { n with pending := some { screen := c, vehicle := v, passTimer := n.passTimeout } }

/-- R113, R124: the counts of a screen with one more pending admission, the full flag judged. -/
def FieldCounts.granted (f : FieldCounts) (g : ScreenConfig) (v : Vehicle) : FieldCounts := (f.pend v).fullJudged g

/-- R119, R124: what a GRANT makes of its screen's counts, and what it tells. -/
theorem State.grant_recounted (s : State) (c : ScreenId) (l : LaneId) (v : Vehicle) :
    let f := (s.counts c).granted s.screens[c].config v
    Recounted s (s.grant c l v) (s.gate.setLane l fun n => n.admitted c v) (Function.update s.counts c f) 1
      (fullTold (s.counts c) f c s.screens[c].seq.clock) := by
  have judged := (((Recounted.refl s).modLane l fun n => n.admitted c v).change c fun f => f.pend v).judgeFull c
  simp only [Function.update_self, Function.update_idem] at judged
  exact judged

/-- R124: a GRANT takes one place. -/
theorem Screen.granted_full (x : Screen) (v : Vehicle) :
    (x.field.granted x.config v).full = decide (x.availability - 1 ≤ 0) := by
  refine decide_eq_decide.2 ?_
  simp only [FieldCounts.pend, Screen.availability]
  omega

/-- R124: FIELD_FULL of a GRANT that takes the last place. -/
theorem Screen.fullTold_granted (x : Screen) (v : Vehicle) (c : ScreenId) (clock : Nat) :
    fullTold x.field (x.field.granted x.config v) c clock =
      if x.field.full = false ∧ x.availability - 1 ≤ 0 then [⟨0, c.val + 1, x.field.occupancy, some clock⟩] else [] :=
  if_congr (and_congr_right' (by rw [x.granted_full, decide_eq_true_eq])) rfl rfl

end Sys2Proof.Machine

namespace Sys2Proof.Proofs
open Machine

/-- Settles O51: each verdict in the order of R117, and the state that a GRANT leaves. -/
theorem admitAsk : Obligations.AdmitAsk := by
  refine ⟨fun s m screen vehicle stranger room => congrArg Host.Outcome.next ?_, ?_⟩
  · rw [State.cellSeen_stranger stranger]
    exact State.takeAdmitAsk_refused room.queued (State.judgeAsk_stranger stranger screen vehicle) nofun
  intro s m l screen vehicle sender room seen refusal ask lane places admits hasPlace
  have queued : seen.cell.queued < 16 := by
    have := room.queued
    have same : seen.cell.queued = s.cell.queued := rfl
    omega
  have heard : seen.fromLane m.source l := sender.heard
  have self : seen.gate.lanes[l] = lane.heard := s.modLane_self l Lane.heard
  have taken {t : State} (h : seen.takeAdmitAsk m screen vehicle = t) : exec ask s = .next t :=
    congrArg Host.Outcome.next ((congrArg (State.takeAdmitAsk · m screen vehicle) (State.cellSeen_lane sender)).trans h)
  have refused {v : AskVerdict} (judged : seen.judgeAsk m.source screen vehicle = v) (no : ∀ c l w, v ≠ .grant c l w) :
      exec ask s = .next (seen.admitAnswered m screen v) := taken (State.takeAdmitAsk_refused queued judged no)
  have free (entry : lane.role = .entry) (idle : lane.pending = none) : seen.asksFree m.source l :=
    ⟨heard, (congrArg Lane.role self).trans entry, (congrArg Lane.pending self).trans idle⟩
  have admitting (c : ScreenId) : seen.admits c = true ↔ admits c := seen.admits_iff c
  have placing (c : ScreenId) (v : Vehicle) : seen.hasPlace c v = true ↔ hasPlace c v := seen.hasPlace_iff c v
  refine ⟨fun exit => ?_, fun entry busy => ?_, fun entry idle bad => ?_, fun v entry idle code => ?_⟩
  · exact refused (State.judgeAsk_exit heard ((congrArg Lane.role self).trans exit) screen vehicle) nofun
  · refine refused (State.judgeAsk_busy heard ((congrArg Lane.role self).trans entry) ?_ screen vehicle) nofun
    rw [self]
    exact busy
  · exact refused (State.judgeAsk_bad (free entry idle) bad) nofun
  · have asks := free entry idle
    have known : vehicleOf vehicle.toNat = some v := code ▸ vehicleOf_code v
    have noPlace {c : ScreenId} (h : ¬ hasPlace c v) : ¬ seen.hasPlace c v = true := mt (placing c v).1 h
    refine ⟨fun c named closed => ?_, fun c named opened full => ?_, fun any closed => ?_, fun any opened full => ?_,
      fun c opened place chosen => ?_⟩
    · have judged := (State.judgeAsk_named asks known named).trans (if_neg (mt (admitting c).1 closed))
      exact refused judged nofun
    · have judged := (State.judgeAsk_named asks known named).trans
        ((if_pos ((admitting c).2 opened)).trans (if_neg (noPlace full)))
      exact refused judged nofun
    · subst any
      exact refused (State.judgeAsk_closed asks known fun c => mt (admitting c).1 (closed c)) nofun
    · subst any
      obtain ⟨c, admitted⟩ := opened
      exact refused (State.judgeAsk_full asks known ((admitting c).2 admitted) fun d h =>
        Bool.eq_false_iff.2 (noPlace (full d ((admitting d).1 h)))) nofun
    · have judged : seen.judgeAsk m.source screen vehicle = .grant c l v := by
        refine State.judgeAsk_chosen asks known ((admitting c).2 opened) ((placing c v).2 place)
          (chosen.imp_right (And.imp_right fun best d candidate other => ?_))
        obtain ⟨others, room⟩ := (seen.mem_candidates v d).1 candidate
        exact best d other ((admitting d).1 others) ((placing d v).1 room)
      have granted := (seen.admitAnswered m screen (.grant c l v)).grant_recounted c l v
      have own := granted.field c
      rw [Function.update_self] at own
      refine ⟨_, taken (State.takeAdmitAsk_granted queued judged), granted.gate.trans ?_, own.trans ?_,
        congrArg (·.config) (granted.screens c), granted.seq c, fun d other => granted.other (Function.update_of_ne other _ _),
        granted.urgent.trans ?_, granted.sameTraffic, ?_⟩
      · exact s.gate.setLane_setLane l Lane.heard fun n => n.admitted c v
      · exact congrArg (fun b => { s.screens[c].field.pend v with full := b }) (s.screens[c].granted_full v)
      · exact congrArg (fun o => s.cell.urgent ++ [o]) (seen.admitReply_grant m screen c l code)
      · have told := granted.told (by rw [State.admitAnswered_queued]; exact room.queued)
        exact (congrArg (s.tells _) (s.screens[c].fullTold_granted v c _)).mp told

end Sys2Proof.Proofs

/-! PROOFS. Passages (R115, R121 to R125, R158), settling `Passages`. -/

namespace Sys2Proof.Machine

theorem vehicleOf_listed {n : Nat} (h : n ≤ 1) : ∃ v, vehicleOf n = some v := by
  have two : n = 0 ∨ n = 1 := by omega
  rcases two with rfl | rfl
  · exact ⟨.car, rfl⟩
  · exact ⟨.tall, rfl⟩

/-! ## Flags judged whatever the marks (R124, R125) -/

/-- R125: the near-full flag comes to be `b`, and its move, if it moves, is told; for any marks. -/
theorem State.judgeNearFull_moves (s : State) (c : ScreenId) :
    ∃ b, Recounted s (s.judgeNearFull c) s.gate (Function.update s.counts c { s.counts c with nearFull := b }) 1
      (nearTold (s.counts c) { s.counts c with nearFull := b } c s.screens[c].seq.clock) := by
  unfold State.judgeNearFull
  simp only
  split
  · next rises =>
    have clear : (s.counts c).nearFull = false := (Bool.not_eq_true' _).mp rises.2.2
    refine ⟨true, ?_⟩
    rw [nearTold_rises clear rfl]
    exact .setTold s c (fun f => { f with nearFull := true }) .fieldNearFull _
  · split
    · next falls =>
      have set : (s.counts c).nearFull = true := falls.2.2
      refine ⟨false, ?_⟩
      rw [nearTold_falls set rfl]
      exact .setTold s c (fun f => { f with nearFull := false }) .fieldReopen _
    · refine ⟨(s.counts c).nearFull, ?_⟩
      rw [nearTold_same rfl]
      exact .same s c rfl

/-- From `s` to `t` the gates become `g` and the counts of screen `c` alone `f`; the moves of its flags are told. -/
def FieldMoved (s t : State) (g : GateCounter) (c : ScreenId) (f : FieldCounts) : Prop :=
  Recounted s t g (Function.update s.counts c f) 2
    (nearTold (s.counts c) f c s.screens[c].seq.clock ++ fullTold (s.counts c) f c s.screens[c].seq.clock)

/-- R124, R125: both flags judged; with marks in order they are the flags of the counts. -/
theorem State.judgeFlags_moved (s : State) (c : ScreenId) :
    ∃ f, (s.screens[c].config.marksStand → f = (s.counts c).flagged s.screens[c].config) ∧
      FieldMoved s (s.judgeFlags c) s.gate c f := by
  obtain ⟨b, near⟩ := s.judgeNearFull_moves c
  have both := near.judgeFull c
  rw [Function.update_self, Function.update_idem] at both
  refine ⟨_, fun marks => ?_, both⟩
  have same := congrFun (near.counts.symm.trans (s.judgeNearFull_recounted c marks).counts) c
  rw [Function.update_self, Function.update_self] at same
  rw [same]
  rfl

section Chains

variable {s t : State} {g : GateCounter} {c : ScreenId} {f v : FieldCounts}

/-- The flags judged after counts that kept them have changed. -/
theorem Recounted.judgeFlags (h : Recounted s t g (Function.update s.counts c v) 0 [])
    (near : v.nearFull = (s.counts c).nearFull) (full : v.full = (s.counts c).full) :
    ∃ f, (s.screens[c].config.marksStand → f = v.flagged s.screens[c].config) ∧ FieldMoved s (t.judgeFlags c) g c f := by
  obtain ⟨f, flagged, moved⟩ := t.judgeFlags_moved c
  have own : t.counts c = v := (congrFun h.counts c).trans (Function.update_self _ _ _)
  have config : t.screens[c].config = s.screens[c].config := congrArg (·.config) (h.screens c)
  rw [own, config] at flagged
  refine ⟨f, flagged, ?_⟩
  have both := h.trans moved
  rw [h.gate, h.seq c, own, h.counts, Function.update_idem] at both
  have same : nearTold v f c s.screens[c].seq.clock = nearTold (s.counts c) f c s.screens[c].seq.clock ∧
      fullTold v f c s.screens[c].seq.clock = fullTold (s.counts c) f c s.screens[c].seq.clock := by
    simp only [nearTold, fullTold, near, full, and_self]
  rw [same.1, same.2] at both
  exact both

/-- The gates alone change. -/
theorem FieldMoved.modGate (s : State) (v : GateCounter → GateCounter) (c : ScreenId) :
    FieldMoved s (s.modGate v) (v s.gate) c (s.counts c) := by
  unfold FieldMoved
  rw [nearTold_same rfl, fullTold_same rfl, Function.update_eq_self]
  exact ⟨rfl, rfl, fun _ => rfl, rfl, rfl, Nat.le_add_right _ _, rfl, rfl, fun _ => .nil rfl rfl⟩

/-- A change of a lane comes before. -/
theorem FieldMoved.after_lane {l : LaneId} {w : Lane → Lane} (h : FieldMoved (s.modLane l w) t g c f) :
    FieldMoved s t g c f := ((Recounted.refl s).modLane l w).trans h

/-- R158: the console is told of the field. -/
theorem FieldMoved.tells (h : FieldMoved s t g c f) (room : s.cell.queued + 2 ≤ 16) : s.tells t (s.fieldTold t c) := by
  rw [State.fieldTold_eq, Recounted.counts h, Function.update_self]
  exact Recounted.told h room

/-- What a change of one field's counts leaves as it is. -/
theorem FieldMoved.frame (h : FieldMoved s t g c f) :
    t.gate = g ∧ t.screens[c].field = f ∧ t.screens[c].config = s.screens[c].config ∧
      t.screens[c].seq = s.screens[c].seq ∧ (∀ d, d ≠ c → t.screens[d] = s.screens[d]) ∧
      ({ s with gate := g } : State).sameButTraffic t :=
  ⟨Recounted.gate h, (Recounted.field h c).trans (Function.update_self _ _ _), congrArg (·.config) (Recounted.screens h c),
    Recounted.seq h c, fun _ other => Recounted.other h (Function.update_of_ne other _ _), Recounted.traffic h⟩

end Chains

/-! ## Cars that enter, back out and leave (R121 to R123) -/

section Lanes

variable {s : State} {l : LaneId}

/-- A lane with its pending admission cleared. -/
def Lane.cleared (n : Lane) : Lane := { n with pending := none }

theorem State.clearPending_recounted (s : State) (l : LaneId) (p : PendingAdmission) :
    Recounted s (s.clearPending l p) (s.gate.setLane l Lane.cleared)
      (Function.update s.counts p.screen ((s.counts p.screen).unpend p.vehicle)) 0 [] :=
  ((Recounted.refl s).modLane l Lane.cleared).change p.screen fun f => f.unpend p.vehicle

/-- R121: a car enters on its lane's pending admission. -/
theorem State.enters_pending {p : PendingAdmission} (h : s.gate.lanes[l].pending = some p) (v : Vehicle) :
    ∃ f, (s.screens[p.screen].config.marksStand →
        f = (((s.counts p.screen).unpend p.vehicle).gain p.vehicle).flagged s.screens[p.screen].config) ∧
      FieldMoved s (s.enters l v) (s.gate.setLane l Lane.cleared) p.screen f := by
  have entered := (s.clearPending_recounted l p).change p.screen fun f => f.gain p.vehicle
  rw [Function.update_self, Function.update_idem] at entered
  simp only [State.enters, h]
  exact entered.judgeFlags rfl rfl

/-- R121: a tailgate: the counts of a home field that a car enters unasked. -/
def FieldCounts.tailgate (f : FieldCounts) (v : Vehicle) : FieldCounts :=
  { f.gain v with tailgates := bump16 f.tailgates }

theorem State.enters_tailgate (h : s.gate.lanes[l].pending = none) {home : ScreenId} (there : s.gate.lanes[l].home = home)
    (v : Vehicle) :
    ∃ f, (s.screens[home].config.marksStand → f = ((s.counts home).tailgate v).flagged s.screens[home].config) ∧
      FieldMoved s (s.enters l v) s.gate home f := by
  have entered := (Recounted.refl s).change home fun f => f.tailgate v
  simp only [State.enters, h, there]
  exact entered.judgeFlags rfl rfl

/-- R122: a car backs out, and its place is given back. -/
theorem State.backsOut_pending {p : PendingAdmission} (h : s.gate.lanes[l].pending = some p) :
    FieldMoved s (s.backsOut l) (s.gate.setLane l Lane.cleared) p.screen
      ((s.counts p.screen).cleared s.screens[p.screen].config p.vehicle) := by
  have judged := (s.clearPending_recounted l p).judgeFull p.screen
  rw [Function.update_self, Function.update_idem] at judged
  simp only [State.backsOut, h]
  have still : ((s.counts p.screen).cleared s.screens[p.screen].config p.vehicle).nearFull = (s.counts p.screen).nearFull :=
    rfl
  unfold FieldMoved
  rw [nearTold_same still]
  exact judged.weaken (by decide)

theorem State.backsOut_none (h : s.gate.lanes[l].pending = none) :
    s.backsOut l = s.modGate fun g => { g with strayBackouts := bump16 g.strayBackouts } := by
  simp only [State.backsOut, h]

/-- R123: a car leaves at an EXIT lane. -/
theorem State.exits_moved {home : ScreenId} (there : s.gate.lanes[l].home = home) (v : Vehicle) :
    ∃ f, (s.screens[home].config.marksStand → f = ((s.counts home).lose v).flagged s.screens[home].config) ∧
      FieldMoved s (s.exits l v) s.gate home f := by
  have left := (Recounted.refl s).change home fun f => f.lose v
  simp only [State.exits, there]
  exact left.judgeFlags rfl rfl

theorem FieldCounts.lose_eq (f : FieldCounts) (v : Vehicle) :
    f.lose v =
      { f with
        occupancy := f.occupancy - 1, tall := min (if v = .tall then f.tall - 1 else f.tall) (f.occupancy - 1)
        underflows := if f.occupancy = 0 ∨ (v = .tall ∧ f.tall = 0) then bump16 f.underflows else f.underflows } := by
  simp only [FieldCounts.lose, Bool.or_eq_true, Bool.and_eq_true, decide_eq_true_eq]

/-! ## A PASSAGE taken (R121 to R123) -/

/-- A PASSAGE that is counted as unmatched, and one that is counted as stray. -/
def GateCounter.unmatched (g : GateCounter) : GateCounter := { g with unmatchedPassages := bump16 g.unmatchedPassages }

def GateCounter.stray (g : GateCounter) : GateCounter := { g with strayPassages := bump16 g.strayPassages }

variable {source vehicle : Byte} {v : Vehicle}

theorem State.takePassage_stranger (h : s.stranger source) (p : Passage) (vehicle : Byte) :
    s.takePassage source (some p) vehicle = s.modGate GateCounter.unmatched := by
  simp only [State.takePassage, State.laneOf_stranger h]
  rfl

theorem State.takePassage_unlisted (h : vehicleOf vehicle.toNat = none) (source : Byte) (p : Passage) :
    s.takePassage source (some p) vehicle = s.modGate GateCounter.unmatched := by
  simp only [State.takePassage, h]
  cases s.laneOf source.toNat <;> rfl

theorem State.takePassage_entered (h : s.fromLane source l) (known : vehicleOf vehicle.toNat = some v)
    (role : s.gate.lanes[l].role = .entry) : s.takePassage source (some .entered) vehicle = s.enters l v := by
  simp only [State.takePassage, State.laneOf_fromLane h, known, role]

theorem State.takePassage_backedOut (h : s.fromLane source l) (known : vehicleOf vehicle.toNat = some v)
    (role : s.gate.lanes[l].role = .entry) : s.takePassage source (some .backedOut) vehicle = s.backsOut l := by
  simp only [State.takePassage, State.laneOf_fromLane h, known, role]

theorem State.takePassage_exited (h : s.fromLane source l) (known : vehicleOf vehicle.toNat = some v)
    (role : s.gate.lanes[l].role = .exit) : s.takePassage source (some .exited) vehicle = s.exits l v := by
  simp only [State.takePassage, State.laneOf_fromLane h, known, role]

/-- A PASSAGE that does not fit its lane's role. -/
theorem State.takePassage_stray (h : s.fromLane source l) (known : vehicleOf vehicle.toNat = some v) {p : Passage}
    (misfit : s.gate.lanes[l].role = .entry ↔ p = .exited) :
    s.takePassage source (some p) vehicle = s.modGate GateCounter.stray := by
  simp only [State.takePassage, State.laneOf_fromLane h, known]
  cases role : s.gate.lanes[l].role with
  | entry =>
    rw [misfit.1 role]
    rfl
  | exit =>
    cases p with
    | entered | backedOut => rfl
    | exited => rw [misfit.2 rfl] at role; cases role

/-- R121 to R123, R158: a PASSAGE changes the counts of one field at most: that of its lane's pending admission, or else
of the lane's home. -/
theorem State.takePassage_moved (h : s.fromLane source l) (p : Passage) (vehicle : Byte) {c : ScreenId}
    (pending : ∀ a, s.gate.lanes[l].pending = some a → c = a.screen ∧ p ≠ .exited)
    (home : s.gate.lanes[l].pending = none → c = s.gate.lanes[l].home) :
    ∃ g f, FieldMoved s (s.takePassage source (some p) vehicle) g c f := by
  cases known : vehicleOf vehicle.toNat with
  | none =>
    rw [State.takePassage_unlisted known]
    exact ⟨_, _, .modGate s _ c⟩
  | some v =>
    have stray (misfit : s.gate.lanes[l].role = .entry ↔ p = .exited) :
        ∃ g f, FieldMoved s (s.takePassage source (some p) vehicle) g c f := by
      rw [State.takePassage_stray h known misfit]
      exact ⟨_, _, .modGate s _ c⟩
    cases role : s.gate.lanes[l].role with
    | entry =>
      cases p with
      | entered =>
        rw [State.takePassage_entered h known role]
        cases waits : s.gate.lanes[l].pending with
        | none =>
          obtain ⟨f, -, moved⟩ := State.enters_tailgate waits (home waits).symm v
          exact ⟨_, f, moved⟩
        | some a =>
          rw [(pending a waits).1]
          obtain ⟨f, -, moved⟩ := State.enters_pending waits v
          exact ⟨_, f, moved⟩
      | backedOut =>
        rw [State.takePassage_backedOut h known role]
        cases waits : s.gate.lanes[l].pending with
        | none =>
          rw [State.backsOut_none waits]
          exact ⟨_, _, .modGate s _ c⟩
        | some a =>
          rw [(pending a waits).1]
          exact ⟨_, _, State.backsOut_pending waits⟩
      | exited => exact stray (iff_of_true role rfl)
    | exit =>
      have out : s.gate.lanes[l].role ≠ .entry := by rw [role]; nofun
      cases p with
      | entered => exact stray (iff_of_false out nofun)
      | backedOut => exact stray (iff_of_false out nofun)
      | exited =>
        cases waits : s.gate.lanes[l].pending with
        | none =>
          rw [State.takePassage_exited h known role]
          obtain ⟨f, -, moved⟩ := State.exits_moved (home waits).symm v
          exact ⟨_, f, moved⟩
        | some a => exact absurd rfl (pending a waits).2

end Lanes

end Sys2Proof.Machine

namespace Sys2Proof.Proofs
open Machine

/-- The commands of the three passages. -/
def passageCommand (source vehicle : Byte) : Passage → Instr
  | .entered => .entered source vehicle
  | .backedOut => .backedOut source vehicle
  | .exited => .exited source vehicle

theorem exec_passage (s : State) (source vehicle : Byte) (p : Passage) :
    exec (passageCommand source vehicle p) s = .next ((s.cellSeen source).takePassage source (some p) vehicle) := by
  cases p <;> rfl

theorem exec_passage_lane {s : State} {source : Byte} {l : LaneId} (sender : s.fromLane source l) (vehicle : Byte)
    (p : Passage) :
    exec (passageCommand source vehicle p) s =
      .next ((s.modLane l Lane.heard).takePassage source (some p) vehicle) := by
  rw [exec_passage, State.cellSeen_lane sender]

/-- R158: what the console is told of a passage, in the field of the lane's pending admission or of its home. -/
theorem passage_tells {s t : State} {source vehicle : Byte} {l : LaneId} {c : ScreenId} (sender : s.fromLane source l)
    (room : s.hasRoom 2) {p : Passage}
    (pending : ∀ a, s.gate.lanes[l].pending = some a → c = a.screen ∧ p ≠ .exited)
    (home : s.gate.lanes[l].pending = none → c = s.gate.lanes[l].home)
    (next : exec (passageCommand source vehicle p) s = .next t) : s.tells t (s.fieldTold t c) := by
  rw [exec_passage_lane sender] at next
  obtain rfl := Host.Outcome.next.inj next
  have self : (s.modLane l Lane.heard).gate.lanes[l] = s.gate.lanes[l].heard := s.modLane_self l Lane.heard
  obtain ⟨g, f, moved⟩ := State.takePassage_moved sender.heard p vehicle (c := c)
    (by rw [self]; exact pending) (by rw [self]; exact home)
  exact moved.after_lane.tells room

/-- Settles O52: what each passage is counted as, the counts it moves, and what the console is told of them. -/
theorem passages : Obligations.Passages := by
  refine ⟨fun s source vehicle stranger => ?_, fun s source vehicle l sender => ?_,
    fun s t source vehicle l c sender room field => ?_⟩
  · intro unmatched
    have taken (p : Passage) : exec (passageCommand source vehicle p) s = .next unmatched := by
      rw [exec_passage, State.cellSeen_stranger stranger, State.takePassage_stranger stranger]
      rfl
    exact ⟨taken .entered, taken .backedOut, taken .exited⟩
  · intro seen unmatched stray cleared lane gained unpended only
    have heard : seen.fromLane source l := sender.heard
    have self : seen.gate.lanes[l] = lane.heard := s.modLane_self l Lane.heard
    have home : seen.gate.lanes[l].home = lane.home := congrArg (fun n => n.home) self
    have taken {p : Passage} {t : State} (h : seen.takePassage source (some p) vehicle = t) :
        exec (passageCommand source vehicle p) s = .next t :=
      (exec_passage_lane sender vehicle p).trans (congrArg Host.Outcome.next h)
    have emptied : seen.gate.setLane l Lane.cleared = cleared := s.gate.setLane_setLane l Lane.heard Lane.cleared
    refine ⟨fun unlisted => ?_, fun listed exit => ?_, fun listed entry => ?_, fun p listed entry waits marks => ?_,
      fun v code entry free marks => ?_, fun v code exit marks => ?_⟩
    · have none := vehicleOf_unlisted unlisted
      exact ⟨taken (p := .entered) (State.takePassage_unlisted none source _), taken (p := .backedOut)
        (State.takePassage_unlisted none source _), taken (p := .exited) (State.takePassage_unlisted none source _)⟩
    · obtain ⟨v, known⟩ := vehicleOf_listed listed
      have out : seen.gate.lanes[l].role ≠ .entry := by
        rw [self, show lane.heard.role = .exit from exit]
        nofun
      exact ⟨taken (p := .entered) (State.takePassage_stray heard known (iff_of_false out nofun)),
        taken (p := .backedOut) (State.takePassage_stray heard known (iff_of_false out nofun))⟩
    · obtain ⟨v, known⟩ := vehicleOf_listed listed
      have role := (congrArg Lane.role self).trans entry
      refine ⟨taken (p := .exited) (State.takePassage_stray heard known (iff_of_true role rfl)), fun idle => ?_⟩
      have free := (congrArg Lane.pending self).trans idle
      exact taken (p := .backedOut) ((State.takePassage_backedOut heard known role).trans (State.backsOut_none free))
    · obtain ⟨v, known⟩ := vehicleOf_listed listed
      have role := (congrArg Lane.role self).trans entry
      have pending := (congrArg Lane.pending self).trans waits
      obtain ⟨after, flagged, moved⟩ := State.enters_pending pending v
      have backed := State.backsOut_pending pending
      rw [flagged marks, emptied] at moved
      rw [emptied] at backed
      intro f g
      exact ⟨⟨_, taken (p := .entered) (State.takePassage_entered heard known role), moved.after_lane.frame⟩, _,
        taken (p := .backedOut) (State.takePassage_backedOut heard known role), backed.after_lane.frame⟩
    · have known : vehicleOf vehicle.toNat = some v := code ▸ vehicleOf_code v
      have role := (congrArg Lane.role self).trans entry
      obtain ⟨after, flagged, moved⟩ := State.enters_tailgate ((congrArg Lane.pending self).trans free) home v
      rw [flagged marks] at moved
      exact ⟨_, taken (p := .entered) (State.takePassage_entered heard known role), moved.after_lane.frame⟩
    · have known : vehicleOf vehicle.toNat = some v := code ▸ vehicleOf_code v
      have role := (congrArg Lane.role self).trans exit
      obtain ⟨after, flagged, moved⟩ := State.exits_moved home v
      rw [flagged marks, FieldCounts.lose_eq] at moved
      exact ⟨_, taken (p := .exited) (State.takePassage_exited heard known role), moved.after_lane.frame⟩
  · have admitted (a : PendingAdmission) (waits : s.gate.lanes[l].pending = some a) : c = a.screen := by
      rw [waits] at field
      exact field
    have home (idle : s.gate.lanes[l].pending = none) : c = s.gate.lanes[l].home := by
      rw [idle] at field
      exact field
    refine ⟨?_, fun idle next => ?_⟩
    · rintro (next | next)
      · exact passage_tells sender room (p := .entered) (fun a waits => ⟨admitted a waits, nofun⟩) home next
      · exact passage_tells sender room (p := .backedOut) (fun a waits => ⟨admitted a waits, nofun⟩) home next
    · exact passage_tells sender room (p := .exited) (fun a waits => nomatch idle.symm.trans waits) home next

end Sys2Proof.Proofs

/-! PROOFS. MENU and STATION writes, and the dispatch a raised limit tries (R130, R132, R138, R139), settling
`MenuAndStationWrite`. -/

namespace Sys2Proof.Machine

/-! ## The URGENT class (R40, R41): the kitchen's traffic leaves it as it is -/

/-- `t` follows from `s`, and its URGENT class is that of `s`. -/
def KeepsUrgent (s t : State) : Prop := t.cell.urgent = s.cell.urgent

theorem KeepsUrgent.of_cell {s t : State} (h : t.cell = s.cell) : KeepsUrgent s t := congrArg CellProcessor.urgent h

theorem KeepsUrgent.trans {s t u : State} (h : KeepsUrgent s t) (k : KeepsUrgent t u) : KeepsUrgent s u := Eq.trans k h

/-- What keeps the URGENT class of a state whose Cell Processor is that of `s` keeps that of `s`. -/
theorem KeepsUrgent.after {s t u : State} (k : KeepsUrgent t u) (h : t.cell = s.cell) : KeepsUrgent s u :=
  (KeepsUrgent.of_cell h).trans k

theorem State.raise_urgent (s : State) (e : Event) (n v : Nat) (c : Option ScreenId) :
    KeepsUrgent s (s.raise e n v c) := by
  rw [KeepsUrgent, (s.raise_raised e n v c).rest]

theorem State.handTicket_urgent (s : State) (t : TicketId) (v : Ticket) : KeepsUrgent s (s.handTicket t v).1 := by
  rw [KeepsUrgent, State.handTicket, State.handNormal_rest _ _ rfl]
  rfl

theorem KeepsUrgent.of_handTicket {s : State} {t : TicketId} {v : Ticket} {r : State × HandOver}
    (h : s.handTicket t v = r) : KeepsUrgent s r.1 := h ▸ s.handTicket_urgent t v

theorem State.ticketFailed_urgent (t : TicketId) (n : Nat) (s : State) : KeepsUrgent s (State.ticketFailed t n s) := by
  induction n generalizing s with
  | zero => rfl
  | succ n ih =>
    unfold State.ticketFailed
    split
    · rfl
    · simp only
      split
      · split
        · split
          · next queued => exact (KeepsUrgent.of_handTicket queued).after rfl
          · next dropped => exact ((KeepsUrgent.of_handTicket dropped).after rfl).trans (ih _)
        · exact (State.raise_urgent _ _ _ _ _).after (by
            simp only [State.modKitchen_cell, State.returnTicket_cell, State.modTicket_cell, State.modRouter_cell])
      · exact .of_cell rfl

theorem State.ticketOutcome_urgent (s : State) (t : TicketId) (n : Byte) (d : Bool) :
    KeepsUrgent s (s.ticketOutcome t n d) := by
  unfold State.ticketOutcome
  split
  · split
    · split <;> rfl
    · exact State.ticketFailed_urgent t 3 s
  · rfl

theorem State.sendHead_urgent (s : State) (k : KitchenId) (t : TicketId) (rest : List TicketId) :
    KeepsUrgent s (s.sendHead k t rest) := by
  unfold State.sendHead
  split
  · rfl
  · simp only
    split
    · next queued => exact (KeepsUrgent.of_handTicket queued).after rfl
    · next dropped => exact ((KeepsUrgent.of_handTicket dropped).after rfl).trans (State.ticketFailed_urgent t 3 _)

theorem State.dispatchUpTo_urgent (k : KitchenId) (n : Nat) (s : State) :
    KeepsUrgent s (State.dispatchUpTo k n s) := by
  induction n generalizing s with
  | zero => rfl
  | succ n ih =>
    unfold State.dispatchUpTo
    split
    · rfl
    · split
      · exact (s.sendHead_urgent k _ _).trans (ih _)
      · rfl

theorem State.dispatch_urgent (s : State) (k : KitchenId) : KeepsUrgent s (s.dispatch k) :=
  State.dispatchUpTo_urgent k _ s

theorem State.toldRemoved_urgent (s : State) (o : OwnCell) : KeepsUrgent s (s.toldRemoved o) := by
  unfold State.toldRemoved
  split
  · exact s.ticketOutcome_urgent _ _ _
  all_goals rfl

/-- R41: while fewer than 16 URGENT cells wait, another goes to their back, whatever room NORMAL cells leave it. -/
theorem State.handUrgent_back {s : State} {o : OwnCell} (urgent : o.kind.isUrgent = true)
    (few : s.cell.urgent.length < 16) : (s.handUrgent o).1.cell.urgent = s.cell.urgent ++ [o] := by
  rcases s.cell.handOver_cases o with ⟨-, -, kept, cell⟩ | ⟨-, -, last, -, -, gone, cell⟩ | ⟨full, only, -, -, -⟩
  · simp only [State.handUrgent, kept, cell, urgent, if_true]
  · simp only [State.handUrgent, gone]
    rw [State.toldRemoved_urgent, cell]
  · rw [CellProcessor.queued, only urgent] at full
    exact absurd few (Nat.not_lt.2 full)

theorem CellProcessor.queued_back (c : CellProcessor) (o : OwnCell) :
    CellProcessor.queued { c with normal := c.normal ++ [o] } = c.queued + 1 := by
  rw [CellProcessor.queued, List.length_append, ← Nat.add_assoc]
  rfl

/-! ## MENU entries (R130) -/

/-- R130: an alternate station in range, 0 for none. -/
theorem alternateOf_byte {n : Nat} (known : n ≤ 8) :
    alternateOf n = some (if n = 0 then none else some (Fin.ofNat 8 (n - 1))) := by
  rw [alternateOf, if_pos known]
  cases n with
  | zero => rfl
  | succ n =>
    have number : fromOne 8 (n + 1) = some ⟨n, by omega⟩ := dif_pos ⟨by omega, known⟩
    rw [number]
    exact congrArg (some ∘ some) (Fin.ext (Nat.mod_eq_of_lt known).symm)

/-- R130: an entry in its fields' ranges is stored clamped. -/
theorem menuItemOf_bytes (draw : Nat) {available primary alternate : Byte} (low high : Byte) (first : 1 ≤ primary.toNat)
    (last : primary.toNat ≤ 8) (known : alternate.toNat ≤ 8) :
    menuItemOf draw [available, primary, alternate, low, high] =
      some
        { available := looseFlag draw available, primary := Fin.ofNat 8 (primary.toNat - 1)
          alternate := if alternate = 0 then none else some (Fin.ofNat 8 (alternate.toNat - 1))
          portions := if twoBytes low high = 65535 then none else some (min 9999 (twoBytes low high)) } := by
  have station : fromOne 8 primary.toNat = some (Fin.ofNat 8 (primary.toNat - 1)) := by
    have number : fromOne 8 primary.toNat = some ⟨primary.toNat - 1, by omega⟩ := dif_pos ⟨first, last⟩
    rw [number]
    exact congrArg some (Fin.ext (Nat.mod_eq_of_lt (by omega)).symm)
  have none_iff : alternate.toNat = 0 ↔ alternate = 0 := BitVec.toNat_inj (y := 0)
  have clamped (n : Nat) : clampTo 0 9999 n = min 9999 n := Nat.max_eq_right (Nat.zero_le _)
  simp only [menuItemOf, byteAt, halfAt, List.getD_cons_zero, List.getD_cons_succ, station, alternateOf_byte known,
    none_iff, clamped]
  rfl

/-- R130: an entry that is stored names its stations in their ranges. -/
theorem menuItemOf_fits {draw : Nat} {e : List Byte} {v : MenuItem} (h : menuItemOf draw e = some v) :
    1 ≤ byteAt e 1 ∧ byteAt e 1 ≤ 8 ∧ byteAt e 2 ≤ 8 := by
  simp only [menuItemOf, Option.bind_eq_bind, Option.bind_eq_some_iff, Option.pure_def] at h
  obtain ⟨_, primary, _, alternate, -⟩ := h
  obtain ⟨first, last⟩ := fromOne_range primary
  refine ⟨first, last, ?_⟩
  by_contra outside
  rw [alternateOf, if_neg outside] at alternate
  cases alternate

/-- The MENU table, code 10, takes the write. -/
theorem State.writeCode_menu (s : State) (i : Fin 256) (e : List Byte) :
    State.writeCode 10 (BitVec.ofNat 16 i.val) e s = Written.out (s.writeMenu i.val e) := by
  have number : (BitVec.ofNat 16 i.val : Half).toNat = i.val := by
    rw [BitVec.toNat_ofNat]
    omega
  exact congrArg (fun n => Written.out (s.writeMenu n e)) number

/-! ## STATION entries (R132) -/

/-- R132: another kitchen station has the loop station. -/
def State.kitchenTaken (s : State) (k : KitchenId) (station : Nat) : Prop :=
  station ≠ 0 ∧ ∃ j, j ≠ k ∧ s.router.kitchens[j].loopStation = station

theorem mem_allKitchens (k : KitchenId) : k ∈ allKitchens := by
  revert k
  decide

theorem State.kitchenTaken_iff (s : State) (k : KitchenId) (station : Nat) :
    (station ≠ 0 ∧
      (allKitchens.any fun j => decide (j ≠ k) && decide (s.router.kitchens[j].loopStation = station)) = true) ↔
      s.kitchenTaken k station := by
  simp only [State.kitchenTaken, List.any_eq_true, mem_allKitchens, true_and, Bool.and_eq_true, decide_eq_true_eq]

theorem fromOne_kitchenIndex (k : KitchenId) : fromOne 8 (k.val + 1) = some k := by
  revert k
  decide

/-- R132: a kitchen station with an entry stored, clamped. -/
def State.stationStored (s : State) (k : KitchenId) (e : List Byte) : State :=
  s.modKitchen k fun v => v.configured (byteAt e 0) (clampTo 1 16 (byteAt e 1)) (clampTo 1 30 (byteAt e 2))

/-- R132: the entry conflicts with the tickets at the station. -/
def Kitchen.inUse (v : Kitchen) (e : List Byte) : Prop :=
  (byteAt e 0 ≠ v.loopStation ∧ 0 < v.sent) ∨ clampTo 1 16 (byteAt e 1) < v.sent

theorem State.writeStation_range (s : State) (k : KitchenId) {e : List Byte} (outside : 120 < byteAt e 0) :
    s.writeStation (k.val + 1) e = (s, .range) := by
  simp only [State.writeStation, fromOne_kitchenIndex, if_pos outside]

theorem State.writeStation_overlap {s : State} {k : KitchenId} {e : List Byte} (known : byteAt e 0 ≤ 120)
    (taken : s.kitchenTaken k (byteAt e 0)) : s.writeStation (k.val + 1) e = (s, .overlap) := by
  simp only [State.writeStation, fromOne_kitchenIndex, if_neg (Nat.not_lt.2 known)]
  exact if_pos ((s.kitchenTaken_iff k _).2 taken)

theorem State.writeStation_inUse {s : State} {k : KitchenId} {e : List Byte} (known : byteAt e 0 ≤ 120)
    (free : ¬ s.kitchenTaken k (byteAt e 0)) (busy : s.router.kitchens[k].inUse e) :
    s.writeStation (k.val + 1) e = (s, .inUse) := by
  simp only [State.writeStation, fromOne_kitchenIndex, if_neg (Nat.not_lt.2 known)]
  exact (if_neg fun taken => free ((s.kitchenTaken_iff k _).1 taken)).trans (if_pos busy)

/-- R132, R138: a write that passes its checks is applied, and tries dispatch where it raises the limit. -/
theorem State.writeStation_applied {s : State} {k : KitchenId} {e : List Byte} (known : byteAt e 0 ≤ 120)
    (free : ¬ s.kitchenTaken k (byteAt e 0)) (idle : ¬ s.router.kitchens[k].inUse e) :
    s.writeStation (k.val + 1) e =
      (if s.router.kitchens[k].limit < clampTo 1 16 (byteAt e 1) then (s.stationStored k e).dispatch k
       else s.stationStored k e, .done) := by
  simp only [State.writeStation, fromOne_kitchenIndex, if_neg (Nat.not_lt.2 known)]
  exact (if_neg fun taken => free ((s.kitchenTaken_iff k _).1 taken)).trans (if_neg idle)

theorem State.stationStored_kitchen (s : State) (k : KitchenId) (e : List Byte) :
    (s.stationStored k e).router.kitchens[k] =
      s.router.kitchens[k].configured (byteAt e 0) (clampTo 1 16 (byteAt e 1)) (clampTo 1 30 (byteAt e 2)) := by
  simp [State.stationStored]

/-- The STATION table, code 11, takes the write. -/
theorem State.writeCode_station (s : State) (k : KitchenId) (e : List Byte) :
    State.writeCode 11 (BitVec.ofNat 16 (k.val + 1)) e s = Written.out (s.writeStation (k.val + 1) e) := by
  have number : (BitVec.ofNat 16 (k.val + 1) : Half).toNat = k.val + 1 := by
    revert k
    decide
  exact congrArg (fun n => Written.out (s.writeStation n e)) number

/-- R132, R138: the dispatch of a raised limit sends nothing where the backlog is empty, the station is new or not
PRESENT, or has no room under its new limit. -/
theorem State.stationStored_sendsNone {s : State} {k : KitchenId} {e : List Byte}
    (h : s.router.kitchens[k].backlog = [] ∨ byteAt e 0 ≠ s.router.kitchens[k].loopStation ∨
      s.router.kitchens[k].state ≠ .present ∨ clampTo 1 16 (byteAt e 1) ≤ s.router.kitchens[k].sent) :
    (s.stationStored k e).sendsNone k := by
  rw [State.sendsNone, State.stationStored_kitchen]
  rcases h with empty | new | away | full
  · exact .inl empty
  · refine .inr (.inl fun present => ?_)
    simp only [Kitchen.configured, if_neg (Ne.symm new)] at present
    cases present
  · refine .inr (.inl fun present => away ?_)
    simp only [Kitchen.configured] at present
    split at present
    · exact present
    · cases present
  · exact .inr (.inr full)

/-- R132, R138: the head of a backlog sent by a write that raises its station's limit, and leaves it its loop station. -/
theorem State.stationStored_withSent (s : State) (k : KitchenId) {e : List Byte} (x : TicketId) (v : Ticket)
    (same : byteAt e 0 = s.router.kitchens[k].loopStation) :
    (s.stationStored k e).withSent k x v =
      { s with
        router :=
          { s.router with
            kitchens := s.router.kitchens.set k
              { s.router.kitchens[k] with
                limit := clampTo 1 16 (byteAt e 1), lateLimit := clampTo 1 30 (byteAt e 2)
                sent := s.router.kitchens[k].sent + 1, backlog := s.router.kitchens[k].backlog.tail }
            tickets := s.router.tickets.set x
              (some { v with state := .sent, attempts := 0, returned := false
                             lateTimer := some (clampTo 1 30 (byteAt e 2)) })
            serials := s.router.serials.set x (s.router.serials[x] + 1) }
        cell := { s.cell with normal := s.cell.normal ++ [s.nextTicket k x v] } } := by
  have stored : (s.stationStored k e).router.kitchens[k] =
      { s.router.kitchens[k] with limit := clampTo 1 16 (byteAt e 1), lateLimit := clampTo 1 30 (byteAt e 2) } := by
    rw [State.stationStored_kitchen, same]
    simp only [Kitchen.configured, if_true]
  have cell : (s.stationStored k e).nextTicket k x v = s.nextTicket k x v := by
    simp only [State.nextTicket, stored]
    rfl
  simp only [State.withSent, stored, cell]
  simp only [State.stationStored, State.modKitchen, State.modRouter, Vector.set_set]

/-- R138: a raised limit sends the only ticket that waits at its PRESENT station. -/
theorem State.stationStored_sendsOne {s : State} {k : KitchenId} {e : List Byte} {x : TicketId} {v : Ticket}
    (same : byteAt e 0 = s.router.kitchens[k].loopStation) (present : s.router.kitchens[k].state = .present)
    (space : s.router.kitchens[k].sent < clampTo 1 16 (byteAt e 1)) (backlog : s.router.kitchens[k].backlog = [x])
    (ticket : s.router.tickets[x] = some v) (here : v.kitchen = k) : (s.stationStored k e).sendsOne k x v := by
  have kitchen := s.stationStored_kitchen k e
  refine ⟨?_, ?_, ⟨[], ?_, .inl rfl⟩, ticket, here⟩
  · rw [kitchen]
    exact (if_pos same.symm).trans present
  · rw [kitchen]
    exact space
  · rw [kitchen]
    exact backlog

/-! ## The writes of the console, answered (R154, R155) -/

/-- R130: a MENU write out of range. -/
theorem State.takeWrite_menu_range {s : State} {m : Sender} (h : s.readyFor 1 m) (i : Fin 256)
    {available primary alternate low high : Byte}
    (outside : primary = 0 ∨ 8 < primary.toNat ∨ 8 < alternate.toNat) :
    (s.cellSeen m.source).takeWrite m 10 (BitVec.ofNat 16 i.val) [available, primary, alternate, low, high] =
      s.turnedAway m (writeReply 1 10 (BitVec.ofNat 16 i.val)) := by
  have none : menuItemOf s.countTaken.freeCount [available, primary, alternate, low, high] = none := by
    refine Option.eq_none_iff_forall_not_mem.2 fun v some => ?_
    obtain ⟨first, last, known⟩ : 1 ≤ primary.toNat ∧ primary.toNat ≤ 8 ∧ alternate.toNat ≤ 8 := menuItemOf_fits some
    rcases outside with rfl | beyond | beyond
    · exact absurd first (by decide)
    · exact absurd last (Nat.not_le.2 beyond)
    · exact absurd known (Nat.not_le.2 beyond)
  have owner := s.countTaken.writeCode_menu i [available, primary, alternate, low, high]
  simp only [State.writeMenu, fromZero_index, none] at owner
  exact State.write_refused h (Nat.le_refl 1) rfl owner rfl

/-- R130: a MENU write whose entry is stored. -/
theorem State.takeWrite_menu_stored {s : State} {m : Sender} (h : s.readyFor 1 m) (i : Fin 256) {e : List Byte}
    {v : MenuItem} (check : writeCheck 10 e = none) (stored : menuItemOf s.freeCount e = some v) :
    (s.cellSeen m.source).takeWrite m 10 (BitVec.ofNat 16 i.val) e =
      ({ s with
          freeCount := s.freeCount + 1
          router := { s.router with menu := s.router.menu.set i v } } : State).answered m
        (writeReply 0 10 (BitVec.ofNat 16 i.val)) := by
  have stored : menuItemOf s.countTaken.freeCount e = some v := stored
  have owner := s.countTaken.writeCode_menu i e
  simp only [State.writeMenu, fromZero_index, stored] at owner
  have room : s.cell.queued < 16 := h.room.queued
  exact State.write_done h check owner room

section StationWrites

variable {s : State} {m : Sender} {k : KitchenId} {e : List Byte}

/-- R132: a STATION write refused. -/
theorem State.takeWrite_station_refused (h : s.readyFor 1 m) (check : writeCheck 11 e = none) {r : Reply}
    (owner : s.countTaken.writeStation (k.val + 1) e = (s.countTaken, r)) (refuses : r.refuses = true) :
    (s.cellSeen m.source).takeWrite m 11 (BitVec.ofNat 16 (k.val + 1)) e =
      s.turnedAway m (writeReply r.code 11 (BitVec.ofNat 16 (k.val + 1))) :=
  State.write_refused h (Nat.le_refl 1) check
    ((s.countTaken.writeCode_station k e).trans (congrArg Written.out owner)) refuses

/-- R132: a STATION write applied, the queue with room left for its reply. -/
theorem State.takeWrite_station_done (h : s.readyFor 1 m) (check : writeCheck 11 e = none) {u : State}
    (owner : s.countTaken.writeStation (k.val + 1) e = ({ u with mgmt := s.countTaken.mgmt }, .done))
    (room : u.cell.queued < 16) (site : u.mgmt = s.mgmt) :
    (s.cellSeen m.source).takeWrite m 11 (BitVec.ofNat 16 (k.val + 1)) e =
      u.answered m (writeReply 0 11 (BitVec.ofNat 16 (k.val + 1))) := by
  have done := State.write_done h check
    ((s.countTaken.writeCode_station k e).trans (congrArg Written.out owner)) room
  refine done.trans ?_
  rw [State.answered, site]
  rfl

end StationWrites

end Sys2Proof.Machine

namespace Sys2Proof.Proofs
open Machine

/-- Settles O29: a MENU entry refused or stored, and a STATION write's checks in order, with the ticket that a raised limit
sends. -/
theorem menuAndStationWrite : Obligations.MenuAndStationWrite := by
  refine ⟨?_, ?_⟩
  · intro s m i available primary alternate low high h index write listed
    have runs : exec write s =
        .next ((s.cellSeen m.source).takeWrite m 10 index [available, primary, alternate, low, high]) := by
      simp only [List.mem_cons, List.not_mem_nil, or_false] at listed
      rcases listed with rfl | rfl <;> rfl
    refine ⟨fun outside => runs.trans (congrArg Host.Outcome.next (State.takeWrite_menu_range h i outside)),
      fun first last known => ⟨looseFlag s.freeCount available, looseFlag_readsAs _ _, ?_⟩⟩
    exact runs.trans (congrArg Host.Outcome.next
      (State.takeWrite_menu_stored h i rfl (menuItemOf_bytes _ low high first last known)))
  · intro s m k station b1 b2 h index write old limit taken inUse new
    let e : List Byte := [station, b1, b2]
    let counted := s.countTaken
    have other : taken ↔ counted.kitchenTaken k (byteAt e 0) :=
      and_congr_left' (not_congr BitVec.toNat_inj.symm)
    have applied (known : station.toNat ≤ 120) (free : ¬ taken) (idle : ¬ inUse) :=
      State.writeStation_applied (s := counted) (k := k) (e := e) known (mt other.2 free) idle
    have raised (known : station.toNat ≤ 120) (free : ¬ taken) (idle : ¬ inUse) (more : old.limit < limit) :
        counted.writeStation (k.val + 1) e = ((counted.stationStored k e).dispatch k, .done) :=
      (applied known free idle).trans (congrArg (·, Reply.done) (if_pos more))
    have silent (known : station.toNat ≤ 120) (free : ¬ taken) (idle : ¬ inUse)
        (nothing : limit ≤ old.limit ∨ (counted.stationStored k e).sendsNone k) :
        exec write s = .next (new.answered m (writeReply 0 11 index)) := by
      refine congrArg Host.Outcome.next (State.takeWrite_station_done h rfl (u := new)
        ((applied known free idle).trans (congrArg (·, Reply.done) ?_)) h.room.queued rfl)
      split
      · next more => exact State.dispatch_none (nothing.resolve_left (Nat.not_le.2 more))
      · rfl
    refine ⟨fun outside => congrArg Host.Outcome.next
        (State.takeWrite_station_refused h rfl (State.writeStation_range (e := e) _ k outside) rfl),
      fun known taken => congrArg Host.Outcome.next
        (State.takeWrite_station_refused h rfl (State.writeStation_overlap (e := e) known (other.1 taken)) rfl),
      fun known free busy => congrArg Host.Outcome.next
        (State.takeWrite_station_refused h rfl (State.writeStation_inUse (e := e) known (mt other.2 free) busy) rfl),
      fun known free idle nothing => silent known free idle (nothing.imp_right fun empty =>
        State.stationStored_sendsNone (.inl empty)),
      fun known free idle more => ?_,
      fun known free idle more nothing => silent known free idle (.inr (State.stationStored_sendsNone (.inr nothing))),
      fun x v known free same present more space backlog ticket here room => ?_⟩
    · have handed := State.write_handed h rfl
        ((counted.writeCode_station k e).trans (congrArg Written.out (raised known free idle more)))
      refine ⟨_, congrArg Host.Outcome.next handed, ?_, ?_⟩
      · exact ((State.dispatch_kept _ k).trans (State.handUrgent_kept _ _)).trans (Kept.draw _)
      · have urgent : ((counted.stationStored k e).dispatch k).cell.urgent = s.cell.urgent := State.dispatch_urgent _ k
        have few : s.cell.urgent.length < 16 := by
          have fits : s.cell.urgent.length + s.cell.normal.length + 1 ≤ 16 := h.room
          omega
        rw [State.draw_cell, State.handUrgent_back rfl (urgent ▸ few), urgent]
        rfl
    · have idle : ¬ inUse := by
        rintro (⟨new, -⟩ | full)
        · exact new same
        · exact absurd full (Nat.not_lt.2 (Nat.le_of_lt space))
      have one : (counted.stationStored k e).sendsOne k x v :=
        State.stationStored_sendsOne same present space backlog ticket here
      have before : s.cell.queued < 16 := Nat.lt_of_succ_lt room.queued
      have sent : (counted.stationStored k e).dispatch k = _ :=
        (State.dispatch_one one before).trans (counted.stationStored_withSent k x v same)
      have only : counted.router.kitchens[k].backlog = [x] := backlog
      have loopStation : counted.router.kitchens[k].loopStation = station.toNat := same.symm
      rw [only, List.tail_cons, State.nextTicket, loopStation] at sent
      refine congrArg Host.Outcome.next (State.takeWrite_station_done h rfl
        ((raised known free idle more).trans (congrArg (·, Reply.done) sent)) ?_ rfl)
      exact (s.cell.queued_back _).trans_lt room.queued

end Sys2Proof.Proofs

/-! PROOFS. ORDER_PLACE (R134 to R139): the reply, the checks of R135, and orders of one ticket and of two, settling
`OrderPlace`. -/

namespace Sys2Proof.Machine

/-! ## The reply (R137) -/

def orderReplyCell (m : Sender) (v : PlaceVerdict) : OwnCell :=
  { kind := .orderReply, dest := m.source.toNat, payload := v.bytes, echo := some m.tag }

/-- `s` with an ORDER_REPLY at the back of the NORMAL class. -/
def State.withReply (s : State) (m : Sender) (v : PlaceVerdict) : State :=
  { s with cell := { s.cell with normal := s.cell.normal ++ [orderReplyCell m v] } }

theorem State.replyOrder_room {s : State} (room : s.cell.queued < 16) (m : Sender) (v : PlaceVerdict) :
    s.replyOrder m v = s.withReply m v := by
  have queued : s.handNormal (orderReplyCell m v) = (s.withReply m v, .queued) := State.handNormal_room room rfl
  unfold orderReplyCell at queued
  simp only [State.replyOrder, queued]

/-! ## Repeats (R135) -/

/-- R135: the order came from this sender with this tag. -/
def Order.placedBy (o : Order) (m : Sender) : Prop := o.origin = m.source.toNat ∧ o.placeTag = m.tag

theorem Order.placedBy_iff (o : Order) (m : Sender) :
    (o.origin == m.source.toNat && o.placeTag == m.tag) = true ↔ o.placedBy m := by
  rw [Bool.and_eq_true, beq_iff_eq, beq_iff_eq, Order.placedBy]

theorem State.repeats_none {s : State} {m : Sender} (isNew : ∀ o ∈ s.router.orders, ¬ o.placedBy m) :
    s.repeats m = none :=
  List.find?_eq_none.2 fun o listed same => isNew o listed ((o.placedBy_iff m).1 same)

theorem State.repeats_first {s : State} {m : Sender} {before after : List Order} {o : Order}
    (orders : s.router.orders = before ++ o :: after) (own : o.placedBy m) (others : ∀ v ∈ before, ¬ v.placedBy m) :
    s.repeats m = some o := by
  refine List.find?_eq_some_iff_append.2 ⟨(o.placedBy_iff m).2 own, before, after, orders, fun v listed => ?_⟩
  rw [Bool.not_eq_true', Bool.eq_false_iff]
  exact mt (v.placedBy_iff m).1 (others v listed)

/-- R135: a repeated ORDER_PLACE is answered with the number of its order. -/
theorem State.takeOrderPlace_repeat {s : State} {m : Sender} {o : Order} (found : s.repeats m = some o)
    (room : s.cell.queued < 16) (screen : Byte) (raw : List (Byte × Byte)) :
    s.takeOrderPlace m screen raw =
      (s.modRouter fun r => { r with repeated := bump16 r.repeated }).withReply m (.placed o.number) := by
  simp only [State.takeOrderPlace, found]
  exact State.replyOrder_room (s := s.modRouter fun r => { r with repeated := bump16 r.repeated }) room m _

/-! ## The lines, and the order as a whole (R135 steps 1 and 2) -/

/-- The lines of an order from their bytes. -/
def orderLines (raw : List (Byte × Byte)) : List OrderLine := raw.map fun p => { item := p.1, quantity := p.2.toNat }

/-- R135 step 1: a screen, a count of lines or a quantity out of range. -/
def badOrder (screen : Byte) (raw : List (Byte × Byte)) : Prop :=
  4 < screen.toNat ∨ raw = [] ∨ 8 < raw.length ∨ ∃ l ∈ raw, l.2 = 0 ∨ 15 < l.2.toNat

theorem badOrder_iff (screen : Byte) (raw : List (Byte × Byte)) :
    (4 < screen.toNat ∨ orderLines raw = [] ∨ 8 < (orderLines raw).length ∨
      (orderLines raw).any (fun l => l.quantity = 0 ∨ 15 < l.quantity)) ↔ badOrder screen raw := by
  have zero (q : Byte) : q.toNat = 0 ↔ q = 0 := BitVec.toNat_inj (y := 0)
  simp only [orderLines, badOrder, List.map_eq_nil_iff, List.length_map, List.any_map, List.any_eq_true,
    Function.comp_apply, decide_eq_true_eq, zero]

/-- R135 step 2: ordering is closed to walk-ups, or on the order's screen. -/
def State.closedTo (s : State) (screen : Byte) : Prop :=
  (screen = 0 ∧ s.mgmt.site.walkUp = false) ∨ ∃ c : ScreenId, screen.toNat = c.val + 1 ∧ s.screens[c].ordering = .closed

theorem fromOne_eq_some_iff {k n : Nat} {i : Fin k} : fromOne k n = some i ↔ n = i.val + 1 := by
  constructor
  · intro h
    unfold fromOne at h
    split at h
    · next range =>
      cases h
      exact (Nat.sub_add_cancel range.1).symm
    · cases h
  · rintro rfl
    have range : 1 ≤ i.val + 1 ∧ i.val + 1 ≤ k := ⟨by omega, i.isLt⟩
    exact dif_pos range

theorem State.orderingClosed_iff (s : State) {screen : Byte} (known : screen.toNat ≤ 4) :
    s.orderingClosed (fromOne 4 screen.toNat) = true ↔ s.closedTo screen := by
  unfold State.closedTo
  cases h : fromOne 4 screen.toNat with
  | none =>
    have walkUp : screen = 0 := BitVec.eq_of_toNat_eq (by
      unfold fromOne at h
      split at h
      · cases h
      · next out =>
        have zero : screen.toNat = 0 := by omega
        exact zero)
    subst walkUp
    have nowhere : ¬ ∃ c : ScreenId, (0 : Byte).toNat = c.val + 1 ∧ s.screens[c].ordering = .closed :=
      fun ⟨c, number, _⟩ => absurd number (by simp)
    simp only [State.orderingClosed, Bool.not_eq_true', true_and, nowhere, or_false]
  | some c =>
    have number := fromOne_eq_some_iff.1 h
    have seated : screen ≠ 0 := by
      rintro rfl
      exact absurd number (by simp)
    have only (d : ScreenId) : screen.toNat = d.val + 1 ↔ d = c := by
      rw [number, Nat.add_right_cancel_iff, Fin.ext_iff, eq_comm]
    simp only [State.orderingClosed, decide_eq_true_eq, seated, false_and, false_or, only, exists_eq_left]

/-- R135: an order that steps 1 and 2 let pass. -/
structure State.opensTo (s : State) (screen : Byte) (raw : List (Byte × Byte)) : Prop where
  fits : ¬ badOrder screen raw
  opened : ¬ s.closedTo screen

theorem badOrder.known {screen : Byte} {raw : List (Byte × Byte)} (h : ¬ badOrder screen raw) : screen.toNat ≤ 4 :=
  Nat.not_lt.1 fun beyond => h (.inl beyond)

theorem State.judgePlace_bad (s : State) {screen : Byte} {raw : List (Byte × Byte)} (h : badOrder screen raw) :
    s.judgePlace screen (orderLines raw) = .error .badOrder := if_pos ((badOrder_iff screen raw).2 h)

theorem State.judgePlace_closed {s : State} {screen : Byte} {raw : List (Byte × Byte)} (fits : ¬ badOrder screen raw)
    (closed : s.closedTo screen) : s.judgePlace screen (orderLines raw) = .error .ordersClosed := by
  refine (if_neg (mt (badOrder_iff screen raw).1 fits)).trans (if_pos ?_)
  exact (s.orderingClosed_iff (badOrder.known fits)).2 closed

theorem State.judgePlace_open {s : State} {screen : Byte} {raw : List (Byte × Byte)} (h : s.opensTo screen raw) :
    s.judgePlace screen (orderLines raw) =
      match s.chooseLines (orderLines raw) 1 (orderLines raw) with
      | .error v => .error v
      | .ok chosen =>
        if 128 ≤ s.router.orders.length ∨ s.router.freeTickets.length < (distinctKitchens chosen).length then
          .error .tableFull
        else .ok chosen := by
  refine (if_neg (mt (badOrder_iff screen raw).1 h.fits)).trans (if_neg ?_)
  exact mt (s.orderingClosed_iff (badOrder.known h.fits)).1 h.opened

/-! ## The lines one by one (R135 step 3) -/

/-- R135 step 3: the station that an item is made at. -/
def State.servedAt (s : State) (d : MenuItem) (k : KitchenId) : Prop :=
  let present (j : KitchenId) : Prop := s.router.kitchens[j].state = .present
  (k = d.primary ∧ present k) ∨ (¬ present d.primary ∧ d.alternate = some k ∧ present k)

theorem State.servedAt.present {s : State} {d : MenuItem} {k : KitchenId} (h : s.servedAt d k) :
    s.router.kitchens[k].state = .present := by
  rcases h with ⟨-, present⟩ | ⟨-, -, present⟩ <;> exact present

/-- R135 step 3: no station that an item is made at is PRESENT. -/
structure State.unserved (s : State) (d : MenuItem) : Prop where
  primary : s.router.kitchens[d.primary].state ≠ .present
  alternate : ∀ k, d.alternate = some k → s.router.kitchens[k].state ≠ .present

/-- R135 step 3: an item has the portions, or counts none. -/
def MenuItem.holds (d : MenuItem) (n : Nat) : Prop := ∀ p, d.portions = some p → n ≤ p

theorem MenuItem.not_holds {d : MenuItem} {n : Nat} (h : ¬ d.holds n) : ∃ p, d.portions = some p ∧ p < n := by
  simpa only [MenuItem.holds, not_forall, exists_prop, Nat.not_le] using h

section Lines

variable {s : State} {all : List OrderLine} {l : OrderLine}

theorem State.chooseLine_unknown (off : (s.menuItem l.item).available = false) (k : Nat) :
    s.chooseLine all k l = .error (.unknownItem k) := by
  simp only [State.chooseLine, off, Bool.not_false, if_true]

theorem State.chooseLine_soldOut {p : Nat} (on : (s.menuItem l.item).available = true)
    (counted : (s.menuItem l.item).portions = some p) (short : p < totalOf all l.item) (k : Nat) :
    s.chooseLine all k l = .error (.soldOut k) := by
  simp only [State.chooseLine, on, counted, short, Bool.not_true, Bool.false_eq_true, if_false, decide_true, if_true]

theorem State.chooseLine_stocked (on : (s.menuItem l.item).available = true)
    (stocked : (s.menuItem l.item).holds (totalOf all l.item)) (k : Nat) :
    s.chooseLine all k l =
      if s.kitchenPresent (s.menuItem l.item).primary then .ok (s.menuItem l.item).primary
      else
        match (s.menuItem l.item).alternate with
        | some a => if s.kitchenPresent a then .ok a else .error (.noStation k)
        | none => .error (.noStation k) := by
  have enough : (match (s.menuItem l.item).portions with
      | some p => decide (p < totalOf all l.item)
      | none => false) = false := by
    split
    · next p counted => exact decide_eq_false (Nat.not_lt.2 (stocked p counted))
    · rfl
  unfold State.chooseLine
  simp only [on, Bool.not_true, Bool.false_eq_true, if_false]
  exact if_neg (Bool.eq_false_iff.1 enough)

theorem State.chooseLine_noStation (on : (s.menuItem l.item).available = true)
    (stocked : (s.menuItem l.item).holds (totalOf all l.item)) (away : s.unserved (s.menuItem l.item)) (k : Nat) :
    s.chooseLine all k l = .error (.noStation k) := by
  rw [State.chooseLine_stocked on stocked]
  simp only [State.kitchenPresent, decide_eq_true_eq]
  rw [if_neg away.primary]
  split
  · next a alternate => exact if_neg (away.alternate a alternate)
  · rfl

theorem State.chooseLine_served {c : KitchenId} (on : (s.menuItem l.item).available = true)
    (stocked : (s.menuItem l.item).holds (totalOf all l.item)) (serves : s.servedAt (s.menuItem l.item) c) (k : Nat) :
    s.chooseLine all k l = .ok c := by
  rw [State.chooseLine_stocked on stocked]
  simp only [State.kitchenPresent, decide_eq_true_eq]
  rcases serves with ⟨rfl, present⟩ | ⟨away, alternate, present⟩
  · exact if_pos present
  · rw [if_neg away, alternate]
    exact if_pos present

theorem totalOf_one (i : Byte) (q : Nat) : totalOf [⟨i, q⟩] i = q := by simp [totalOf]

theorem totalOf_same (i : Byte) (q r : Nat) : totalOf [⟨i, q⟩, ⟨i, r⟩] i = q + r := by simp [totalOf]

theorem totalOf_first {i j : Byte} (ne : i ≠ j) (q r : Nat) : totalOf [⟨i, q⟩, ⟨j, r⟩] i = q := by
  simp [totalOf, ne.symm]

theorem totalOf_second {i j : Byte} (ne : i ≠ j) (q r : Nat) : totalOf [⟨i, q⟩, ⟨j, r⟩] j = r := by
  simp [totalOf, ne]

end Lines

/-! ## The order's stations, tickets and number (R135 step 4, R136) -/

theorem distinctKitchens_one (k : KitchenId) : distinctKitchens [k] = [k] := by
  revert k
  decide

theorem distinctKitchens_same (k : KitchenId) : distinctKitchens [k, k] = [k] := by
  revert k
  decide

theorem distinctKitchens_two {j k : KitchenId} (ne : j ≠ k) :
    distinctKitchens [j, k] = if j < k then [j, k] else [k, j] := by
  revert j k
  decide

theorem Router.mem_freeTickets {r : Router} {x : TicketId} : x ∈ r.freeTickets ↔ r.tickets[x] = none := by
  simp only [Router.freeTickets, List.mem_filter, List.mem_finRange, true_and, Option.isNone_iff_eq_none]

theorem Router.freeTickets_nodup (r : Router) : r.freeTickets.Nodup := (List.nodup_finRange 256).filter _

/-- R136: the tickets an order of one station takes its own from. -/
theorem Router.freeTickets_cons {r : Router} (h : ∃ x : TicketId, r.tickets[x] = none) :
    ∃ x more, r.freeTickets = x :: more ∧ r.tickets[x] = none := by
  obtain ⟨y, free⟩ := h
  obtain ⟨x, more, pool⟩ := List.exists_cons_of_ne_nil (List.ne_nil_of_mem (Router.mem_freeTickets.2 free))
  exact ⟨x, more, pool, Router.mem_freeTickets.1 (pool ▸ List.mem_cons_self)⟩

/-- R136: the tickets an order of two stations takes its own from. -/
theorem Router.freeTickets_cons_cons {r : Router}
    (h : ∃ x y : TicketId, x ≠ y ∧ r.tickets[x] = none ∧ r.tickets[y] = none) :
    ∃ x y more, r.freeTickets = x :: y :: more ∧ x ≠ y ∧ r.tickets[x] = none ∧ r.tickets[y] = none := by
  obtain ⟨a, b, ne, freeA, freeB⟩ := h
  obtain ⟨x, more, pool, freeX⟩ := Router.freeTickets_cons ⟨a, freeA⟩
  have distinct := r.freeTickets_nodup
  have here := Router.mem_freeTickets.2 freeA
  have there := Router.mem_freeTickets.2 freeB
  rw [pool] at distinct here there
  cases more with
  | nil => exact absurd ((List.mem_singleton.1 here).trans (List.mem_singleton.1 there).symm) ne
  | cons y more =>
    refine ⟨x, y, more, pool, ?_, freeX, Router.mem_freeTickets.1 (pool ▸ by simp)⟩
    rintro rfl
    exact (List.nodup_cons.1 distinct).1 List.mem_cons_self

theorem Router.freeTickets_lt_two {r : Router}
    (single : ∀ x y : TicketId, r.tickets[x] = none → r.tickets[y] = none → x = y) : r.freeTickets.length < 2 := by
  by_contra two
  have distinct := r.freeTickets_nodup
  match pool : r.freeTickets, two, distinct with
  | x :: y :: more, _, distinct =>
    have same := single x y (Router.mem_freeTickets.1 (pool ▸ by simp)) (Router.mem_freeTickets.1 (pool ▸ by simp))
    exact (List.nodup_cons.1 distinct).1 (same ▸ List.mem_cons_self)
  | [_], two, _ => exact two (by simp)
  | [], two, _ => exact two (by simp)

theorem State.order?_none {s : State} {n : Nat} (free : ∀ o ∈ s.router.orders, o.number ≠ n) : s.order? n = none :=
  List.find?_eq_none.2 fun o listed same => free o listed (beq_iff_eq.1 same)

/-- R136 step 2: a number that no live order holds is taken. -/
theorem State.freeNumber_free {s : State} {n : Nat} (free : ∀ o ∈ s.router.orders, o.number ≠ n) (fuel : Nat) :
    s.freeNumber (fuel + 1) n = n := by
  rw [State.freeNumber, State.order?_none free]
  rfl

/-- R136 step 2: a number that a live order holds is passed over. -/
theorem State.freeNumber_held {s : State} {n : Nat} (held : ∃ o ∈ s.router.orders, o.number = n) (fuel : Nat) :
    s.freeNumber (fuel + 1) n = s.freeNumber fuel (nextOrderNumber n) := by
  obtain ⟨o, listed, number⟩ := held
  have found : (s.order? n).isSome = true := List.find?_isSome.2 ⟨o, listed, beq_iff_eq.2 number⟩
  rw [State.freeNumber, if_pos found]

theorem nextOrderNumber_wraps {n : Nat} (h : n ≤ 999) : nextOrderNumber n = if n = 999 then 1 else n + 1 := by
  have last : 999 ≤ n ↔ n = 999 := by omega
  simp only [nextOrderNumber, last]

/-- R136 step 2: the number an order takes is the next, or where a live order holds that, the one after it. -/
theorem State.freeNumber_either {s : State} {number : Nat} (high : s.router.nextNumber ≤ 999)
    (free : ∀ o ∈ s.router.orders, o.number ≠ number)
    (counted : number = s.router.nextNumber ∨
      (number = nextOrderNumber s.router.nextNumber ∧ ∃ o ∈ s.router.orders, o.number = s.router.nextNumber)) :
    s.freeNumber 999 s.router.nextNumber = number ∧ number ≤ 999 := by
  rcases counted with rfl | ⟨rfl, held⟩
  · exact ⟨State.freeNumber_free free 998, high⟩
  · exact ⟨(State.freeNumber_held held 998).trans (State.freeNumber_free free 997), (nextOrderNumber_range _).2⟩

/-! ## The order entered (R136) -/

/-- R136 step 1: the menu after a line has taken its portions. -/
def sellFrom (menu : Vector MenuItem 256) (l : OrderLine) : Vector MenuItem 256 :=
  let i : Fin 256 := Fin.ofNat 256 l.item.toNat
  menu.set i { menu[i] with portions := menu[i].portions.map fun n => n - l.quantity }

theorem sellFrom_two {i₁ i₂ : Byte} (ne : i₁ ≠ i₂) (menu : Vector MenuItem 256) (q₁ q₂ : Nat) :
    [⟨i₁, q₁⟩, ⟨i₂, q₂⟩].foldl sellFrom menu =
      let i : Fin 256 := Fin.ofNat 256 i₁.toNat
      let j : Fin 256 := Fin.ofNat 256 i₂.toNat
      (menu.set i { menu[i] with portions := menu[i].portions.map fun n => n - q₁ }).set j
        { menu[j] with portions := menu[j].portions.map fun n => n - q₂ } := by
  have entries : (Fin.ofNat 256 i₁.toNat).val ≠ (Fin.ofNat 256 i₂.toNat).val := by
    simp only [Fin.ofNat, Nat.mod_eq_of_lt (BitVec.isLt _)]
    exact fun same => ne (BitVec.eq_of_toNat_eq same)
  simp only [List.foldl_cons, List.foldl_nil, sellFrom, Fin.getElem_fin, Vector.getElem_set_ne _ _ entries]

theorem State.takePortions_all (s : State) (lines : List OrderLine) :
    lines.foldl State.takePortions s = s.modRouter fun r => { r with menu := lines.foldl sellFrom r.menu } := by
  induction lines generalizing s with
  | nil => rfl
  | cons l lines ih => exact ih _

/-- The record of an order just accepted. -/
def newOrder (m : Sender) (screen : Option ScreenId) (lines : List OrderLine) (number : Nat) (rush : Bool)
    (tickets : List TicketId) : Order :=
  { number := number, screen := screen, origin := m.source.toNat, placeTag := m.tag, state := .opened, rush := rush
    late := false, lines := lines, tickets := tickets, callCount := 0, recallLeft := none, callActive := false }

/-- The record of a ticket just made. -/
def newTicket (number : Nat) (rush : Bool) (k : KitchenId) (lines : List OrderLine) : Ticket :=
  { order := number, kitchen := k, lines := lines, state := .backlog, rush := rush, returned := false, attempts := 0
    lateTimer := none }

/-- R136, R137: an order accepted and answered, its tickets still to be made. -/
def State.accepted (s : State) (m : Sender) (o : Order) : State :=
  { s with
    router :=
      { s.router with
        menu := o.lines.foldl sellFrom s.router.menu, nextNumber := nextOrderNumber o.number
        placed := bump16 s.router.placed, orders := s.router.orders ++ [o] }
    cell := { s.cell with normal := s.cell.normal ++ [orderReplyCell m (.placed o.number)] } }

theorem State.makeTicket_withReply (s : State) (m : Sender) (v : PlaceVerdict) (number : Nat) (rush : Bool)
    (made : List (TicketId × KitchenId × List OrderLine)) :
    (made.foldl (State.makeTicket number rush) s).withReply m v =
      made.foldl (State.makeTicket number rush) (s.withReply m v) := by
  induction made generalizing s with
  | nil => rfl
  | cons t made ih => exact ih _

/-- R136, R137: the tickets of an order made once it is answered. -/
theorem State.enterOrder_replied {s : State} (room : s.cell.queued < 16) (m : Sender) (screen : Option ScreenId)
    (lines : List OrderLine) (chosen : List KitchenId) (number : Nat) :
    let pool := s.router.freeTickets.take (distinctKitchens chosen).length
    (s.enterOrder m screen lines chosen number).replyOrder m (.placed number) =
      (pool.zip ((distinctKitchens chosen).map fun k => (k, linesFor lines chosen k))).foldl
        (State.makeTicket number (s.isRush screen))
        (s.accepted m (newOrder m screen lines number (s.isRush screen) pool)) := by
  have cell : (s.enterOrder m screen lines chosen number).cell = s.cell := by
    rw [State.enterOrder, State.takePortions_all]
    exact State.foldl_cell (State.makeTicket number (s.isRush screen)) (fun _ _ => rfl) _ _
  rw [State.replyOrder_room (by rw [cell]; exact room), State.enterOrder, State.takePortions_all]
  exact State.makeTicket_withReply _ m _ number _ _

section Placed

variable {s : State} {m : Sender} {screen : Byte} {raw : List (Byte × Byte)} (isNew : s.repeats m = none)
  (room : s.cell.queued < 16)
include isNew room

/-- R135, R137: an order refused. -/
theorem State.takeOrderPlace_refused {v : PlaceVerdict} (judged : s.judgePlace screen (orderLines raw) = .error v) :
    s.takeOrderPlace m screen raw =
      (s.modRouter fun r => { r with refused := bump16 r.refused }).withReply m v := by
  unfold orderLines at judged
  simp only [State.takeOrderPlace, isNew, judged]
  exact State.replyOrder_room (s := s.modRouter fun r => { r with refused := bump16 r.refused }) room m v

/-- R136 to R138: an order accepted, answered, its tickets made, and each of its stations' dispatch tried. -/
theorem State.takeOrderPlace_placed {chosen : List KitchenId} {scr : Option ScreenId} {number : Nat}
    (seat : fromOne 4 screen.toNat = scr) (judged : s.judgePlace screen (orderLines raw) = .ok chosen)
    (numbered : s.freeNumber 999 s.router.nextNumber = number) :
    let pool := s.router.freeTickets.take (distinctKitchens chosen).length
    s.takeOrderPlace m screen raw =
      (distinctKitchens chosen).foldl State.dispatch
        ((pool.zip ((distinctKitchens chosen).map fun k => (k, linesFor (orderLines raw) chosen k))).foldl
          (State.makeTicket number (s.isRush scr))
          (s.accepted m (newOrder m scr (orderLines raw) number (s.isRush scr) pool))) := by
  subst numbered seat
  unfold orderLines at judged
  simp only [State.takeOrderPlace, isNew, judged]
  rw [State.enterOrder_replied room]
  rfl

/-- R136, R138: an order of one station. -/
theorem State.takeOrderPlace_one {chosen : List KitchenId} {scr : Option ScreenId} {number : Nat} {k : KitchenId}
    {x : TicketId} {more : List TicketId} (seat : fromOne 4 screen.toNat = scr)
    (judged : s.judgePlace screen (orderLines raw) = .ok chosen)
    (numbered : s.freeNumber 999 s.router.nextNumber = number) (station : distinctKitchens chosen = [k])
    (pool : s.router.freeTickets = x :: more) :
    s.takeOrderPlace m screen raw =
      (State.makeTicket number (s.isRush scr)
        (s.accepted m (newOrder m scr (orderLines raw) number (s.isRush scr) [x]))
        (x, k, linesFor (orderLines raw) chosen k)).dispatch k := by
  rw [State.takeOrderPlace_placed isNew room seat judged numbered, station, pool]
  rfl

/-- R136, R138: an order of two stations, in their order. -/
theorem State.takeOrderPlace_two {chosen : List KitchenId} {scr : Option ScreenId} {number : Nat} {j k : KitchenId}
    {x y : TicketId} {more : List TicketId} (seat : fromOne 4 screen.toNat = scr)
    (judged : s.judgePlace screen (orderLines raw) = .ok chosen)
    (numbered : s.freeNumber 999 s.router.nextNumber = number) (stations : distinctKitchens chosen = [j, k])
    (pool : s.router.freeTickets = x :: y :: more) :
    let acc := s.accepted m (newOrder m scr (orderLines raw) number (s.isRush scr) [x, y])
    s.takeOrderPlace m screen raw =
      ((State.makeTicket number (s.isRush scr)
        (State.makeTicket number (s.isRush scr) acc (x, j, linesFor (orderLines raw) chosen j))
        (y, k, linesFor (orderLines raw) chosen k)).dispatch j).dispatch k := by
  rw [State.takeOrderPlace_placed isNew room seat judged numbered, stations, pool]
  rfl

end Placed

/-! ## Tickets made (R136 step 4, R138) -/

/-- `s` with ticket `v` at pool index `x`, and the backlog of station `k` as given. -/
def State.withWaiting (s : State) (k : KitchenId) (x : TicketId) (v : Ticket) (backlog : List TicketId) : State :=
  { s with
    router :=
      { s.router with
        tickets := s.router.tickets.set x (some v)
        kitchens := s.router.kitchens.set k { s.router.kitchens[k] with backlog := backlog } } }

/-- R138: a ticket that goes before a RUSH ticket just made. -/
def State.goesBefore (s : State) (y : TicketId) : Prop :=
  ∃ w, s.router.tickets[y] = some w ∧ (w.returned = true ∨ w.rush = true)

theorem State.goesBefore_iff (s : State) (y : TicketId) :
    (s.ticketReturned y || s.ticketRush y) = true ↔ s.goesBefore y := by
  unfold State.ticketReturned State.ticketRush State.goesBefore
  cases s.router.tickets[y] with
  | none => exact ⟨nofun, nofun⟩
  | some w => simp

theorem joinBehind_append {p : TicketId → Bool} {ahead rest : List TicketId} (before : ∀ y ∈ ahead, p y = true)
    (stops : ∀ y ys, rest = y :: ys → p y = false) (x : TicketId) :
    joinBehind p x (ahead ++ rest) = ahead ++ x :: rest := by
  rw [joinBehind, List.takeWhile_append_of_pos before, List.dropWhile_append_of_pos before]
  cases rest with
  | nil => simp
  | cons y ys =>
    rw [List.takeWhile_cons_of_neg (by simp [stops y ys rfl]), List.dropWhile_cons_of_neg (by simp [stops y ys rfl]),
      List.append_nil]

/-- R138: a ticket just made at a station whose backlog begins with the returned and the RUSH tickets `ahead`. -/
theorem State.makeTicket_joins {s : State} {k : KitchenId} {x : TicketId} {ahead rest : List TicketId}
    (backlog : s.router.kitchens[k].backlog = ahead ++ rest) (free : x ∉ ahead ++ rest)
    (before : ∀ y ∈ ahead, s.goesBefore y) (stops : ∀ y ys, rest = y :: ys → ¬ s.goesBefore y) (number : Nat)
    (rush : Bool) (lines : List OrderLine) :
    State.makeTicket number rush s (x, k, lines) =
      s.withWaiting k x (newTicket number rush k lines)
        (if rush then ahead ++ x :: rest else s.router.kitchens[k].backlog ++ [x]) := by
  let made := s.setTicket x (some (newTicket number rush k lines))
  have own : made.ticketRush x = rush := by simp [made, State.ticketRush, State.setTicket, State.modRouter, newTicket]
  have others {y : TicketId} (listed : y ∈ ahead ++ rest) :
      (made.ticketReturned y || made.ticketRush y) = true ↔ s.goesBefore y := by
    have ne : x.val ≠ y.val := fun same => free (Fin.ext same ▸ listed)
    rw [State.goesBefore_iff]
    simp [made, State.goesBefore, State.setTicket, State.modRouter, ne]
  have joined : joinBehind (fun y => made.ticketReturned y || made.ticketRush y) x s.router.kitchens[k].backlog =
      ahead ++ x :: rest := by
    rw [backlog]
    refine joinBehind_append (fun y listed => ?_) (fun y ys first => Bool.eq_false_iff.2 fun goes => ?_) x
    · exact (others (List.mem_append_left rest listed)).2 (before y listed)
    · exact stops y ys first ((others (List.mem_append_right ahead (first ▸ List.mem_cons_self))).1 goes)
  rw [← joined]
  change made.joinBacklog k x = _
  unfold State.joinBacklog
  rw [own]
  rfl

/-- R138: a ticket just made at a station with no backlog. -/
theorem State.makeTicket_alone {s : State} {k : KitchenId} (x : TicketId) (empty : s.router.kitchens[k].backlog = [])
    (number : Nat) (rush : Bool) (lines : List OrderLine) :
    State.makeTicket number rush s (x, k, lines) = s.withWaiting k x (newTicket number rush k lines) [x] := by
  rw [State.makeTicket_joins (ahead := []) (rest := []) empty List.not_mem_nil nofun nofun, empty]
  cases rush <;> rfl

theorem State.withWaiting_kitchen (s : State) (k : KitchenId) (x : TicketId) (v : Ticket) (b : List TicketId) :
    (s.withWaiting k x v b).router.kitchens[k] = { s.router.kitchens[k] with backlog := b } := by
  simp [State.withWaiting]

/-! ## Tickets sent at once (R138, R139) -/

/-- `s` with ticket `v` at pool index `x`, SENT at once. -/
def State.withFresh (s : State) (k : KitchenId) (x : TicketId) (v : Ticket) : State :=
  { s with
    router :=
      { s.router with
        tickets := s.router.tickets.set x
          (some { v with state := .sent, attempts := 0, returned := false
                         lateTimer := some s.router.kitchens[k].lateLimit })
        kitchens := s.router.kitchens.set k { s.router.kitchens[k] with sent := s.router.kitchens[k].sent + 1 }
        serials := s.router.serials.set x (s.router.serials[x] + 1) }
    cell := { s.cell with normal := s.cell.normal ++ [s.nextTicket k x v] } }

theorem State.withFresh_cell {s : State} {k : KitchenId} {x : TicketId} {v : Ticket} {o : OwnCell}
    (next : s.nextTicket k x v = o) : (s.withFresh k x v).cell = { s.cell with normal := s.cell.normal ++ [o] } := by
  rw [← next]
  rfl

/-- R138: station `k` takes a ticket at once, with no backlog before it. -/
structure State.takesAtOnce (s : State) (k : KitchenId) : Prop where
  present : s.router.kitchens[k].state = .present
  space : s.router.kitchens[k].sent < s.router.kitchens[k].limit
  empty : s.router.kitchens[k].backlog = []

theorem State.takesAtOnce.sendsOne {s : State} {k : KitchenId} (h : s.takesAtOnce k) {x : TicketId} {v : Ticket}
    (here : v.kitchen = k) : (s.withWaiting k x v [x]).sendsOne k x v := by
  have station := s.withWaiting_kitchen k x v [x]
  refine ⟨?_, ?_, ⟨[], ?_, .inl rfl⟩, ?_, here⟩
  · rw [station]
    exact h.present
  · rw [station]
    exact h.space
  · rw [station]
  · simp [State.withWaiting]

theorem State.takesAtOnce.withSent {s : State} {k : KitchenId} (h : s.takesAtOnce k) (x : TicketId) (v : Ticket) :
    (s.withWaiting k x v [x]).withSent k x v = s.withFresh k x v := by
  have cell : (s.withWaiting k x v [x]).nextTicket k x v = s.nextTicket k x v := by
    simp only [State.nextTicket, State.withWaiting_kitchen]
    rfl
  have station : ({ s.router.kitchens[k] with sent := s.router.kitchens[k].sent + 1, backlog := [] } : Kitchen) =
      { s.router.kitchens[k] with sent := s.router.kitchens[k].sent + 1 } := by rw [← h.empty]
  simp only [State.withSent, cell, State.withWaiting_kitchen, List.tail_cons, station]
  simp only [State.withWaiting, State.withFresh, Vector.set_set]

/-- R138, R139: a ticket just made, and sent by the dispatch that follows. -/
theorem State.takesAtOnce.dispatch {s : State} {k : KitchenId} (h : s.takesAtOnce k) (room : s.cell.queued < 16)
    {v : Ticket} (here : v.kitchen = k) (x : TicketId) : (s.withWaiting k x v [x]).dispatch k = s.withFresh k x v :=
  (State.dispatch_one (h.sendsOne here) room).trans (h.withSent x v)

theorem State.withFresh_kitchen_other (s : State) {j k : KitchenId} (stations : j ≠ k) (x : TicketId) (v : Ticket) :
    (s.withFresh j x v).router.kitchens[k] = s.router.kitchens[k] := by
  have kitchens : j.val ≠ k.val := fun same => stations (Fin.ext same)
  simp [State.withFresh, kitchens]

section TwoStations

variable {s : State} {j k : KitchenId} {x y : TicketId} {v w : Ticket} (stations : j ≠ k) (tickets : x ≠ y)
include stations tickets

/-- A send at one station and a ticket made for another do not meet. -/
theorem State.withWaiting_withSent (b : List TicketId) :
    (s.withWaiting k y w b).withSent j x v = (s.withSent j x v).withWaiting k y w b := by
  have kitchens : k.val ≠ j.val := fun same => stations (Fin.ext same.symm)
  have pool : y.val ≠ x.val := fun same => tickets (Fin.ext same.symm)
  have first : (s.withWaiting k y w b).router.kitchens[j] = s.router.kitchens[j] := by simp [State.withWaiting, kitchens]
  have second : (s.withSent j x v).router.kitchens[k] = s.router.kitchens[k] := by simp [State.withSent, kitchens.symm]
  have cell : (s.withWaiting k y w b).nextTicket j x v = s.nextTicket j x v := by
    simp only [State.nextTicket, first]
    rfl
  unfold State.withWaiting at first cell ⊢
  simp only [State.withSent, first, cell]
  simp only [State.withSent] at second
  simp only [second, Vector.set_comm _ _ kitchens, Vector.set_comm _ _ pool]

theorem State.withFresh_nextTicket : (s.withFresh j x v).nextTicket k y w = s.nextTicket k y w := by
  have pool : x.val ≠ y.val := fun same => tickets (Fin.ext same)
  have serial : (s.withFresh j x v).router.serials[y] = s.router.serials[y] := by simp [State.withFresh, pool]
  simp only [State.nextTicket, State.withFresh_kitchen_other s stations, serial]
  rfl

/-- R138, R139: two tickets sent at once. -/
theorem State.withFresh_two :
    (s.withFresh j x v).withFresh k y w =
      { s with
        router :=
          { s.router with
            tickets :=
              (s.router.tickets.set x
                (some { v with state := .sent, attempts := 0, returned := false
                               lateTimer := some s.router.kitchens[j].lateLimit })).set y
                (some { w with state := .sent, attempts := 0, returned := false
                               lateTimer := some s.router.kitchens[k].lateLimit })
            kitchens :=
              (s.router.kitchens.set j { s.router.kitchens[j] with sent := s.router.kitchens[j].sent + 1 }).set k
                { s.router.kitchens[k] with sent := s.router.kitchens[k].sent + 1 }
            serials := ((s.withFresh j x v).withFresh k y w).router.serials }
        cell := { s.cell with normal := s.cell.normal ++ [s.nextTicket j x v, s.nextTicket k y w] } } := by
  have station := s.withFresh_kitchen_other stations x v
  have cell := State.withFresh_nextTicket (s := s) (v := v) (w := w) stations tickets
  have back : (s.withFresh j x v).cell.normal ++ [s.nextTicket k y w] =
      s.cell.normal ++ [s.nextTicket j x v, s.nextTicket k y w] := List.append_assoc _ _ _
  generalize fresh : s.withFresh j x v = t at *
  simp only [State.withFresh, station, cell, back]
  subst fresh
  rfl

/-- R138, R139: two tickets just made for two stations, each sent by its dispatch. -/
theorem State.dispatch_two (first : s.takesAtOnce j) (second : s.takesAtOnce k) (room : s.cell.queued + 2 ≤ 16)
    (here : v.kitchen = j) (there : w.kitchen = k) :
    (((s.withWaiting j x v [x]).withWaiting k y w [y]).dispatch j).dispatch k = (s.withFresh j x v).withFresh k y w := by
  have kitchens : k.val ≠ j.val := fun same => stations (Fin.ext same.symm)
  have pool : y.val ≠ x.val := fun same => tickets (Fin.ext same.symm)
  have one : ((s.withWaiting j x v [x]).withWaiting k y w [y]).sendsOne j x v := by
    obtain ⟨present, space, ⟨rest, backlog, last⟩, ticket, here⟩ := first.sendsOne (x := x) here
    have station : ((s.withWaiting j x v [x]).withWaiting k y w [y]).router.kitchens[j] =
        (s.withWaiting j x v [x]).router.kitchens[j] := by simp [State.withWaiting, kitchens]
    have same : ((s.withWaiting j x v [x]).withWaiting k y w [y]).router.tickets[x] =
        (s.withWaiting j x v [x]).router.tickets[x] := by simp [State.withWaiting, pool]
    refine ⟨?_, ?_, ⟨rest, ?_, ?_⟩, same.trans ticket, here⟩ <;> rw [station] <;> assumption
  have fresh : (s.withFresh j x v).takesAtOnce k := by
    have station := s.withFresh_kitchen_other stations x v
    exact ⟨station ▸ second.present, station ▸ second.space, station ▸ second.empty⟩
  rw [State.dispatch_one one (Nat.lt_of_succ_lt room), State.withWaiting_withSent stations tickets, first.withSent]
  exact fresh.dispatch ((s.cell.queued_back _).trans_lt room) there y

end TwoStations

/-! ## Orders placed (R135 to R139) -/

section Judged

variable {s : State} {screen : Byte} {raw : List (Byte × Byte)} (opens : s.opensTo screen raw)
include opens

theorem State.judgePlace_faulty {v : PlaceVerdict}
    (fault : s.chooseLines (orderLines raw) 1 (orderLines raw) = .error v) :
    s.judgePlace screen (orderLines raw) = .error v := by
  rw [State.judgePlace_open opens, fault]

theorem State.judgePlace_full {chosen : List KitchenId}
    (choice : s.chooseLines (orderLines raw) 1 (orderLines raw) = .ok chosen)
    (full : 128 ≤ s.router.orders.length ∨ s.router.freeTickets.length < (distinctKitchens chosen).length) :
    s.judgePlace screen (orderLines raw) = .error .tableFull := by
  rw [State.judgePlace_open opens, choice]
  exact if_pos full

theorem State.judgePlace_ok {chosen : List KitchenId}
    (choice : s.chooseLines (orderLines raw) 1 (orderLines raw) = .ok chosen) (few : s.router.orders.length < 128)
    (pool : (distinctKitchens chosen).length ≤ s.router.freeTickets.length) :
    s.judgePlace screen (orderLines raw) = .ok chosen := by
  rw [State.judgePlace_open opens, choice]
  exact if_neg (not_or.2 ⟨Nat.not_le.2 few, Nat.not_lt.2 pool⟩)

end Judged

theorem State.chooseLines_one {s : State} {l : OrderLine} {r : Except PlaceVerdict KitchenId}
    (first : s.chooseLine [l] 1 l = r) : s.chooseLines [l] 1 [l] = r.map fun k => [k] := by
  subst first
  simp only [State.chooseLines]
  cases s.chooseLine [l] 1 l <;> rfl

theorem State.chooseLines_two {s : State} {l l' : OrderLine} {k : KitchenId} {r : Except PlaceVerdict KitchenId}
    (first : s.chooseLine [l, l'] 1 l = .ok k) (second : s.chooseLine [l, l'] 2 l' = r) :
    s.chooseLines [l, l'] 1 [l, l'] = r.map fun k' => [k, k'] := by
  subst second
  simp only [State.chooseLines, first]
  cases s.chooseLine [l, l'] 2 l' <;> rfl

theorem screenNumber_fromOne {n : Nat} (known : n ≤ 4) : screenNumber (fromOne 4 n) = n := by
  unfold fromOne
  split
  · next range => exact Nat.sub_add_cancel range.1
  · next out =>
    have zero : n = 0 := by omega
    exact zero.symm

theorem State.isRush_iff (s : State) (n : Nat) :
    s.isRush (fromOne 4 n) = true ↔
      ∃ c : ScreenId, n = c.val + 1 ∧ (s.screens[c].seq.shown = .intermission ∨ s.screens[c].ordering = .lastCall) := by
  simp only [← fromOne_eq_some_iff]
  cases fromOne 4 n with
  | none => exact ⟨nofun, fun ⟨_, seated, _⟩ => nomatch seated⟩
  | some c => simp [State.isRush]

/-- R136 step 3: the RUSH mark at acceptance. -/
theorem State.isRush_eq (s : State) (scr : Option ScreenId) :
    s.isRush scr =
      match scr with
      | none => false
      | some c => decide (s.screens[c].seq.shown = .intermission ∨ s.screens[c].ordering = .lastCall) := by
  cases scr with
  | none => rfl
  | some c => exact (Bool.decide_or _ _).symm

/-- R134: an order just accepted is found by its number. -/
theorem State.accepted_order? {s : State} {o : Order} (free : ∀ v ∈ s.router.orders, v.number ≠ o.number) (m : Sender) :
    (s.accepted m o).order? o.number = some o := by
  have others : s.router.orders.find? (fun v => v.number == o.number) = none := State.order?_none free
  simp [State.order?, State.accepted, List.find?_append, others]

theorem lineBytes_orderLines (raw : List (Byte × Byte)) :
    lineBytes (orderLines raw) = raw.flatMap fun l => [l.1, l.2] := by
  simp [lineBytes, orderLines, List.flatMap_map]

/-- R139: the TICKET of an order just accepted. -/
theorem State.accepted_nextTicket {s : State} {number : Nat} (free : ∀ v ∈ s.router.orders, v.number ≠ number)
    {screen : Byte} (known : screen.toNat ≤ 4) (m : Sender) (lines : List OrderLine) (rush : Bool)
    (pool : List TicketId) (k : KitchenId) (x : TicketId) (raw : List (Byte × Byte)) :
    (s.accepted m (newOrder m (fromOne 4 screen.toNat) lines number rush pool)).nextTicket k x
        (newTicket number rush k (orderLines raw)) =
      { kind := .ticket, dest := s.router.kitchens[k].loopStation, ref := .ticket x (s.router.serials[x] + 1)
        payload := le16 number ++ [screen] ++ le8 (k.val + 1) ++ flagByte rush ++ le8 raw.length ++
          raw.flatMap fun l => [l.1, l.2] } := by
  let o := newOrder m (fromOne 4 screen.toNat) lines number rush pool
  have found : (s.accepted m o).order? (newTicket number rush k (orderLines raw)).order = some o :=
    State.accepted_order? (o := o) free m
  have seated : le8 (screenNumber o.screen) = [screen] := by
    rw [le8, show o.screen = fromOne 4 screen.toNat from rfl, screenNumber_fromOne known, BitVec.ofNat_toNat,
      BitVec.setWidth_eq]
  have lines : (newTicket number rush k (orderLines raw)).lines = orderLines raw := rfl
  have count : (orderLines raw).length = raw.length := List.length_map _
  rw [State.nextTicket, found, lines, count, lineBytes_orderLines]
  simp only [seated]
  rfl

section Placed

variable {s : State} {m : Sender} {screen : Byte} {raw : List (Byte × Byte)} {chosen : List KitchenId}
  {scr : Option ScreenId} {number : Nat} (isNew : s.repeats m = none) (seat : fromOne 4 screen.toNat = scr)
  (judged : s.judgePlace screen (orderLines raw) = .ok chosen)
  (numbered : s.freeNumber 999 s.router.nextNumber = number)
include isNew seat judged numbered

/-- R135 to R138: an order of one station, its ticket made and sent at once. -/
theorem State.takeOrderPlace_one_sent (room : s.cell.queued + 2 ≤ 16) {k : KitchenId} {x : TicketId}
    {more : List TicketId} (station : distinctKitchens chosen = [k]) (pool : s.router.freeTickets = x :: more)
    (takes : s.takesAtOnce k) :
    s.takeOrderPlace m screen raw =
      (s.accepted m (newOrder m scr (orderLines raw) number (s.isRush scr) [x])).withFresh k x
        (newTicket number (s.isRush scr) k (linesFor (orderLines raw) chosen k)) := by
  let acc := s.accepted m (newOrder m scr (orderLines raw) number (s.isRush scr) [x])
  have takes : acc.takesAtOnce k := ⟨takes.present, takes.space, takes.empty⟩
  have queued : acc.cell.queued < 16 := (s.cell.queued_back _).trans_lt room
  rw [State.takeOrderPlace_one isNew (Nat.lt_of_succ_lt room) seat judged numbered station pool,
    State.makeTicket_alone x takes.empty]
  exact takes.dispatch queued rfl x

/-- R135 to R138: an order of one station that has no place for another ticket. -/
theorem State.takeOrderPlace_one_waits (room : s.cell.queued < 16) {k : KitchenId} {x : TicketId}
    {more ahead rest : List TicketId} (station : distinctKitchens chosen = [k])
    (pool : s.router.freeTickets = x :: more) (full : s.router.kitchens[k].limit ≤ s.router.kitchens[k].sent)
    (backlog : s.router.kitchens[k].backlog = ahead ++ rest) (made : ∀ y ∈ ahead ++ rest, s.router.tickets[y] ≠ none)
    (before : ∀ y ∈ ahead, s.goesBefore y) (stops : ∀ y ys, rest = y :: ys → ¬ s.goesBefore y) :
    s.takeOrderPlace m screen raw =
      (s.accepted m (newOrder m scr (orderLines raw) number (s.isRush scr) [x])).withWaiting k x
        (newTicket number (s.isRush scr) k (linesFor (orderLines raw) chosen k))
        (if s.isRush scr then ahead ++ x :: rest else s.router.kitchens[k].backlog ++ [x]) := by
  let acc := s.accepted m (newOrder m scr (orderLines raw) number (s.isRush scr) [x])
  have free : s.router.tickets[x] = none := Router.mem_freeTickets.1 (pool ▸ List.mem_cons_self)
  have others : x ∉ ahead ++ rest := fun listed => made x listed free
  have joins := State.makeTicket_joins (s := acc) backlog others before stops number (s.isRush scr)
    (linesFor (orderLines raw) chosen k)
  rw [State.takeOrderPlace_one isNew room seat judged numbered station pool, joins]
  refine State.dispatch_none (.inr (.inr ?_))
  rw [State.withWaiting_kitchen]
  exact full

/-- R135 to R138: an order of one station that has no place for another ticket, and no backlog. -/
theorem State.takeOrderPlace_one_waits_alone (room : s.cell.queued < 16) {k : KitchenId} {x : TicketId}
    {more : List TicketId} (station : distinctKitchens chosen = [k]) (pool : s.router.freeTickets = x :: more)
    (full : s.router.kitchens[k].limit ≤ s.router.kitchens[k].sent) (empty : s.router.kitchens[k].backlog = []) :
    s.takeOrderPlace m screen raw =
      (s.accepted m (newOrder m scr (orderLines raw) number (s.isRush scr) [x])).withWaiting k x
        (newTicket number (s.isRush scr) k (linesFor (orderLines raw) chosen k)) [x] := by
  rw [State.takeOrderPlace_one_waits (ahead := []) (rest := []) isNew seat judged numbered room station pool full empty
    nofun nofun nofun, empty]
  split <;> rfl

/-- R135 to R138: an order of two stations, each sent its ticket at once. -/
theorem State.takeOrderPlace_two_sent (room : s.cell.queued + 3 ≤ 16) {j k : KitchenId} {x y : TicketId}
    {more : List TicketId} (stations : distinctKitchens chosen = [j, k]) (ne : j ≠ k)
    (pool : s.router.freeTickets = x :: y :: more) (apart : x ≠ y) (first : s.takesAtOnce j)
    (second : s.takesAtOnce k) :
    s.takeOrderPlace m screen raw =
      ((s.accepted m (newOrder m scr (orderLines raw) number (s.isRush scr) [x, y])).withFresh j x
        (newTicket number (s.isRush scr) j (linesFor (orderLines raw) chosen j))).withFresh k y
        (newTicket number (s.isRush scr) k (linesFor (orderLines raw) chosen k)) := by
  let acc := s.accepted m (newOrder m scr (orderLines raw) number (s.isRush scr) [x, y])
  have first : acc.takesAtOnce j := ⟨first.present, first.space, first.empty⟩
  have second : acc.takesAtOnce k := ⟨second.present, second.space, second.empty⟩
  have queued : acc.cell.queued + 2 ≤ 16 := by
    have back : acc.cell.queued = s.cell.queued + 1 := s.cell.queued_back _
    omega
  have made (v : Ticket) : (acc.withWaiting j x v [x]).router.kitchens[k].backlog = [] := by
    have kitchens : j.val ≠ k.val := fun same => ne (Fin.ext same)
    have station : (acc.withWaiting j x v [x]).router.kitchens[k] = acc.router.kitchens[k] := by
      simp [State.withWaiting, kitchens]
    rw [station]
    exact second.empty
  rw [State.takeOrderPlace_two isNew (by omega) seat judged numbered stations pool,
    State.makeTicket_alone x first.empty, State.makeTicket_alone y (made _)]
  exact State.dispatch_two ne apart first second queued rfl rfl

end Placed

/-! ## The lines of each station (R136 step 4) -/

theorem linesFor_one (l : OrderLine) (k : KitchenId) : linesFor [l] [k] k = [l] := by simp [linesFor]

theorem linesFor_same (l l' : OrderLine) (k : KitchenId) : linesFor [l, l'] [k, k] k = [l, l'] := by simp [linesFor]

theorem linesFor_first (l l' : OrderLine) {j k : KitchenId} (ne : j ≠ k) : linesFor [l, l'] [j, k] j = [l] := by
  simp [linesFor, ne.symm]

theorem linesFor_second (l l' : OrderLine) {j k : KitchenId} (ne : j ≠ k) : linesFor [l, l'] [j, k] k = [l'] := by
  simp [linesFor, ne]

/-! ## An order of one line (R135) -/

/-- R135 step 3: an item on the menu that a PRESENT station makes. -/
structure State.serves (s : State) (item : Byte) (k : KitchenId) : Prop where
  on : (s.menuItem item).available = true
  station : s.servedAt (s.menuItem item) k

theorem State.serves.of_primary {s : State} {item : Byte} {k : KitchenId}
    (h : (s.menuItem item).available = true ∧ (s.menuItem item).primary = k ∧ s.router.kitchens[k].state = .present) :
    s.serves item k := by
  obtain ⟨on, primary, present⟩ := h
  exact ⟨on, .inl ⟨primary.symm, present⟩⟩

section OneLine

variable {s : State} {screen item q : Byte} (opens : s.opensTo screen [(item, q)])
include opens

theorem State.judgeOne_unknown (off : (s.menuItem item).available = false) :
    s.judgePlace screen (orderLines [(item, q)]) = .error (.unknownItem 1) :=
  State.judgePlace_faulty opens (State.chooseLines_one (State.chooseLine_unknown off 1))

theorem State.judgeOne_soldOut (on : (s.menuItem item).available = true) (short : ¬ (s.menuItem item).holds q.toNat) :
    s.judgePlace screen (orderLines [(item, q)]) = .error (.soldOut 1) := by
  obtain ⟨p, counted, short⟩ := MenuItem.not_holds short
  have short : p < totalOf (orderLines [(item, q)]) item := (totalOf_one item q.toNat).symm ▸ short
  exact State.judgePlace_faulty opens (State.chooseLines_one (State.chooseLine_soldOut on counted short 1))

theorem State.judgeOne_noStation (on : (s.menuItem item).available = true) (stocked : (s.menuItem item).holds q.toNat)
    (away : s.unserved (s.menuItem item)) :
    s.judgePlace screen (orderLines [(item, q)]) = .error (.noStation 1) := by
  have stocked : (s.menuItem item).holds (totalOf (orderLines [(item, q)]) item) :=
    (totalOf_one item q.toNat).symm ▸ stocked
  exact State.judgePlace_faulty opens (State.chooseLines_one (State.chooseLine_noStation on stocked away 1))

variable {k : KitchenId} (serves : s.serves item k) (stocked : (s.menuItem item).holds q.toNat)
include serves stocked

omit opens in
theorem State.chooseOne : s.chooseLines (orderLines [(item, q)]) 1 (orderLines [(item, q)]) = .ok [k] := by
  have stocked : (s.menuItem item).holds (totalOf (orderLines [(item, q)]) item) :=
    (totalOf_one item q.toNat).symm ▸ stocked
  exact State.chooseLines_one (State.chooseLine_served serves.on stocked serves.station 1)

theorem State.judgeOne_full (full : 128 ≤ s.router.orders.length ∨ ∀ x : TicketId, s.router.tickets[x] ≠ none) :
    s.judgePlace screen (orderLines [(item, q)]) = .error .tableFull := by
  refine State.judgePlace_full opens (State.chooseOne serves stocked) (full.imp_right fun none => ?_)
  have empty : s.router.freeTickets = [] :=
    List.eq_nil_iff_forall_not_mem.2 fun x free => none x (Router.mem_freeTickets.1 free)
  rw [empty, distinctKitchens_one]
  exact Nat.one_pos

theorem State.judgeOne_ok {x : TicketId} {more : List TicketId} (few : s.router.orders.length < 128)
    (pool : s.router.freeTickets = x :: more) : s.judgePlace screen (orderLines [(item, q)]) = .ok [k] := by
  refine State.judgePlace_ok opens (State.chooseOne serves stocked) few ?_
  rw [distinctKitchens_one, pool]
  exact Nat.succ_le_succ (Nat.zero_le _)

end OneLine

/-! ## An order of two lines (R135) -/

theorem State.judgeTwo_soldOut_same {s : State} {screen item q₁ q₂ : Byte} {n : Nat}
    (opens : s.opensTo screen [(item, q₁), (item, q₂)]) (on : (s.menuItem item).available = true)
    (counted : (s.menuItem item).portions = some n) (short : n < q₁.toNat + q₂.toNat) :
    s.judgePlace screen (orderLines [(item, q₁), (item, q₂)]) = .error (.soldOut 1) := by
  let lines := orderLines [(item, q₁), (item, q₂)]
  have short : n < totalOf lines item := (totalOf_same item q₁.toNat q₂.toNat).symm ▸ short
  have first : s.chooseLine lines 1 ⟨item, q₁.toNat⟩ = .error (.soldOut 1) :=
    State.chooseLine_soldOut on counted short 1
  refine State.judgePlace_faulty opens ?_
  change s.chooseLines lines 1 (⟨item, q₁.toNat⟩ :: _) = _
  simp only [State.chooseLines, first]

theorem distinctKitchens_two_length {j k : KitchenId} (ne : j ≠ k) : (distinctKitchens [j, k]).length = 2 := by
  rw [distinctKitchens_two ne]
  split <;> rfl

section TwoLines

variable {s : State} {screen i₁ i₂ q₁ q₂ : Byte} {k₁ : KitchenId}
  (opens : s.opensTo screen [(i₁, q₁), (i₂, q₂)]) (items : i₁ ≠ i₂) (serves₁ : s.serves i₁ k₁)
  (stocked₁ : (s.menuItem i₁).holds q₁.toNat)
include items serves₁ stocked₁

theorem State.chooseTwo {r : Except PlaceVerdict KitchenId}
    (second : s.chooseLine (orderLines [(i₁, q₁), (i₂, q₂)]) 2 ⟨i₂, q₂.toNat⟩ = r) :
    s.chooseLines (orderLines [(i₁, q₁), (i₂, q₂)]) 1 (orderLines [(i₁, q₁), (i₂, q₂)]) =
      r.map fun k₂ => [k₁, k₂] := by
  have stocked : (s.menuItem i₁).holds (totalOf (orderLines [(i₁, q₁), (i₂, q₂)]) i₁) :=
    (totalOf_first items q₁.toNat q₂.toNat).symm ▸ stocked₁
  exact State.chooseLines_two (State.chooseLine_served serves₁.on stocked serves₁.station 1) second

section Refused

include opens

theorem State.judgeTwo_unknown (off : (s.menuItem i₂).available = false) :
    s.judgePlace screen (orderLines [(i₁, q₁), (i₂, q₂)]) = .error (.unknownItem 2) :=
  State.judgePlace_faulty opens (State.chooseTwo items serves₁ stocked₁ (State.chooseLine_unknown off 2))

theorem State.judgeTwo_soldOut (on : (s.menuItem i₂).available = true) (short : ¬ (s.menuItem i₂).holds q₂.toNat) :
    s.judgePlace screen (orderLines [(i₁, q₁), (i₂, q₂)]) = .error (.soldOut 2) := by
  obtain ⟨p, counted, short⟩ := MenuItem.not_holds short
  have short : p < totalOf (orderLines [(i₁, q₁), (i₂, q₂)]) i₂ := (totalOf_second items q₁.toNat q₂.toNat).symm ▸ short
  exact State.judgePlace_faulty opens
    (State.chooseTwo items serves₁ stocked₁ (State.chooseLine_soldOut on counted short 2))

end Refused

variable {k₂ : KitchenId} (serves₂ : s.serves i₂ k₂) (stocked₂ : (s.menuItem i₂).holds q₂.toNat)
include serves₂ stocked₂

theorem State.chooseTwo_served :
    s.chooseLines (orderLines [(i₁, q₁), (i₂, q₂)]) 1 (orderLines [(i₁, q₁), (i₂, q₂)]) = .ok [k₁, k₂] := by
  have stocked : (s.menuItem i₂).holds (totalOf (orderLines [(i₁, q₁), (i₂, q₂)]) i₂) :=
    (totalOf_second items q₁.toNat q₂.toNat).symm ▸ stocked₂
  exact State.chooseTwo items serves₁ stocked₁ (State.chooseLine_served serves₂.on stocked serves₂.station 2)

include opens

theorem State.judgeTwo_full (stations : k₁ ≠ k₂)
    (single : ∀ x y : TicketId, s.router.tickets[x] = none → s.router.tickets[y] = none → x = y) :
    s.judgePlace screen (orderLines [(i₁, q₁), (i₂, q₂)]) = .error .tableFull := by
  refine State.judgePlace_full opens (State.chooseTwo_served items serves₁ stocked₁ serves₂ stocked₂) (.inr ?_)
  rw [distinctKitchens_two_length stations]
  exact Router.freeTickets_lt_two single

theorem State.judgeTwo_ok (few : s.router.orders.length < 128)
    (pool : (distinctKitchens [k₁, k₂]).length ≤ s.router.freeTickets.length) :
    s.judgePlace screen (orderLines [(i₁, q₁), (i₂, q₂)]) = .ok [k₁, k₂] :=
  State.judgePlace_ok opens (State.chooseTwo_served items serves₁ stocked₁ serves₂ stocked₂) few pool

end TwoLines

end Sys2Proof.Machine

namespace Sys2Proof.Proofs
open Machine

/-- Settles O54: a repeat, the checks of R135 in their order, and the orders placed: of one line, sent or waiting, and of two
lines, for one station and for two. -/
theorem orderPlace : Obligations.OrderPlace := by
  intro s m screen lines stranger room place reply refused isNew bad closed
  have space : s.cell.queued < 16 := Nat.lt_of_succ_lt room.queued
  have run {t : State} (placed : s.takeOrderPlace m screen lines = t) : exec place s = .next t :=
    congrArg Host.Outcome.next
      ((congrArg (State.takeOrderPlace · m screen lines) (State.cellSeen_stranger stranger)).trans placed)
  have turnedDown (new : isNew) {v : PlaceVerdict} {code line : Byte} (bytes : v.bytes = [code, 0, 0, line])
      (judged : s.judgePlace screen (orderLines lines) = .error v) : exec place s = .next (refused code line) := by
    refine run ((State.takeOrderPlace_refused (State.repeats_none new) space judged).trans ?_)
    rw [State.withReply, orderReplyCell, bytes]
    rfl
  refine ⟨?_, ?_, ?_, ?_, ?_⟩
  · intro before after o orders origin tag others
    exact run (State.takeOrderPlace_repeat (State.repeats_first orders ⟨origin, tag⟩ others) space screen lines)
  · exact fun new misfit => turnedDown new rfl (s.judgePlace_bad misfit)
  · exact fun new fits shut => turnedDown new rfl (State.judgePlace_closed fits shut)
  · intro item q new fits opened only i dish present stocked
    subst only
    have opens : s.opensTo screen [(item, q)] := ⟨fits, opened⟩
    refine ⟨fun off => turnedDown new rfl (State.judgeOne_unknown opens off),
      fun on short => turnedDown new rfl (State.judgeOne_soldOut opens on short),
      fun on enough away other => turnedDown new rfl (State.judgeOne_noStation opens on enough ⟨away, other⟩),
      fun k on enough made => ?_⟩
    have serves : s.serves item k := ⟨on, made⟩
    refine ⟨fun full => turnedDown new rfl (State.judgeOne_full opens serves enough full),
      fun few free low high unheld empty => ?_⟩
    intro number line station sends
    have known := badOrder.known fits
    obtain ⟨x, more, pool, unused⟩ := Router.freeTickets_cons free
    have numbered : s.freeNumber 999 number = number := State.freeNumber_free unheld 998
    have judged := State.judgeOne_ok opens serves enough few pool
    have rush := s.isRush_eq (fromOne 4 screen.toNat)
    by_cases goes : sends
    · have placed := State.takeOrderPlace_one_sent (State.repeats_none new) rfl judged numbered room.queued
        (distinctKitchens_one k) pool ⟨serves.station.present, goes, empty⟩
      rw [show orderLines [(item, q)] = [line] from rfl, linesFor_one] at placed
      have cell := State.accepted_nextTicket unheld known m [line] (s.isRush (fromOne 4 screen.toNat)) [x] k x [(item, q)]
      simp only [if_pos goes]
      refine ⟨_, x, _, fromOne 4 screen.toNat, run placed, screenNumber_fromOne known, rush, unused, rfl, rfl,
        nextOrderNumber_wraps high, rfl, rfl, rfl, ?_, rfl⟩
      rw [List.append_assoc _ (le8 _)] at cell
      exact State.withFresh_cell cell
    · have placed := State.takeOrderPlace_one_waits_alone (State.repeats_none new) rfl judged numbered space
        (distinctKitchens_one k) pool (Nat.not_lt.1 goes) empty
      rw [show orderLines [(item, q)] = [line] from rfl, linesFor_one] at placed
      simp only [if_neg goes, List.append_nil]
      exact ⟨_, x, _, fromOne 4 screen.toNat, run placed, screenNumber_fromOne known, rush, unused, rfl, rfl,
        nextOrderNumber_wraps high, rfl, rfl, rfl, rfl, rfl⟩
  · intro new fits opened few low high wrapped dish less stocked serves rushes goesBefore
    have known := badOrder.known fits
    have rush : s.isRush (fromOne 4 screen.toNat) = true ↔ rushes := s.isRush_iff screen.toNat
    refine ⟨?_, ?_, ?_⟩
    · intro item q k number ahead rest only served enough free counted unheld full backlog made before stops
      subst only
      have serves : s.serves item k := .of_primary served
      obtain ⟨x, more, pool, unused⟩ := Router.freeTickets_cons free
      have wraps := nextOrderNumber_wraps high
      obtain ⟨numbered, last⟩ := State.freeNumber_either high unheld (wraps ▸ counted)
      have judged := State.judgeOne_ok ⟨fits, opened⟩ serves enough few pool
      have placed := State.takeOrderPlace_one_waits (State.repeats_none new) rfl judged numbered space
        (distinctKitchens_one k) pool full backlog made before stops
      rw [show orderLines [(item, q)] = [⟨item, q.toNat⟩] from rfl, linesFor_one] at placed
      exact ⟨_, x, _, run placed, unused, rfl, rfl, rfl, rush, rfl, rfl, nextOrderNumber_wraps last, rfl, rfl⟩
    · intro item q1 q2 n only on counted short
      subst only
      exact turnedDown new rfl (State.judgeTwo_soldOut_same ⟨fits, opened⟩ on counted short)
    · intro i1 i2 q1 q2 k1 k2 only items served1 stocked1
      subst only
      have opens : s.opensTo screen [(i1, q1), (i2, q2)] := ⟨fits, opened⟩
      have line {item : Byte} {k : KitchenId} (served : serves item k) : s.serves item k := .of_primary served
      refine ⟨fun off => turnedDown new rfl (State.judgeTwo_unknown opens items (line served1) stocked1 off),
        fun served2 short => turnedDown new rfl
          (State.judgeTwo_soldOut opens items (line served1) stocked1 (line served2).on short),
        fun served2 stocked2 stations single => turnedDown new rfl
          (State.judgeTwo_full opens items (line served1) stocked1 (line served2) stocked2 stations single), ?_⟩
      intro served2 stocked2 room unheld takes number l1 l2 order ticket sends cell entered
      have atOnce1 : s.takesAtOnce k1 :=
        ⟨(line served1).station.present, (takes k1 (.inl rfl)).2, (takes k1 (.inl rfl)).1⟩
      have atOnce2 : s.takesAtOnce k2 :=
        ⟨(line served2).station.present, (takes k2 (.inr rfl)).2, (takes k2 (.inr rfl)).1⟩
      let scr := fromOne 4 screen.toNat
      have seated : screenNumber scr = screen.toNat := screenNumber_fromOne known
      have numbered : s.freeNumber 999 number = number := State.freeNumber_free unheld 998
      have judged := State.judgeTwo_ok opens items (line served1) stocked1 (line served2) stocked2 few
      have menu := sellFrom_two items s.router.menu q1.toNat q2.toNat
      have sent (pool : List TicketId) (k : KitchenId) (x : TicketId) (raw : List (Byte × Byte)) :
          (s.accepted m (newOrder m scr [l1, l2] number (s.isRush scr) pool)).nextTicket k x
            (newTicket number (s.isRush scr) k (orderLines raw)) = cell (s.isRush scr) x k raw :=
        State.accepted_nextTicket unheld known m _ _ pool k x raw
      have behind (l : List OwnCell) : s.cell.normal ++ [reply ([0] ++ le16 number ++ [0])] ++ l =
          s.cell.normal ++ reply ([0] ++ le16 number ++ [0]) :: l := List.append_assoc _ _ _
      have back (l : List OwnCell) := congrArg (fun l => ({ s.cell with normal := l } : CellProcessor)) (behind l)
      have wraps := nextOrderNumber_wraps high
      refine ⟨fun same free => ?_, fun apart free => ?_⟩
      · subst same
        obtain ⟨x, more, pool, unused⟩ := Router.freeTickets_cons free
        have placed := State.takeOrderPlace_one_sent (State.repeats_none new) rfl
          (judged (by rw [distinctKitchens_same, pool]; exact Nat.succ_le_succ (Nat.zero_le _))) numbered
          (Nat.le_of_succ_le room.queued) (distinctKitchens_same k1) pool atOnce1
        rw [show orderLines [(i1, q1), (i2, q2)] = [l1, l2] from rfl, linesFor_same] at placed
        refine ⟨_, x, scr, _, ⟨run placed, wraps, rfl, menu, rfl⟩, unused, seated, rush, rfl, rfl, rfl, ?_⟩
        exact (State.withFresh_cell (sent [x] k1 x [(i1, q1), (i2, q2)])).trans (back _)
      · obtain ⟨x, y, more, pool, tickets, unusedX, unusedY⟩ := Router.freeTickets_cons_cons free
        have judged := judged (by rw [distinctKitchens_two_length apart, pool]; exact Nat.le_add_left 2 _)
        have stations := distinctKitchens_two apart
        have first : linesFor [l1, l2] [k1, k2] k1 = orderLines [(i1, q1)] := linesFor_first _ _ apart
        have second : linesFor [l1, l2] [k1, k2] k2 = orderLines [(i2, q2)] := linesFor_second _ _ apart
        by_cases below : k1 < k2
        · have placed := State.takeOrderPlace_two_sent (State.repeats_none new) rfl judged numbered room.queued
            (stations.trans (if_pos below)) apart pool tickets atOnce1 atOnce2
          rw [show orderLines [(i1, q1), (i2, q2)] = [l1, l2] from rfl, first, second,
            State.withFresh_two apart tickets, sent, sent] at placed
          simp only [if_pos below]
          exact ⟨_, x, y, scr, _, ⟨run placed, wraps, rfl, menu, rfl⟩, tickets, unusedX, unusedY, seated, rush, rfl, rfl,
            rfl, back _⟩
        · have placed := State.takeOrderPlace_two_sent (State.repeats_none new) rfl judged numbered room.queued
            (stations.trans (if_neg below)) apart.symm pool tickets atOnce2 atOnce1
          rw [show orderLines [(i1, q1), (i2, q2)] = [l1, l2] from rfl, first, second,
            State.withFresh_two apart.symm tickets, sent, sent] at placed
          simp only [if_neg below]
          refine ⟨_, y, x, scr, _, ⟨run placed, wraps, rfl, menu, rfl⟩, tickets.symm, unusedY, unusedX, seated, rush, rfl,
            ?_, ?_, back _⟩
          · exact Vector.set_comm _ _ fun same => tickets (Fin.ext same)
          · exact Vector.set_comm _ _ fun same => apart (Fin.ext same.symm)

end Sys2Proof.Proofs
